-- ==== Sys2Proof/Word.lean ====
section
/-! DEFINITION. The words, bytes and addresses of the register space, the closed sets of names the spec uses everywhere
(variants, agents, boundaries, access codes, modes, row codes), and the shape of one register field. -/
namespace Sys2Proof

/-- A register word: "Registers are 32 bits wide" (R496). -/
abbrev Word := BitVec 32

/-- A register address, 0x0000_0000 to 0x00FF_FFFF (R496). -/
abbrev RegAddr := BitVec 24

/-- A byte of DRAM or of a message. -/
abbrev Byte := BitVec 8

/-- The three variants of R2. -/
inductive Variant | sq7260 | sq7244 | sq7212
deriving DecidableEq, Repr

/-- The agents that reach the register space (R499). -/
inductive Agent | cpu0 | cpu1 | jtag | spi | host
deriving DecidableEq, Repr

/-- The boundaries at which a write takes effect (R19), in the order of their codes (R519). -/
inductive Boundary | commit | line | oline | pass | page | idle
deriving DecidableEq, Repr

/-- Boundary codes (R519). -/
def Boundary.code : Boundary → Nat
  | .commit => 0 | .line => 1 | .oline => 2 | .pass => 3 | .page => 4 | .idle => 5

/-- Register access codes (R18). -/
inductive Access | rw | ro | wo | w1c | w1s | rws
deriving DecidableEq, Repr

/-- The modes of R34. -/
inductive Mode | idle | inspect | capture | calibrate | service
deriving DecidableEq, Repr

/-- Mode codes, as SYS_MODE_REQ and SYS_MODE_CUR carry them (R34). -/
def Mode.code : Mode → Nat
  | .idle => 0 | .inspect => 1 | .capture => 2 | .calibrate => 3 | .service => 4

/-- One register field of the spec's field tables: where it stands, how it is accessed, what it holds at reset and
which values a write may store. `page` is the first page that holds it, `pages` how many pages do (one per instance), and
`off + stride * i` the offset of element `i` of `count`. -/
structure Row where
  page : Nat
  pages : Nat
  off : Nat
  stride : Nat
  count : Nat
  lsb : Nat
  width : Nat
  acc : Access
  rst : Nat
  bnd : Boundary
  lo : Nat
  hi : Nat
  align : Nat
  kept : Bool
  rstStep : Nat
  /-- Reset values listed by: 0 none, 1 element, 2 page instance, 3 variant. -/
  rstKind : Nat
  rsts : List Nat
deriving DecidableEq, Repr

end Sys2Proof
end

