-- ==== Sys2Proof/Syntax.lean ====
section
/-! DEFINITION. The commands: one constructor of `Instr` for each row of spec/opcode_table.json, in the table's order, and before
them the shapes of what comes from outside with a command (messages, measurements, frames). -/
namespace Sys2Proof


/-- What one video input gives for the line a judging group ends (R85, R95, R97, R104). -/
structure TapIn where
  /-- Mean ADC code of the first 4 clocks of the CLAMP interval, or of its other clocks in reference-sample mode; none where the
  interval did not complete. -/
  clamp : Option Int
  /-- The per-line impedance estimate in ohms; none without a complete TONE. -/
  zest : Option Nat
  /-- Codes by which the two internal references depart from their calibrated codes; none where the self-check was skipped. -/
  selfCheck : Option (Int × Int)
  /-- The codes of the line's SAMPLE interval in order, each with its over-range mark. -/
  codes : List (Nat × Bool)
deriving DecidableEq, Repr

/-- A block of a slice's rows that the digital lane or the SRAM cannot vouch for in a line (R457, R458, R459, R461): slice, row code, block;
a failed check of the lane, or else a withheld word; the pixel, where it is a shading word of the SRAM that cannot be read; and whether the
lane's context was found stored with an uncorrectable error, which takes the lane over without a failed check. -/
structure LaneBad where
  slice : Nat
  row : Nat
  block : Nat
  check : Bool
  shade : Option Nat := none
  context : Bool := false
deriving DecidableEq, Repr

/-- What the memories and the digital lane got wrong in a line: the blocks not vouched for, and the SRAM words read with a correctable error (R457,
R458, R461). -/
structure LineFaults where
  lanes : List LaneBad := []
  ce : List Nat := []
deriving DecidableEq, Repr

/-- What start-up cannot read or finds invalid in NOR, should the ROM run now: the copies of the boot control record (R474), the slots
(R476), the copies of the device certificate (R485) and the pairing record (R492); and an identity key that does not give DEVICE_ID (R484). -/
structure NorFaults where
  recA : Bool := false
  recB : Bool := false
  slotA : Bool := false
  slotB : Bool := false
  certA : Bool := false
  certB : Bool := false
  pair : Bool := false
  ident : Bool := false
deriving DecidableEq, Repr

/-- A PLL that gains lock, and what start-up finds in NOR should this lock let the ROM run (R537, R546). -/
structure PllLock where
  pll : Fin 11
  nor : NorFaults := {}
deriving DecidableEq, Repr

/-- What two step generators report on a tick (R266): parity error of the active one, of its shadow, outputs that differ. -/
structure GenReport where
  active : Bool
  shadow : Bool
  differ : Bool
deriving DecidableEq, Repr


/-- A request pending at one input of the DRAM port (R317, R318): input, write or read, address, bytes, and how long it has
waited. -/
structure ArbReq where
  input : Nat
  write : Bool
  addr : Nat
  bytes : Nat
  waitNs : Nat
deriving DecidableEq, Repr

/-- An ECC error of a read: the 32-byte data block of the transaction, counted from its first byte, and whether the error is
uncorrectable (R315, R332). -/
structure EccError where
  block : Fin 64
  ue : Bool
deriving DecidableEq, Repr


/-- Header of a Tyrex datagram from the host (R398), with who sent it (65,536 times the host's address and its port added), whether its LENGTH agrees
with the datagram and the datagram's length (R399), the port of the device it was sent to (R382, R397), and its 16-byte tag where it carries
one (R412). -/
structure Hdr where
  version : BitVec 8
  session : BitVec 32
  seq : BitVec 32
  epoch : BitVec 16
  unordered : Bool
  tag : Option (List Byte)
  lengthOk : Bool
  total : Nat
  src : Nat
  port : BitVec 16
deriving DecidableEq, Repr

/-- What a PTP message from the master carries (R392), times in ns: Announce with the grandmaster's identity; Sync, with its origin
time from a one-step master; Follow_Up; Delay_Resp with the time of receipt; Pdelay_Resp with the responder's turnaround. -/
inductive PtpBody where
  | announce (gm : BitVec 64)
  | sync (origin : Option Nat)
  | followUp (origin : Nat)
  | delayResp (received : Nat)
  | pdelayResp (turnaround : Nat)
deriving DecidableEq, Repr

/-- A PTP message: transport as PTP_CTRL_TRANSPORT codes it, domain, body. -/
structure PtpMsg where
  transport : Nat
  domain : Nat
  body : PtpBody
deriving DecidableEq, Repr

/-- Kinds of Ethernet frame that are neither a Tyrex message of R399 nor PTP (R382). -/
inductive FrameKind where
  | arp
  | ndp
  | icmpEcho
  | dhcpLease (ip mask gw : Word)
  /-- A datagram to a Tyrex port whose TYPE is none that the host sends (R399). -/
  | tyrexOther
  | other
deriving DecidableEq, Repr

/-- A received frame: length with MAC header, tag and FCS; whether it carries an 802.1Q tag; whether it is a fragment of an IP datagram. -/
structure RxFrame where
  kind : FrameKind
  bytes : Nat
  vlan : Bool
  fragment : Bool
deriving DecidableEq, Repr


/-- A part that Filler retests (R463): converter `n` of slice `k` (10 and 11 are its spares), the generator of an axis page, the lane
of a slice, a thermal sensor. -/
inductive FillerPart where
  | adc (k : Fin 24) (n : Fin 12)
  | gen (a : Fin 6)
  | lane (k : Fin 24)
  | sensor (i : Fin 32)
deriving DecidableEq, Repr

/-- A management SPI frame (R500): command byte, address, the complete data words that follow a WRITE, and the number of words read by a
READ. -/
structure SpiFrame where
  cmd : Byte
  addr : RegAddr
  words : List Word
  readWords : Nat
deriving DecidableEq, Repr

/-- A JTAG TAP scan (R576). -/
inductive JtagOp where
  | idcode
  | bypass (bit : Bool)
  | samplePreload
  | regRead (addr : RegAddr)
  | regWrite (addr : RegAddr) (value : Word)
deriving DecidableEq, Repr


/-- The commands of the block, one per row of spec/opcode_table.json. -/
inductive Instr where
  /-- REGISTER_WRITE (R18): A write to a register field that has no row of its own takes effect at the boundary its field names. -/
  | registerWrite (ag : Agent) (addr : RegAddr) (v : Word)
  /-- MODE_REQ_IDLE (R35): A SYS_MODE write requesting IDLE ends the job, calibration or SERVICE as R35 lays down. -/
  | modeReqIdle (ag : Agent)
  /-- MODE_REQ_INSPECT (R35): A SYS_MODE write requesting INSPECT, measure-only or feed-owner, is checked and changes mode at once from IDLE or is refused. -/
  | modeReqInspect (ag : Agent) (feedOwner : Bool)
  /-- MODE_REQ_CAPTURE (R35): A SYS_MODE write requesting CAPTURE is checked against ladder, Hod and region settings and changes mode or is refused. -/
  | modeReqCapture (ag : Agent)
  /-- MODE_REQ_CALIBRATE (R35): A SYS_MODE write requesting CALIBRATE enters it from IDLE and starts the requested and pending kinds. -/
  | modeReqCalibrate (ag : Agent)
  /-- MODE_REQ_SERVICE (R39): A SYS_MODE write requesting SERVICE enters it at once from IDLE or records a pending clean abort from a job. -/
  | modeReqService (ag : Agent)
  /-- MODE_REQ_INVALID (R34): A SYS_MODE write of 5 to 7 is refused with MODE_INVALID. -/
  | modeReqInvalid (ag : Agent) (req : Fin 3)
  /-- SERVICE_ENTRY_COMPLETE (R39): When every axis has stopped, the ABORT event is sent and SERVICE is entered. -/
  | serviceEntryComplete
  /-- IDLE_REQUEST_STILL_TIMEOUT (R38): If no output line closes within 1 s of an IDLE request, the boundary falls at the next LINE boundary and open bins are discarded. -/
  | idleRequestStillTimeout
  /-- SYS_SECTION_CMD (R38): A write of END closes the current INSPECT job section at the next OLINE boundary. -/
  | sysSectionCmd (ag : Agent)
  /-- LINE_BOUNDARY (R63): The pixel-clock count reaching the line period starts a new capture line and acts on LINE-bound swaps and writes. -/
  | lineBoundary
  /-- TIMING_PB_COMMIT (R64): A PB_COMMIT write checks the inactive pattern book bank and schedules the swap or refuses it. -/
  | timingPbCommit (ag : Agent)
  /-- PB_LIVE_EDIT_WRITE (R68): A write to the live bank in SERVICE with LIVE_EDIT set changes a slot as R68 lays down and sets DIRTY. -/
  | pbLiveEditWrite (ag : Agent) (slot : Fin 64) (upper : Bool) (v : Word) (count : Nat)
  /-- TIMING_SEG_SYNC (R56): A write of 1s to TIMING_SEG_SYNC adds slices to the pending segment reload mask. -/
  | timingSegSync (ag : Agent) (mask : BitVec 24) (atBoundary : Bool)
  /-- TIMING_SHD_SYNC (R120): A write of 1s to TIMING_SHD_SYNC adds slices to the pending shading load mask. -/
  | timingShdSync (ag : Agent) (mask : BitVec 24) (atBoundary : Bool)
  /-- SEG_EN_STAGGER (R549): The stagger timer expires and SEG_EN of the next segment to be powered asserts. -/
  | segEnStagger
  /-- SEG_SUPPLY_WINDOW (R61): 20 ms after SEG_EN the sense voltage is judged against the supply window and checks start. -/
  | segSupplyWindow (k : Fin 24)
  /-- SEG_PING_START (R61): 50 ms after SEG_EN the SQ7260 sends PING to the segment under the link retry rule. -/
  | segPingStart (k : Fin 24)
  /-- SEG_LED_STABLE (R61): 2 s after the illumination writes the segment becomes READY. -/
  | segLedStable (k : Fin 24)
  /-- SEG_EN_DEASSERT_DELAY (R60): 1 ms after the zero-setpoint write is acknowledged, SEG_EN of a disabled segment deasserts. -/
  | segEnDeassertDelay (k : Fin 24)
  /-- SLC_LINK_RERUN (R61): A write of SLC_LINK_RERUN repeats bring-up from step 3 where allowed. -/
  | slcLinkRerun (ag : Agent) (k : Fin 24)
  /-- SEG_ILLUM_WRITE_START (R75): An illumination WRITE waiting for room before the next SP is started on the segment link. -/
  | segIllumWriteStart (k : Fin 24) (ahead : Fin 3)
  /-- SEG_LINK_RESPONSE (R77): A response frame received on the segment link is accepted, treated as lost or as a rejection. -/
  | segLinkResponse (k : Fin 24) (frame : List Byte)
  /-- SEG_LINK_TIMEOUT (R76): 40 µs without a valid response, the request counts as lost. -/
  | segLinkTimeout (k : Fin 24)
  /-- SEG_LINK_RESEND (R77): 10 µs after a lost attempt the request is resent with the same tag. -/
  | segLinkResend (k : Fin 24)
  /-- SEG_LINK_PING_POLL (R80): Every 100 ms while the link has failed a single PING is sent. -/
  | segLinkPingPoll (k : Fin 24)
  /-- SEG_LED_TEMP_POLL (R81): The poll interval expires and the LED temperature is read. -/
  | segLedTempPoll (k : Fin 24)
  /-- SUP_SENSE_AVERAGE (R92): Each 800 µs averaged sense value is checked against the supply window. -/
  | supSenseAverage (k : Fin 24) (uv : List Nat)
  /-- SUP_LO_HOLD_EXPIRE (R92): An under-voltage lasting AFE_SUP_LO_HOLD shuts the segment down. -/
  | supLoHoldExpire (k : Fin 24)
  /-- LINE_JUDGED (R97): At the end of a line's judging group its taps are judged and its samples released to Skim and the tracker. -/
  | lineJudged (wrapped : Bool) (taps : List (Nat × List TapIn)) (faults : LineFaults)
  /-- SUSPECT_RESOLVE (R99): After 64 judging groups a SUSPECT channel moves to OPEN, SHORT, OK or a new SUSPECT count. -/
  | suspectResolve (k : Fin 24) (c : Fin 10)
  /-- OPEN_SHORT_REEXAM (R100): Every 64 lines an OPEN or SHORT channel is re-examined and may return to OK with WIRE_RESTORED. -/
  | openShortReexam (k : Fin 24) (c : Fin 10)
  /-- SHADOW_VISIT_END (R105): At the end of a spare ADC's visit its fit is compared with the baseline and drift is judged. -/
  | shadowVisitEnd (k : Fin 24) (spare : Fin 2) (gain : Int) (ofs : Int)
  /-- FLOAT_CAPTURE_LINE (R128): A released and positioned capture line is applied to each row's bins in Float. -/
  | floatCaptureLine
  /-- RING_WRITE_PLACE (R138): A row write held for a ring slot is placed once Scrim releases the slot. -/
  | ringWritePlace (k : Fin 24)
  /-- SCRIM_LINE_READ (R44): Once every contributing row has closed bin n, Scrim reads and stitches output line n and hands it to the branches. -/
  | scrimLineRead
  /-- DF_IN_QUALIFY (R169): The DF_IN level qualifies after its debounce and may declare a double feed. -/
  | dfInQualify (level : Bool)
  /-- TRK_LINE_RESULT (R187): The tracker completes a line's fit and delivers position, yaw, confidence and source to Float and Roller. -/
  | trkLineResult
  /-- INS_EVENT_SEND (R233): A Straightedge event waiting for its crop is committed once the crop commits or is dropped. -/
  | insEventSend
  /-- INS_RATE_SECOND_END (R234): The rate-limit second ends and one SUPPRESSED event reports the counts. -/
  | insRateSecondEnd
  /-- INS_CTRL_HEALTH_REQ (R226): A health request sends a HEALTH map and clears CHANGED bits. -/
  | insCtrlHealthReq (ag : Agent)
  /-- AXIS_CMD_START (R247): START checks and starts an axis move on its segment list. -/
  | axisCmdStart (ag : Agent) (a : Fin 6)
  /-- AXIS_CMD_STOP (R251): STOP decelerates a running move from its next step. -/
  | axisCmdStop (ag : Agent) (a : Fin 6) (tbl : Option (Fin 64))
  /-- AXIS_CMD_HALT (R252): HALT ends the move with no further step. -/
  | axisCmdHalt (ag : Agent) (a : Fin 6)
  /-- AXIS_CMD_HOME (R258): HOME runs the homing sequence or adopts the driver index. -/
  | axisCmdHome (ag : Agent) (a : Fin 6)
  /-- AXIS_CMD_REARM (R259): REARM arms the home input again. -/
  | axisCmdRearm (ag : Agent) (a : Fin 6)
  /-- AXIS_CMD_REPHASE (R263): REPHASE re-phases the axis to the driver's power-up index. -/
  | axisCmdRephase (ag : Agent) (a : Fin 6)
  /-- AXIS_CMD_SET_POS (R282): SET_POS loads MOT_AXa_SETPOS into the position counter at rest. -/
  | axisCmdSetPos (ag : Agent) (a : Fin 6)
  /-- AXIS_VEL_SEL (R250): A VEL_SEL write selects a new cruise interval for a velocity move. -/
  | axisVelSel (ag : Agent) (a : Fin 6) (v : Word)
  /-- GRP_START (R253): MOT_GRP_START starts an interpolation group's lead move. -/
  | grpStart (ag : Agent) (g : Fin 2)
  /-- AXIS_STEP (R239): A step interval expires and the axis emits its next step and tests termination. -/
  | axisStep (a : Fin 6) (ballOk : Bool)
  /-- LIM_RAW_EDGE (R256): A raw limit transition opens a sequence and latches the axis position. -/
  | limRawEdge (j : Fin 8) (level : Bool) (frac : Fin 256)
  /-- LIM_QUALIFY (R257): A limit input qualifies at a new level and acts by its role. -/
  | limQualify (j : Fin 8) (level : Bool)
  /-- ENC_EDGE (R255): A filtered encoder edge counts or records a quadrature error. -/
  | encEdge (e : Fin 2) (a b : Bool)
  /-- AON_DRV_LOST_SAMPLE (R262): Two 32.768 kHz samples of MOT_FLTa_L low set DRV_LOST. -/
  | aonDrvLostSample (a : Fin 6) (low : Bool)
  /-- DRV_FAULT (R265): MOT_FLTa_L qualifying low halts the axis and aborts any advance. -/
  | drvFault (a : Fin 6)
  /-- DRV_RETURN (R263): MOT_FLTa_L qualifying high with DRV_LOST starts a re-phase. -/
  | drvReturn (a : Fin 6)
  /-- REPHASE_SETTLE (R263): 1 ms after the re-phase steps the driver is enabled and REPHASED raised. -/
  | rephaseSettle (a : Fin 6)
  /-- MOT_ADV_PUSH (R268): A push queues an advance or is refused. -/
  | motAdvPush (ag : Agent)
  /-- MOT_ADV_FLUSH (R281): A flush discards the queued advances. -/
  | motAdvFlush (ag : Agent)
  /-- ADV_TRIGGER (R269): The head advance's trigger arrives and its fast phase starts. -/
  | advTrigger
  /-- ADV_SETTLE_DONE (R274): The settle time expires and PASS_READY asserts at the PASS boundary. -/
  | advSettleDone
  /-- ADV_RECORD (R274): Once the settle lines are in, the ADVANCE record is sent. -/
  | advRecord
  /-- ADV_DEADLINE_MISS (R274): The advance deadline expires before PASS_READY and LATE is set. -/
  | advDeadlineMiss
  /-- PASS_SYNC_RISE (R276): A qualified rise of PASS_SYNC_IN is stamped and may make a PASS boundary. -/
  | passSyncRise
  /-- PASS_SYNC_FALL (R269): A qualified fall of PASS_SYNC_IN ends the swath and may trigger an advance. -/
  | passSyncFall
  /-- CAP_PAGE_START (R286): CAP_CMD PAGE_START opens a page in host mode. -/
  | capPageStart (ag : Agent)
  /-- CAP_PAGE_END (R286): CAP_CMD PAGE_END closes the page in host mode. -/
  | capPageEnd (ag : Agent)
  /-- CAP_PAUSE (R303): CAP_CMD PAUSE starts a pause with cause HOST. -/
  | capPauseCmd (ag : Agent)
  /-- CAP_RESUME (R304): CAP_CMD RESUME clears HOST, LAP and FAULT causes. -/
  | capResume (ag : Agent)
  /-- CAP_RESUME_FORCE (R304): CAP_CMD RESUME_FORCE clears causes and ends STABILISE at once. -/
  | capResumeForce (ag : Agent)
  /-- PACING_UPDATE (R298): Every 10 ms the drain estimate is updated and up-shift judged. -/
  | pacingUpdate
  /-- RUNG_HIGH_HOLD (R300): CAP_HIGH_HOLD expires with the fill at HIGH and the rung moves down again. -/
  | rungHighHold
  /-- CAP_FEED_AT_REST (R303): FEED at rest records hw_stop, stops admitting lines and starts the back-up. -/
  | capFeedAtRest
  /-- CAP_BACKUP_DONE (R303): The back-up ends and the capture waits in PAUSED. -/
  | capBackupDone
  /-- CAP_LED_STANDBY (R307): The illumination timer reaches CAP_PAUSE_LED_MAX and setpoints go to standby. -/
  | capLedStandby
  /-- CAP_STABILISE_CHECK (R307): After 2 s and every 0.5 s the tab means are compared and RETURN may begin. -/
  | capStabiliseCheck
  /-- CAP_STAB_MAX (R307): CAP_STAB_MAX expires in STABILISE and ILLUM_UNSTABLE is sent. -/
  | capStabMax
  /-- CAP_STALL (R308): No credit for CAP_STALL_TO while paused sends HOST_STALL. -/
  | capStall
  /-- ARB_ROUND (R319): The DRAM port grants one eligible input by rank and age. -/
  | arbRound (reqs : List ArbReq)
  /-- ARB_WINDOW_START (R320): A quota window starts and every quota is refilled. -/
  | arbWindowStart
  /-- REFRESH_DUE (R324): A refresh falls due and is issued, postponed or takes the grant. -/
  | refreshDue
  /-- ARB_WATCHDOG (R325): A grant held 20 µs is ended and its requester soft-reset. -/
  | arbWatchdog (moved : Nat)
  /-- RETRAIN_DONE (R329): Retraining completes and the port serves again. -/
  | retrainDone
  /-- DQS_DRIFT (R329): DQS drift beyond its limit sets RETRAIN_DUE, or raises DRAM_DRIFT at twice the limit. -/
  | dqsDrift (ps : Nat) (limit : Nat)
  /-- MIGRATION_CHUNK (R330): A 2 KiB chunk finishes copying to the spare section and is remapped. -/
  | migrationChunk
  /-- SCRUB_READ (R331): Every MC_SCRUB_INTERVAL Sanding reads the next 64 B. -/
  | scrubRead (errs : List EccError) (writtenSince : Bool)
  /-- DMA_START (R340): DMA_CHc_CMD START begins fetching the first descriptor. -/
  | dmaStart (ag : Agent) (c : Fin 16)
  /-- DMA_ABORT (R354): DMA_CHc_CMD ABORT stops the channel as its state decides. -/
  | dmaAbort (ag : Agent) (c : Fin 16)
  /-- DMA_FETCH_DONE (R347): A descriptor read completes and is checked. -/
  | dmaFetchDone (c : Fin 16) (err : Bool)
  /-- DMA_READ_DONE (R346): A burst's reads complete and its writes issue. -/
  | dmaReadDone (c : Fin 16) (err : Option (BitVec 34))
  /-- DMA_WRITE_RESPONSE (R351): A write response arrives and may raise HALF or complete the descriptor. -/
  | dmaWriteResponse (c : Fin 16) (err : Bool)
  /-- HOD_PACKET_WRITE (R361): A producer writes a word of an open packet into the class tail. -/
  | hodPacketWrite (cls : Fin 4) (prod : Nat)
  /-- HOD_TAIL_HOLD_EXPIRE (R366): A producer held 400 µs on a full tail is handled as a write to a full class. -/
  | hodTailHoldExpire (cls : Fin 4) (prod : Nat)
  /-- HOD_PACKET_COMMIT (R361): A good commit numbers a packet and makes it visible. -/
  | hodPacketCommit (cls : Fin 4) (prod : Nat)
  /-- HOD_BAD_COMMIT (R361): A BAD commit rewinds the packet. -/
  | hodBadCommit (cls : Fin 4) (prod : Nat)
  /-- HOD_FLUSH (R372): A HOD_FLUSH write empties each named class and commits FLUSHED. -/
  | hodFlush (ag : Agent) (mask : BitVec 4)
  /-- HOD_LEG_DATA (R375): A read of HOD_LEG_DATA returns the next word of the legacy class. -/
  | hodLegData (ag : Agent)
  /-- HOD_LEG_MARK (R375): HOD_LEG_CMD MARK saves the read point. -/
  | hodLegMark (ag : Agent)
  /-- HOD_LEG_REWIND (R375): HOD_LEG_CMD REWIND returns the read point to the mark. -/
  | hodLegRewind (ag : Agent)
  /-- HOD_LEG_RELEASE (R375): HOD_LEG_CMD RELEASE frees packets before the mark. -/
  | hodLegRelease (ag : Agent)
  /-- LINK_UP (R383): The Ethernet link comes up and sending resumes. -/
  | linkUp (speed : Fin 5)
  /-- LINK_DOWN (R383): Link loss stops sending and suspends the session. -/
  | linkDown
  /-- LINK_CTRL_RENEG (R379): A RENEG write restarts auto-negotiation. -/
  | linkCtrlReneg (ag : Agent)
  /-- DHCP_TIMEOUT (R382): 10 s without a lease takes an IPv4 link-local address. -/
  | dhcpTimeout
  /-- LLDP_ALLOCATION (R389): An LLDP allocation from the PSE is adopted. -/
  | lldpAllocation (mw : BitVec 17)
  /-- LLDP_WAIT_EXPIRE (R389): POE_LLDP_WAIT expires without an answer and P_class is used. -/
  | lldpWaitExpire
  /-- AUX_PRESENT (R387): AUX_24V qualifies present and the converter may move to it. -/
  | auxPresent
  /-- AUX_FAIL (R387): AUX_24V fails and the converter returns to the cable. -/
  | auxFail
  /-- PTP_MESSAGE (R392): A PTP message is timestamped and drives the servo. -/
  | ptpMessage (m : PtpMsg)
  /-- PTP_ANNOUNCE_TIMEOUT (R394): Three announce intervals without Announce enter holdover. -/
  | ptpAnnounceTimeout
  /-- PTP_LATCH (R418): A PTP_LATCH write latches the time. -/
  | ptpLatch (ag : Agent)
  /-- REG_READ (R399): A Tyrex REG_READ returns register words. -/
  | regRead (h : Hdr) (addr : BitVec 32) (count : BitVec 16)
  /-- REG_WRITE (R399): A Tyrex REG_WRITE writes one register in control order. -/
  | regWrite (h : Hdr) (addr : BitVec 32) (v : Word)
  /-- REG_WRITE_BLOCK (R401): A Tyrex REG_WRITE_BLOCK writes its words whole in order. -/
  | regWriteBlock (h : Hdr) (addr : BitVec 32) (count : BitVec 16) (fixed : Bool) (words : List Word)
  /-- TABLE_LOAD (R403): A TABLE_LOAD chunk is accepted into the image or refused. -/
  | tableLoad (h : Hdr) (dest : BitVec 64) (offset total : BitVec 32) (image : List Byte)
  /-- TABLE_CHECK_DONE (R521): Header checks of a complete image end; it is staged or rejected with TABLE_STATUS. -/
  | tableCheckDone
  /-- SYS_TBL_CMD (R520): SYS_TBL_CMD stages the image at SYS_TBL_ADDR. -/
  | sysTblCmd (ag : Agent)
  /-- ATTEST (R488): An ATTEST request builds and signs a quote. -/
  | attest (h : Hdr) (nonce : List Byte)
  /-- ATTEST_SIGNED (R488): Signing completes and the ATTEST response is sent. -/
  | attestSigned
  /-- SESSION_OPEN (R408): SESSION OPEN opens a session and restarts sending oldest first. -/
  | sessionOpen (h : Hdr) (port : BitVec 16)
  /-- SESSION_KEEPALIVE (R408): SESSION KEEPALIVE keeps the session alive. -/
  | sessionKeepalive (h : Hdr)
  /-- SESSION_CLOSE (R409): SESSION CLOSE ends the session. -/
  | sessionClose (h : Hdr)
  /-- SESSION_TIMEOUT (R409): 2 s without a valid host message ends the session. -/
  | sessionTimeout
  /-- CREDIT (R405): A CREDIT message raises the held stream limit. -/
  | credit (h : Hdr) (limit : BitVec 32)
  /-- TYREX_ACK (R406): An ACK marks received packets of a class. -/
  | tyrexAck (h : Hdr) (cls : Fin 4) (upto : BitVec 32) (bitmap : BitVec 256)
  /-- TYREX_NACK (R407): A NACK triggers retransmission or a NOT_HELD NACK. -/
  | tyrexNack (h : Hdr) (cls : Fin 4) (ranges : List (BitVec 32 × BitVec 32))
  /-- STREAM_SEND (R404): A class 1 to 3 packet is sent as STREAM fragments within credit. -/
  | streamSend (cls : Fin 4)
  /-- EVENT_SEND (R404): A class 0 packet is sent as one EVENT datagram. -/
  | eventSend
  /-- RTO_EXPIRE (R407): TYREX_RTO_MS expires and the packet is resent with RETX. -/
  | rtoExpire (cls : Fin 4) (seq : BitVec 32)
  /-- CPU_WATCHDOG (R543): A processor watchdog expires and resets its processor. -/
  | cpuWatchdog (cpu : Fin 2)
  /-- CAL_CMD_TILE_READY (R422): TILE_READY starts a hand-placed tile capture. -/
  | calCmdTileReady (ag : Agent)
  /-- CAL_RUN_START (R429): Primer starts a pending run when allowed and lock 23 is held. -/
  | calRunStart
  /-- CAL_DARK_WAIT (R423): 20 ms after setpoints go to 0 the dark capture starts. -/
  | calDarkWait
  /-- CAL_ILLUM_SETTLE (R424): Illumination has stood 2 s and the white or verify capture starts. -/
  | calIllumSettle
  /-- CAL_CAPTURE_DONE (R424): A capture's line count completes and its result is computed. -/
  | calCaptureDone
  /-- CAL_RETICLE_RUN_DONE (R425): A reticle run reaches its travel and FEED moves back. -/
  | calReticleRunDone
  /-- CAL_RUN_END (R432): The run ends with a boundary at which Primer's writes come into force. -/
  | calRunEnd
  /-- CAL_OVERDUE (R429): A kind pending CAL_OVERDUE_S raises CAL_OVERDUE. -/
  | calOverdue (kind : Fin 5)
  /-- CAL_RECORD_STORE (R436): A record write to NOR completes and is checked. -/
  | calRecordStore (ok : Bool)
  /-- MON_THERMAL_READ (R443): Every 1 ms the thermal sensors are read. -/
  | monThermalRead (centi : List Int)
  /-- MON_VOLTAGE_READ (R446): Every 100 µs the voltage monitors are read. -/
  | monVoltageRead (mv : List Nat)
  /-- MON_PROCESS_READ (R447): Each second the process monitors are read. -/
  | monProcessRead (ps : List Nat)
  /-- HK_REF_READY (R448): 2 ms after REF_EN the reference is ready. -/
  | hkRefReady
  /-- HK_RUN_START (R449): The sequence period elapses and a run starts. -/
  | hkRunStart
  /-- HK_ENTRY_DONE (R450): An entry's samples complete and its result is formatted. -/
  | hkEntryDone (e : Fin 16) (codes : List Int) (sense : List Int) (inTest : Bool)
  /-- HK_URG_CMD (R452): An urgent request is triggered. -/
  | hkUrgCmd (ag : Agent)
  /-- HK_URG_DONE (R452): The urgent sample completes. -/
  | hkUrgDone (code : Int) (agoNs : Nat)
  /-- BRIDGE_WIRE_TEST (R456): Every 100 ms a test tone checks the bridge wires. -/
  | bridgeWireTest (b : Fin 2) (exc sns sig : Bool)
  /-- LANE_VISIT_END (R458): A spare lane's visit ends and mismatches are judged. -/
  | laneVisitEnd (c : Fin 6) (mismatch : Bool)
  /-- SRAM_UE_REWRITE (R461): Filler's rewrite of a shading word completes. -/
  | sramUeRewrite (k : Fin 24) (role : Fin 5) (pixel : Fin 12288)
  /-- WEAR_SAVE (R464): SPARE_WEAR_SAVE_MIN elapses and the wear record is saved. -/
  | wearSave
  /-- SEC_UPD_BEGIN (R479): BEGIN starts receiving an image. -/
  | secUpdBegin (ag : Agent)
  /-- SEC_UPD_DATA (R479): A write to SEC_UPD_DATA appends an image word. -/
  | secUpdData (ag : Agent) (v : Word)
  /-- SEC_UPD_FINISH (R479): FINISH checks and programs the received image. -/
  | secUpdFinish (ag : Agent)
  /-- SEC_UPD_CHECK_DONE (R479): Checking and programming complete with STAGED or REJECTED. -/
  | secUpdCheckDone (norError : Bool)
  /-- SEC_UPD_ABORT (R481): ABORT ends a transfer or check in progress. -/
  | secUpdAbort (ag : Agent)
  /-- SEC_UPD_ACTIVATE (R480): ACTIVATE makes the staged slot the trial slot and resets. -/
  | secUpdActivate (ag : Agent)
  /-- SEC_UPD_CONFIRM (R480): CONFIRM makes the trial slot active and advances the fuses. -/
  | secUpdConfirm (ag : Agent) (good : Fin 65)
  /-- OWNER_PROV (R483): SEC_CMD OWNER_PROV programs OWNER_KEY_HASH. -/
  | ownerProv (ag : Agent)
  /-- DBG_UNLOCK (R490): SEC_DBG_CMD UNLOCK checks the debug certificate. -/
  | dbgUnlock (ag : Agent)
  /-- DBG_RELOCK (R489): SEC_DBG_CMD RELOCK ends the unlock. -/
  | dbgRelock (ag : Agent)
  /-- DBG_CMD_READ (R523): DBG_CMD READ reads 64 B of DRAM. -/
  | dbgCmdRead (ag : Agent)
  /-- DBG_CMD_WRITE (R523): DBG_CMD WRITE writes 64 B of DRAM. -/
  | dbgCmdWrite (ag : Agent)
  /-- DEBUG_ACCESS_DONE (R324): The debug DRAM access completes. -/
  | debugAccessDone (errs : List EccError)
  /-- PD_INPUT_RISE (R525): The cable input rises through 39.5 V and hot-swap begins. -/
  | pdInputRise
  /-- PD_INPUT_FALL (R525): The cable input falls through 34.0 V and the path turns off. -/
  | pdInputFall
  /-- PD_INRUSH_DONE (R525): The drain falls below 1.0 V and the limit rises to 2.2 A. -/
  | pdInrushDone
  /-- PD_INRUSH_TIMEOUT (R525): Inrush lasting 80 ms faults. -/
  | pdInrushTimeout
  /-- PD_CURRENT_LIMIT (R525): Current held at 2.2 A for 10 ms faults. -/
  | pdCurrentLimit
  /-- PD_RETRY (R525): 1 s after a fault the die retries. -/
  | pdRetry
  /-- CONVERTER_START (R526): 1 ms after hot-swap the converter soft-starts. -/
  | converterStart
  /-- CONVERTER_FAULT (R526): 64 limit cycles or over-temperature stop the converter. -/
  | converterFault (overTemp : Bool)
  /-- CONVERTER_RESTART (R526): 100 ms after a converter fault it restarts. -/
  | converterRestart
  /-- PD_STATUS_FRAME (R528): A status frame from the power-interface die refreshes the POE fields. -/
  | pdStatusFrame (vin iin : BitVec 16) (busGood : Bool)
  /-- BARRIER_FAIL (R528): 100 µs without a status frame clears POE_BARRIER_OK. -/
  | barrierFail
  /-- RAILS_GOOD (R530): Every rail good for 1 ms with RST_L high releases the full reset. -/
  | railsGood
  /-- RESET_RELEASE (R543): A full reset releases and start-up runs. -/
  | resetRelease
  /-- RAIL_FAIL (R530): A rail below its fail threshold starts a full reset. -/
  | railFail (rail : Fin 12)
  /-- RST_L_ASSERT (R546): RST_L held low 10 µs starts a full reset. -/
  | rstLAssert
  /-- RST_L_RELEASE (R546): 100 µs after RST_L rises start-up continues. -/
  | rstLRelease
  /-- PLL_LOCK_LOSS (R537): A PLL loses lock and its clock's consequence follows. -/
  | pllLockLoss (pll : Fin 11)
  /-- PLL_LOCKED (R537): A PLL gains lock. -/
  | pllLocked (lock : PllLock)
  /-- AON_CRYSTAL_STABLE (R537): The 32 kHz crystal runs 1 s stable and the domain changes over. -/
  | aonCrystalStable
  /-- DOMAIN_POWER_GOOD (R535): A switched domain reaches power-good and its reset releases. -/
  | domainPowerGood (d : Fin 80)
  /-- DOMAIN_FAULT (R536): A domain not powered good within 1 ms is switched off. -/
  | domainFault (d : Fin 80)
  /-- XING_EVENT (R542): An event arrives at a clock crossing and is transferred, made pending or lost. -/
  | xingEvent (src dst : Fin 14) (ackPhase : Bool)
  /-- BLK_SOFT_RESET (R504): SOFT_RESET resets a block and its crossing partners. -/
  | blkSoftReset (ag : Agent) (page : Nat)
  /-- SOFT_RESET_DONE (R504): Every crossing completes and RESETTING clears. -/
  | softResetDone (page : Nat)
  /-- BLK_FREEZE (R505): FREEZE takes or releases a snapshot of the page. -/
  | blkFreeze (ag : Agent) (page : Nat) (on : Bool)
  /-- BLK_CNT_CLEAR (R502): CNT_CLEAR sets EVT_CNT to 0. -/
  | blkCntClear (ag : Agent) (page : Nat)
  /-- BLK_ERR_CLEAR (R502): ERR_CLEAR clears ERR_CODE, ERR_INFO and ERR_OVW. -/
  | blkErrClear (ag : Agent) (page : Nat)
  /-- IRQ_RAW_CLEAR (R509): A W1C write clears IRQ_RAW bits unless hardware sets them. -/
  | irqRawClear (page : Nat) (mask : Word) (setting : Word)
  /-- IRQ_SET (R502): IRQ_SET sets IRQ_RAW bits in SERVICE. -/
  | irqSet (ag : Agent) (page : Nat) (mask : Word)
  /-- IRQ_EVT_HOLDOFF_END (R511): The hold-off ends and a merged IRQ event is committed. -/
  | irqEvtHoldoffEnd (page : Nat)
  /-- SHADOW_CTRL_HOLD (R506): HOLD starts or stops holding COMMIT writes. -/
  | shadowCtrlHold (page : Nat) (on : Bool)
  /-- SHADOW_CTRL_COMMIT (R506): COMMIT applies every held write. -/
  | shadowCtrlCommit (page : Nat)
  /-- SHADOW_CTRL_DISCARD (R506): DISCARD drops held writes and pending shadows. -/
  | shadowCtrlDiscard (page : Nat)
  /-- LOCK_ACQUIRE (R513): A read of LOCK_n attempts to acquire the lock. -/
  | lockAcquire (ag : Agent) (n : Fin 32)
  /-- LOCK_RELEASE (R513): A write of 1 releases the lock. -/
  | lockRelease (ag : Agent) (n : Fin 32) (v : Word)
  /-- MGMT_SPI_FRAME (R500): A management SPI frame reads or writes registers. -/
  | mgmtSpiFrame (f : SpiFrame)
  /-- PATTERN_SLOT_START (R62): The pixel-clock count enters a slot interval, so the MARK timestamp or the TRK latch of encoder and step counts is taken mid-line. -/
  | patternSlotStart (slot : Fin 64)
  /-- PASS_SYNC_RAW_EDGE (R396): A raw edge of PASS_SYNC_IN opens a sequence whose first edge is stamped if it later qualifies. -/
  | passSyncRawEdge (level : Bool)
  /-- DF_IN_RAW_EDGE (R169): A raw change of DF_IN starts its debounce towards qualification. -/
  | dfInRawEdge (level : Bool)
  /-- SEG_LINK_FRAME_DISCARD (R71): A segment-link receiver that sees more than 1.6 µs without a start bit inside a frame discards the partial frame. -/
  | segLinkFrameDiscard (k : Fin 24)
  /-- LINK_FRAME_RECEIVE (R382): A received Ethernet frame that is not a listed Tyrex or PTP message is answered (ARP, NDP, ICMP, DHCP) or dropped and counted. -/
  | linkFrameReceive (f : RxFrame)
  /-- LINK_ATTEMPT_FAIL (R381): An attempt to complete the link at the highest common speed fails, and the third such failure downshifts the advertisement. -/
  | linkAttemptFail (speed : Fin 5)
  /-- CLASSIFICATION_EVENT (R384): The PSE applies a classification event, which the PD counts to learn its class, with PD_ACLOAD driven through an Autoclass window. -/
  | classificationEvent (autoclass : Bool)
  /-- XING_TRANSFER_DONE (R542): A crossing handshake completes its round trip, freeing the crossing and starting any pending event. -/
  | xingTransferDone (src dst : Fin 14)
  /-- LO_REGISTER_READ (R501): A read of a _LO register latches its _HI partner for the reading agent. -/
  | loRegisterRead (ag : Agent) (addr : RegAddr)
  /-- DRAM_TRANSACTION_DONE (R325): A granted DRAM transaction completes, with its ECC outcome handled for the input that made it. -/
  | dramTransactionDone (errs : List EccError)
  /-- GEN_PARITY_ERROR (R266): A step generator reports a parity error or its output differs from its shadow's, so the shadow takes over or the axis halts. -/
  | genParityError (a : Fin 6) (r : GenReport)
  /-- DRAM_DIE_TEMPERATURE (R329): A DRAM die reports its temperature, setting the hot refresh rate or making retraining due after a 10 K move. -/
  | dramDieTemperature (die : Fin 2) (centi : Int)
  /-- SRAM_REPAIR_DONE (R461): Start-up self-test and repair of the on-die SRAM completes and DRAM training follows. -/
  | sramRepairDone (repairs : BitVec 8) (banks : BitVec 4) (failed : BitVec 24)
  /-- FILLER_RETEST_DONE (R463): A retest of a failed part completes, returning the part to service or counting a failure towards retirement. -/
  | fillerRetestDone (part : FillerPart) (pass : Bool)
  /-- HK_ENTRY_STALE (R450): A sequence entry not completed within twice the sequence period sets STALE and invalidates its result. -/
  | hkEntryStale (e : Fin 16)
  /-- JTAG_SCAN (R576): A JTAG TAP scan runs IDCODE, BYPASS, SAMPLE/PRELOAD, or register access when the JTAG permission is in force. -/
  | jtagScan (op : JtagOp)
deriving DecidableEq, Repr

end Sys2Proof
end

