-- ==== Sys2Proof/Config.lean ====
section
/-! DEFINITION. What one implementation fixes and the spec leaves open: the FREE VALUES. Each is an opaque constant without a
body, so that nothing can evaluate it; a meaning applies it to the counter `State.draws`, which it then advances, or to the
operands. Each is named in the assumption log. -/
namespace Sys2Proof.Config

/-- FREE VALUE (log 4): a byte that the spec calls undefined, such as a byte inside the overlap of R348. -/
opaque undefByte : Nat → BitVec 8

/-- FREE VALUE (log 5): a new session number (R408 gives the SESSION field no rule but that 0 means none). -/
opaque sessionId : Nat → BitVec 32

/-- The parameter sets of R472. -/
inductive SlhSet | shake192s | shake128f
deriving DecidableEq, Repr

/-- FREE VALUE (log 6): the root that FIPS 205 key generation gives for SK.seed and PK.seed (R484). -/
opaque slhRoot : SlhSet → List (BitVec 8) → List (BitVec 8) → List (BitVec 8)

/-- FREE VALUE (log 6): the signature that FIPS 205 makes with SK.seed, SK.prf and PK.seed over the given message (R472, R486). -/
opaque signature : SlhSet → List (BitVec 8) → List (BitVec 8) → List (BitVec 8)

/-- FREE VALUE (log 6): whether a signature verifies under FIPS 205 (R472): public key, message, signature. -/
opaque verifies : SlhSet → List (BitVec 8) → List (BitVec 8) → List (BitVec 8) → Bool

/-- FREE VALUES (log 7): what manufacture put into the one-time-programmable fields and the device certificate, and the spec does
not give: VENDOR_KEY_HASH and DEVICE_SEED (R471), time of manufacture, issuer key ID and CA signature (R485), the boot ROM's version
(R486), and the manifest of the image the device left manufacture with (R475; log 45). -/
opaque vendorKeyHash : List (BitVec 8)
opaque deviceSeed : List (BitVec 8)
opaque factoryManifest : List (BitVec 8)
opaque madeAt : BitVec 64
opaque issuer : List (BitVec 8)
opaque caSignature : List (BitVec 8)
opaque romVersion : BitVec 32

/-- FREE VALUE (log 8): a numeric result for which the spec states no value (an unstated corner of a computation); the first
argument numbers the corner, the second is the draw. -/
opaque unstated : Nat → Nat → Int

/-- FREE VALUE (log 116): samples the telemetry buffer holds, less one (R335 gives no size). -/
opaque telemetryRoom : Nat

end Sys2Proof.Config
end

