-- ==== Sys2Proof/Machine/State.lean ====
section
/-! DEFINITION. The state of the block: every register field (one sparse store of values in force, one of waiting shadows),
DRAM, and the internal state of each unit; the reasons a step can stop; the state right after reset. -/
namespace Sys2Proof.Machine
open Sys2Proof

/-- Reasons a command faults. No command of this block faults: the spec describes what every one of them does. -/
inductive Fault where
  /-- Raised by nothing: the spec gives the block no state from which it cannot go on (safe). -/
  | never
deriving DecidableEq, Repr

/-- Reasons a command is refused. -/
inductive Refusal where
  /-- A row of the table not modelled yet (safe). -/
  | notModelled (mnemonic : String)
  /-- Raised by `exec` for a command whose operands name no place of the block, such as slice 40 (safe: no such command
  exists). -/
  | illFormed (mnemonic : String)
deriving DecidableEq, Repr

/-- A shadowed value waiting for its boundary (R506). -/
structure Shadow where
  value : Nat
  width : Nat
  bnd : Boundary
deriving DecidableEq, Repr

/-- A write held by SHADOW_CTRL_HOLD (R506): offset in the page, word, agent. -/
structure HeldWrite where
  off : Nat
  value : Nat
  agent : Agent
deriving DecidableEq, Repr

/-- A record that a producer holds whole and has yet to write into Hod (R361). -/
structure OutPkt where
  cls : Nat
  prod : Nat
  kind : Nat
  payload : List (BitVec 8)
  /-- The output line number, for records that carry one (R362). -/
  item : Option Nat
deriving DecidableEq, Repr

/-- What leaves the block on its ports. -/
inductive Tx where
  /-- A Tyrex datagram (R397 to R399): the device's port, the host's address and port (65,536 times the address and the port added), the bytes. -/
  | dgram (port host : Nat) (bytes : List (BitVec 8))
  /-- An answer of the port's own: ARP, NDP, ICMP echo, DHCP (R382), by the kind of frame it answers. -/
  | answer (kind : Nat)
  /-- A DHCPv4 request (R382). -/
  | dhcpAsk
  /-- An LLDP power request, mW (R389). -/
  | lldp (reqMw : Nat)
  /-- A PTP Delay_Req or Pdelay_Req (R392). -/
  | ptpReq (p2p : Bool)
  /-- A word that an agent has read (R498). -/
  | word (ag : Agent) (value : Nat)
  /-- Words on MGMT_MISO (R500). -/
  | miso (words : List Nat)
  /-- Bits on TDO (R576). -/
  | tdo (value : Nat)
  /-- The bytes of a request frame on segment link k (R71, R72). -/
  | seg (k : Nat) (frame : List (BitVec 8))
deriving DecidableEq, Repr

/-- The servo of the timebase (R392 to R394). -/
structure Ptp where
  /-- Timebase minus free-running clock, ns. -/
  offset : Int
  /-- Offset measured and not yet corrected, ns. -/
  err : Int
  /-- A grandmaster is followed; one has been lost since power-up. -/
  locked : Bool
  lost : Bool
  /-- Receipt of the last Sync, ns; receipt minus origin of the last Sync; sending of the last delay request; mean path. -/
  rx : Option Int
  ms : Option Int
  t3 : Option Int
  path : Int
  /-- Part of a nanosecond slewed, in 10⁻⁶ ns. -/
  frac : Nat
  /-- Part of a nanosecond by which the rate in PTP_RATE_PPB has moved the timebase, in 10⁻⁹ ns (R392). -/
  drift : Int
deriving DecidableEq, Repr

/-- Rate limiting of a page's IRQ events (R511): `rose` says whether a rise was merged. -/
structure IrqHold where
  rose : Bool
deriving DecidableEq, Repr


/-- What a segment link transaction is for (R61, R75, R80, R81). -/
inductive LinkPurpose where
  | ping
  | reset
  | ident (half : Nat)
  | mode (i : Nat)
  /-- The illumination WRITE of bring-up step 5, any later one, and the zero setpoints of a segment turned off (R60). -/
  | illumBring
  | illum
  | illumOff
  | temp
  /-- The single PING sent every 100 ms while the link has failed (R80). -/
  | poll
deriving DecidableEq, Repr

/-- A segment link transaction (R72): `data` is the request payload. -/
structure LinkTxn where
  purpose : LinkPurpose
  op : Nat
  addr : Nat
  data : List (BitVec 8)
deriving DecidableEq, Repr

/-- What the transaction on the link waits for: room before the next SP (R75), an answer (R76), the resend delay (R77). -/
inductive LinkWait | room | answer | resend
deriving DecidableEq, Repr

/-- The transaction on a segment link (R77). -/
structure LinkCur where
  txn : LinkTxn
  tag : Nat
  attempts : Nat
  wait : LinkWait
deriving DecidableEq, Repr

/-- Where the bring-up, or the switching off, of a segment stands (R60, R61). -/
inductive BringUp where
  /-- SEG_EN deasserted. -/
  | off
  /-- Admitted by the budget; SEG_EN follows in its turn of the stagger (R549). -/
  | stagger
  /-- Steps 2 and 3: the 20 ms and 50 ms run. -/
  | supply
  | ping
  /-- Steps 3 to 5: link transactions. -/
  | link
  /-- Step 6: the 2 s run. -/
  | led
  | ready
  /-- Turned disabled: the zero setpoints are being written; then the 1 ms runs. -/
  | offWrite
  | offDelay
deriving DecidableEq, Repr

/-- A spare ADC of a slice (R103). -/
structure SpareAdc where
  /-- Position in the list of assigned inputs, and capture lines of this visit done. -/
  place : Nat
  lines : Nat
  /-- Lines of this visit (AFE_SHADOW_LINES when it began). -/
  len : Nat
  /-- The visit was abandoned (R109), so it ends without a fit. -/
  abandoned : Bool
  /-- Complete rotations so far (R107). -/
  turns : Nat
  /-- The converter that serves at this place; none: converter 10 or 11 itself (R463). -/
  adc : Option Nat
deriving DecidableEq, Repr

def SpareAdc.init : SpareAdc := { place := 0, lines := 0, len := 256, abandoned := false, turns := 0, adc := none }

/-- A fit of a spare to the active ADC of an input (R103, R105): gain Q2.14, offset codes; its baseline; rotation it was made in. -/
structure Fit where
  gain : Int
  ofs : Int
  /-- The baseline; none after an AFE offset trim until the pair's next fit (R423). -/
  base : Option (Int × Int)
  turn : Nat
deriving DecidableEq, Repr

/-- One video input (R85, R96, R98 to R109) beyond its registers. -/
structure Chan where
  /-- Correction of the DC-restore loop, in 1/8 codes (R85). -/
  corr : Int
  /-- Reference values of up to 16 lines, newest first, and the capture line that follows the newest (R85). -/
  refs : List Int
  refLine : Option Nat
  /-- Impedance estimates since the average last restarted, newest first, at most 64 (R96). -/
  est : List Nat
  /-- Judging groups of the SUSPECT count or of the OPEN or SHORT block, and their fast checks, newest first (R99, R100). -/
  groups : Nat
  passes : List Bool
  /-- A swap is pending: 1 FAILED, 2 drifting, then with the deviations observed, of gain in 0.01 % and of offset in codes (R105, R106, R108). -/
  swap : Nat
  dev : Int × Int
  /-- The line last ended was converted by an ADC declared FAILED by then (R106). -/
  lineBad : Bool
  /-- Mapping of the spare that stands in: gain Q2.14, offset (R106). -/
  map : Option (Int × Int)
  /-- A drift observation that waits for the other spare: spare, sign of gain, sign of offset, deviations (R105). -/
  obs : Option (Nat × Int × Int)
  /-- The active ADC has been declared FAILED, and no spare was free (R108). -/
  adcBad : Bool
deriving DecidableEq, Repr

def Chan.init : Chan :=
  { corr := 0, refs := [], refLine := none, est := [], groups := 0, passes := [], swap := 0, dev := (0, 0), lineBad := false, map := none, obs := none, adcBad := false }

/-- One row of a released capture line: row code, corrected pixels in LOC_PIX order, one flag byte for each 256 (R116). -/
structure RowData where
  role : Nat
  px : List Nat
  flags : List Nat
deriving DecidableEq, Repr

/-- Where a capture line stands (R125, R126): position nm, source code, confidence, yaw term of each segment that has one. -/
structure LinePos where
  p : Int
  src : Nat
  conf : Nat
  yaw : List (Nat × Int)
deriving DecidableEq, Repr

/-- What Plumb and Lap take from one slice in a capture line (R157, R160, R166): edges at 1/16 px with true for entry into media, on
media at pixel 0 and after the last pixel, m of the four sheet columns where valid, and the sum of the centre window where all of
it is on media. -/
structure PlumbData where
  edges : List (Nat × Bool)
  startOn : Bool
  endOn : Bool
  cols : List (Option Nat)
  win : Option Nat
deriving DecidableEq, Repr

/-- One slice and its segment beyond their registers. -/
structure Slice where
  /-- The cached segment table entry, 256 bytes, once one has been checked (R56). -/
  entry : Option (List (BitVec 8))
  /-- The entry was in effect enabled at the last PAGE or IDLE boundary. -/
  wasEn : Bool
  bring : BringUp
  contributing : Bool
  /-- READY has been reached since the entry last turned enabled (R60). -/
  readyOnce : Bool
  cur : Option LinkCur
  queue : List LinkTxn
  nextTag : Nat
  /-- The transaction held while the link has failed (R80). -/
  heldTx : Option LinkTxn
  identity : List (BitVec 8)
  /-- TIMING_LINE_CNT of the line in which the SP after the illumination WRITE begins; none where the WRITE went out with no SP to wait for (R75). -/
  spLine : Option Nat
  /-- Setpoints last acknowledged, and those last asked for (R75, R79). -/
  illumAck : List Nat
  illumSet : List Nat
  tempMisses : Nat
  /-- Supply checks run; consecutive averaged values below SUP_LO_MV; time of the first of them, ns (R91, R92). -/
  supChecks : Bool
  loRun : Nat
  loSince : Option Nat
  /-- The line last ended is invalid by R93. -/
  lineSup : Bool
  chans : List (Nat × Chan)
  spares : List (Nat × SpareAdc)
  /-- Fits by 16 × spare + input. -/
  fits : List (Nat × Fit)
  /-- Shading words in force that differ from unity, by 12,288 × row code + pixel (R119). -/
  shading : List (Nat × Nat)
  /-- A shading table has been loaded since reset. -/
  shaded : Bool
  /-- White target and calibration time of the shading in force, as its block holds them (R119). -/
  shdTgt : Nat
  shdAt : Nat
  /-- Pixels the list in force marks dead, by the same key (R121). -/
  dead : List Nat
deriving DecidableEq, Repr

def Slice.init : Slice :=
  { entry := none, wasEn := false, bring := .off, contributing := false, readyOnce := false, cur := none, queue := [], nextTag := 0,
    heldTx := none, identity := [], spLine := none, illumAck := [], illumSet := [], tempMisses := 0, supChecks := false, loRun := 0,
    loSince := none, lineSup := false, chans := [], spares := [], fits := [], shading := [], shaded := false, shdTgt := 0, shdAt := 0, dead := [] }

/-- Register values and slices as they stood when a capture line was sampled: its entries, tap match, shading, dead pixels, converters and thresholds (R33). -/
structure Content where
  regs : List (Nat × Nat)
  slices : List (Nat × Slice)
deriving DecidableEq, Repr

/-- A capture line released by its judging group, with the rows of each slice, until Float has applied it (R97, R128). -/
structure CapLine where
  line : Nat
  slices : List (Nat × List RowData)
  plumb : List (Nat × PlumbData)
  pos : Option LinePos
  /-- Slices whose lane failed a check in the line (R457). -/
  lost : List Nat
  /-- What the line was sampled with (R33). -/
  cont : Content
deriving DecidableEq, Repr

/-- Line timing beyond its registers (R62 to R69). -/
structure Timing where
  /-- Lower words written to the live bank and not yet followed by their upper word, by slot (R68). -/
  pbHeld : List (Nat × Nat)
  /-- Contents that slots keep for the rest of this line: slot ↦ lower, upper word (R68). -/
  pbOld : List (Nat × (Nat × Nat))
  /-- The MARK timestamp and the TRK latches of the line in progress have been taken: PTP time, encoder counts by input, Roller step
  count (R62). -/
  mark : Option Nat
  trk : Option (List Int × Int)
  /-- Those of lines ended and not yet used by the tracker, by capture line. -/
  lineLatch : List (Nat × (Nat × List Int × Int))
  /-- Requests written in the cycle of a boundary, carried to the next one: segments, shading (R58, R120). -/
  segLate : Nat
  shdLate : Nat
  /-- No LINE boundary since TIMING_LINE_CNT restarted, so that a judging group that wraps is none of this count's (R75, R97; log 106). -/
  restarted : Bool
  /-- What the line in progress, and the line before it, were sampled with, where that no longer stands (R33). -/
  content : Option Content
  contentWas : Option Content
deriving DecidableEq, Repr

/-- An open bin of a row in Float (R127, R128). `marks`: 1 OVERSPEED, 2 STILL_CAPPED, 4 REVERSE_SEEN. -/
structure FloatBin where
  n : Nat
  acc : List Nat
  w : List Nat
  fl : List Nat
  drop : List Bool
  marks : Nat
  lines : Nat
  first : Nat
  last : Nat
  src : Nat
  conf : Nat
  tracked : Bool
  still : Nat
deriving DecidableEq, Repr

/-- The last bin a row has closed, while blocks of it wait for repair (R132): pixels, flags, which blocks wait. -/
structure FloatPend where
  n : Nat
  px : List Nat
  fl : List Nat
  wait : List Bool
deriving DecidableEq, Repr

/-- One row of one segment in Float (R128, R584). -/
structure FloatRow where
  /-- x_prev and hw, once the first line has come. -/
  at_ : Option (Int × Int)
  /-- The row starts, or restarts, during a job (R584). -/
  mid : Bool
  /-- The row runs: its segment contributes and has it; a row that has stopped keeps which bins it has closed (R584, R585). -/
  on : Bool
  /-- The first capture line that reaches the row, where a boundary restarted or stopped it (R584, R585). -/
  since : Option Nat
  /-- Row length, offset, stagger (R585). -/
  px : Nat
  ofs : Nat
  stagger : Nat
  bins : List FloatBin
  /-- Every bin below this one is closed. -/
  next : Nat
  /-- The bin below this one, where not 0, counted as closed when the row started, with every block INVALID (R584). -/
  base : Nat
  pend : Option FloatPend
deriving DecidableEq, Repr

/-- A slice header of a ring line as its rows close (R136). -/
structure RingHdr where
  closed : Nat
  complete : Nat
  src : Nat
  conf : Nat
  tracked : Bool
  first : Option Nat
  last : Nat
  counts : List (Nat × Nat)
  flags : Nat
deriving DecidableEq, Repr

/-- A row write held in a slice's ring write FIFO (R138). -/
structure RingWrite where
  k : Nat
  role : Nat
  n : Nat
  px : List Nat
  fl : List Nat
deriving DecidableEq, Repr

/-- Float and the assembly ring beyond their registers (R125 to R138). -/
structure Float where
  /-- Rows by 8 × slice + row code. -/
  rows : List (Nat × FloatRow)
  /-- Some capture line of this job has reached Float (R584). -/
  started : Bool
  /-- Ring headers by 32 × line + slice. -/
  hdrs : List (Nat × RingHdr)
  held : List RingWrite
  /-- Slices whose FIFO has overrun and not yet drained (R138). -/
  overrun : List Nat
  /-- Next output line that Scrim reads; slots of lower lines are released (R138). -/
  scrimNext : Nat
  /-- The averaging of the rung in force, in CAPTURE (R295). -/
  rungAvg : Option Nat
deriving DecidableEq, Repr

/-- The sums of one seam's correlation window (R142): for each shift −8 to 8 the sums of products and squares. -/
structure CorrWin where
  xy : List Nat
  xx : List Nat
  yy : List Nat
  incl : Nat
  total : Nat
  /-- A boundary changed a neighbour's entry within the window. -/
  bad : Bool
  /-- The seam has been measured in the window. -/
  seen : Bool
deriving DecidableEq, Repr

/-- Scrim beyond its registers (R139 to R155). Geometry: origin nm, scale ppb. -/
structure Scrim where
  model : List (Nat × (Int × Int))
  target : List (Nat × (Int × Int))
  /-- Segments whose geometry in force has been set. -/
  placed : List Nat
  /-- Targets are to be recomputed at the next OLINE boundary (R144). -/
  dirty : Bool
  corrLines : Nat
  corr : List (Nat × CorrWin)
  /-- Coefficients and seam records of the image in force; none: built-in (R150). -/
  coefs : Option (List (List Int))
  seams : Option (List (Nat × Int))
  /-- Zones shortened or moved to fit: seam ↦ width, shift (R150). -/
  clip : List (Nat × (Nat × Int))
  /-- PTP timestamps of capture lines, for the output line header (R154). -/
  stamps : List (Nat × Nat)
deriving DecidableEq, Repr

/-- An output line as Scrim hands it to the branches (R154). -/
structure OutLine where
  n : Nat
  edge : Int
  ts : Nat
  width : Nat
  rows : List RowData
  src : Nat
  conf : Nat
  segs : Nat
  gen : Nat
  flags : Nat
deriving DecidableEq, Repr

/-- A sheet column of Plumb (R160, R161): leading and last trailing edge, nm; on media; last value of m and position. -/
structure SheetCol where
  lead : Option Int
  trail : Option Int
  on : Bool
  m : Nat
  at_ : Option Int
deriving DecidableEq, Repr

/-- The cues of one slice for a sheet (R166 to R168). -/
structure LapCue where
  /-- Position of the slice's first leading edge. -/
  lead : Option Int
  /-- Window means of the first LAP_RUN counting lines, until v0 is known (their sum and count), times 1. -/
  base : List Int
  /-- Window means of the run of counting lines above v0 + LAP_STEP. -/
  run : List Int
  stepConf : Nat
  reConf : Nat
  lenConf : Nat
  dropped : Bool
deriving DecidableEq, Repr

/-- An open sheet (R160). Columns by 4 × slice + i. -/
structure Sheet where
  cols : List (Nat × SheetCol)
  cues : List (Nat × LapCue)
  /-- Position since which every column has been on backing. -/
  clearFrom : Option Int
  lead2 : Bool
  src : Nat
  declared : Bool
  /-- DF_IN has qualified for this sheet. -/
  df : Bool
  /-- Its DOUBLE_FEED event waits for the cues of the line it qualified in (R172): that line, position, time. -/
  dfHeld : Option (Nat × Int × Nat)
deriving DecidableEq, Repr

/-- Plumb and Lap beyond their registers (R157 to R172). -/
structure Plumb where
  sheet : Option Sheet
  /-- Columns with no sheet open, by 4 × slice + i: last value of m and position. -/
  colPrev : List (Nat × SheetCol)
  /-- By slice, the edges of the last capture line in each bin, by bin (R158). -/
  edges : List (Nat × List (Nat × PlumbData))
  /-- The wander run: lines; of those with a left edge, a right edge and both, how many; sums in 1/16 px; reference centre, twice,
  nm (R164). -/
  wLines : Nat
  wNL : Nat
  wNR : Nat
  wBoth : Nat
  wLeft : Nat
  wRight : Nat
  wRef : Option Int
  /-- DF_IN: raw level and qualified level (R169). -/
  dfRaw : Bool
  dfQual : Bool
  /-- Position of the last capture line, nm. -/
  lastP : Int
  /-- A declaration with LAP_CTRL_HALT in CAPTURE waits to be acted on (R171). -/
  halt : Bool
  /-- The sheet that has just closed: mean trailing edge, fitted leading edge, whether Lap declared it (R163, R287, R427). -/
  ended : Option (Int × Int × Bool)
deriving DecidableEq, Repr

/-- An entry of a segment's tracker history (R179): position and lateral position nm; NIRA pixels of each window, and whether they
include an INVALID or SAT block. -/
structure TrkEntry where
  p : Int
  lat : Int
  px : List (List Nat)
  bad : List Bool
deriving DecidableEq, Repr

/-- Self-priming of one segment (R193): anchor entry and its time, time entries oldest first, their spacing in lines, lines since
the last one, and of the last three lines, newest first: time, good windows, sum of their peak correlations in 2⁻³⁰. -/
structure TrkPrime where
  anchor : TrkEntry
  t0 : Int
  times : List (Int × TrkEntry)
  spacing : Nat
  since : Nat
  last : List (Int × Nat × Int)
deriving DecidableEq, Repr

/-- A baseline run of one segment (R200): chained position and count where it was last tracked, its sheet column over the NIRA mean,
leading edges, whether the run has failed. -/
structure TrkAlone where
  p : Int
  a : Int × Int
  col : Option (Nat × Int × Bool)
  edges : List Int
  failed : Bool
deriving DecidableEq, Repr

/-- What the history of a used segment rests on (R178, R192): windows, NIRA and NIRB offsets in 1/16 line, TRK_BASE_k, and the baseline in
force in 1/768 nm. -/
structure TrkSig where
  wins : List (Nat × Nat)
  a : Nat
  b : Nat
  reg : Nat
  base : Nat
deriving DecidableEq, Repr

/-- A segment in the tracker. `sig` is some while the tracker uses it (R178); `lone`: its history came from the sensor alone and its oldest
entry does not yet lie 8 lines below where NIRB looks (R193, R196). -/
structure TrkSeg where
  sig : Option TrkSig
  lone : Bool
  ents : List TrkEntry
  valid : Bool
  prime : Option TrkPrime
  alone : TrkAlone
  /-- Baselines of the runs so far, 1/256 nm (R200). -/
  runs : List Nat
  /-- The segment has been shut down since the last boundary (R94, R198). -/
  shut : Bool
deriving DecidableEq, Repr

def TrkAlone.init : TrkAlone := { p := 0, a := (0, 0), col := none, edges := [], failed := false }

def TrkSeg.init : TrkSeg := { sig := none, lone := false, ents := [], valid := false, prime := none, alone := .init, runs := [], shut := false }

/-- A fallback episode (R191): first line, source, C and position of it, lines so far. -/
structure TrkEpisode where
  line : Nat
  src : Nat
  conf : Nat
  p : Int
  lines : Nat
deriving DecidableEq, Repr

/-- The pass in progress (R204): number; positions, L and yaw (10⁻¹⁸ rad) of its first and last line. -/
structure TrkPass where
  num : Nat
  worst : Nat
  conf : Nat
  first : Option (Int × Int × Int)
  last : Int × Int × Int
  creep : Int
  adv : Int
  vmax : Nat
deriving DecidableEq, Repr

def TrkPass.init (n : Nat) : TrkPass :=
  { num := n, worst := 0, conf := 255, first := none, last := (0, 0, 0), creep := 0, adv := 0, vmax := 0 }

/-- The tracker beyond its registers (R178 to R204). Yaw is kept in 10⁻¹⁸ rad. -/
structure Trk where
  segs : List (Nat × TrkSeg)
  p : Int
  theta : Int
  lat : Int
  /-- Y(k) of the latest line. -/
  y : List (Nat × Int)
  fallback : Bool
  /-- Consecutive lines of C ≥ 64 in FALLBACK. -/
  reacq : Nat
  /-- The last TRACKED line a, or the job's start: position, yaw, lateral position; its count once known (R188, R189). -/
  aPos : Int
  aTheta : Int
  aLat : Int
  aCnt : Option Int
  /-- Count latched for the job's first capture line. -/
  cFirst : Option Int
  /-- Position and time, ns, of lines of this job, newest first, at most 256 (R186). -/
  hist : List (Int × Int)
  /-- Start of the scale-refinement stretch (R190). -/
  stretch : Option (Int × Int)
  episode : Option TrkEpisode
  /-- Self-priming has not been abandoned in this job (R193). -/
  spOk : Bool
  /-- After self-priming and until TRACKED: the bar position that the hops give, and its speed, µm/s (R193; log 20). -/
  chain : Option (Int × Int)
  lastSrc : Option Nat
  /-- When the tracker last ran, ns. -/
  lastRun : Option Nat
  pass : TrkPass
  /-- A baseline run is under way: every segment chains alone (R200). -/
  alone : Bool
  /-- A reticle pass is under way: every used segment looks for the bars (R200, R425). -/
  bars : Bool
deriving DecidableEq, Repr


/-- Where an event of Straightedge begins (R231): output line, its lower edge, pass, advance and fold bin. -/
structure InsPos where
  n : Nat
  edge : Int
  pass : Nat
  adv : Option Nat
  bin : Option Nat
deriving DecidableEq, Repr

/-- A zone of a checked line (R214): p where valid, first and last eligible pixel, whether an EXCLUDE mask took a pixel. -/
structure InsZone where
  p : Option Int
  a : Nat
  b : Nat
  lo : Nat
  hi : Nat
  mask : Bool
deriving DecidableEq, Repr

/-- A checked line kept for the row profile and attribution (R215, R222): plane residuals where the line has them, and its factor; of the
LINE-mode table in force when it was checked, the used entries of its index and CENTRE (R221, R235); whether attribution ran. -/
structure InsLine where
  pos : InsPos
  src : Nat
  conf : Nat
  zones : List InsZone
  rc : Option (List Int)
  f : Nat
  drop : Option (List (Nat × Nat × Nat × Nat) × Bool)
  attr : Bool
deriving DecidableEq, Repr

/-- An open band (R215, R232): sum of p − b in 2⁻¹⁶ over its candidates; their zones' range, and that of their eligible pixels; zones of its lines
that an EXCLUDE mask took pixels of, with whether it left them invalid; words A and B. -/
structure InsBand where
  neg : Bool
  pos : InsPos
  lines : Nat
  sum : Int
  cnt : Nat
  x0 : Nat
  x1 : Nat
  e0 : Nat
  e1 : Nat
  src : Nat
  conf : Nat
  zones : Nat
  masked : List ((Nat × Nat) × Bool)
  ab : Nat × Nat
deriving DecidableEq, Repr

/-- An open spot (R217): its pixels of the last two lines that have any; whether it touches an EXCLUDE mask (R232). -/
structure InsSpot where
  neg : Bool
  pos : InsPos
  last : Nat
  x0 : Nat
  x1 : Nat
  px : Nat
  peak : Int
  src : Nat
  conf : Nat
  clip : Bool
  rim : List (Nat × Nat)
deriving DecidableEq, Repr

/-- A column of an open window (R216, R222): pixel-lines, sums of r and Δ, and those of pixels outside NO_ATTRIB masks; whether an EXCLUDE mask
took some, and the span of the eligible ones (R232). -/
structure InsCol where
  cnt : Nat
  r : Int
  acnt : Nat
  d : List Int
  mask : Bool
  span : Option (Nat × Nat)
deriving DecidableEq, Repr

/-- An open column window, or drift window: first and last line, zones as (count, sum of Δ1, sum of Δ2); of a drift window, whether an EXCLUDE
mask took pixels, and the span of the eligible ones (R216, R218, R232). -/
structure InsWin where
  pos : Option InsPos
  last : Option InsPos
  lines : Nat
  cols : List InsCol
  f : Nat
  zones : List (Nat × Int × Int)
  mask : Bool
  span : Option (Nat × Nat)
  src : Nat
  conf : Nat
deriving DecidableEq, Repr

/-- An event of Straightedge (R231). -/
structure InsEvt where
  code : Nat
  flags : Nat
  mag : Int
  pos : Option InsPos
  lines : Nat
  x0 : Nat
  x1 : Nat
  src : Nat
  conf : Nat
  a : Nat
  b : Nat
  c : Nat
deriving DecidableEq, Repr

/-- An event that waits for its crop (R233): crop's first line and pixel, size; 0 its lines are awaited, 1 the crop record is on its way
(`seq`: its place among those), 2 no crop, 3 committed as `seq`. -/
structure InsWait where
  e : InsEvt
  y : Nat
  x : Nat
  size : Nat
  st : Nat
  seq : Nat
deriving DecidableEq, Repr

/-- Pixels of a line for spots (R217): its place and residuals of eligible pixels, whether each may serve in a box; which an EXCLUDE mask took. -/
structure InsSpotLine where
  pos : InsPos
  src : Nat
  conf : Nat
  px : List (Option (Int × Bool))
  mask : List Bool
deriving DecidableEq, Repr

/-- Straightedge beyond its registers (R206 to R235). -/
structure Ins where
  /-- Payload of the colour characterisation in force; none: the content of R211. -/
  cc : Option (List (BitVec 8))
  /-- L of the job's first TRACKED line; L by timestamp of capture lines (R209). -/
  lat0 : Option Int
  lats : List (Nat × Int)
  /-- PASS boundaries of the job before the line last checked, and of each later one the first output line not then closed (R231). -/
  passes : Nat
  passAt : List Nat
  lines : List InsLine
  band : Option InsBand
  spotLines : List InsSpotLine
  spots : List InsSpot
  col : InsWin
  drift : InsWin
  /-- Lines checked since INS_ROWPROF_EVERY was met (R214). -/
  profCnt : Nat
  lastAttr : Nat
  /-- Joins held: number, y (R227); capture lines whose position is awaited for a join. -/
  joins : List (Nat × Int)
  joinNext : Nat
  joinAt : List Nat
  /-- Fold bins: s in 2⁻¹⁶, u in 2⁻¹⁶ (R228); worst source and lowest confidence by advance. -/
  fold : List (Nat × (Int × Nat))
  foldStat : List (Nat × (Nat × Nat))
  /-- Rate limiting: code ↦ events in the second that runs, events not sent (R234). -/
  rate : List (Nat × (Nat × Nat))
  evtNum : Nat
  waits : List InsWait
  /-- Output lines that the crop history holds, newest first (R233). -/
  cropLines : List Nat
deriving DecidableEq, Repr

def InsWin.init : InsWin := { pos := none, last := none, lines := 0, cols := [], f := 0, zones := [], mask := false, span := none, src := 0, conf := 255 }

def Ins.init : Ins :=
  { cc := none, lat0 := none, lats := [], passes := 0, passAt := [], lines := [], band := none, spotLines := [], spots := [], col := .init,
    drift := .init, profCnt := 0, lastAttr := 0, joins := [], joinNext := 1, joinAt := [], fold := [], foldStat := [], rate := [], evtNum := 0, waits := [],
    cropLines := [] }


/-- A loaded ramp table (R242): entries as interval, repeat, mark. `ver` tells loads of one number apart. -/
structure Ramp where
  ver : Nat
  ents : List (Nat × Nat × Bool)
deriving DecidableEq, Repr

/-- A segment of a move (R246), with what R250 inserts: `fixed` an interval to hold, `upTo` an interval at which a DECEL ends. -/
structure RSeg where
  tbl : Nat
  play : Nat
  ent : Nat
  keep : Bool
  term : Nat
  inp : Nat
  edge : Bool
  latch : Bool
  opd : Int
  fixed : Option Nat
  upTo : Option Nat
deriving DecidableEq, Repr

/-- How steps are being played (R245): 0 upward, 1 held, 2 downward; table entries; entry; steps left in it; last entry; interval
held; whether the next step is the entry's first; entered above ENT; the segment has played all. -/
structure Play where
  kind : Nat
  tbl : List (Nat × Nat × Bool)
  j : Nat
  left : Nat
  stop : Nat
  hold : Nat
  first : Bool
  above : Bool
  done : Bool
deriving DecidableEq, Repr

/-- What a move belongs to: the host, Primer or the capture pacing; a step of homing (R258); an advance's fast phase or creep. -/
inductive MoveFor | host | home (step : Nat) | advFast | advCreep
deriving DecidableEq, Repr

/-- A running move (R246 to R253). `at_`: interval of the last step, none at rest. -/
structure Move where
  what : MoveFor
  neg : Bool
  velocity : Bool
  /-- Steps still to emit, of a positioning move, and its committed table (R248). -/
  budget : Option Nat
  commit : Nat
  committed : Bool
  stopping : Bool
  segs : List RSeg
  idx : Nat
  play : Option Play
  at_ : Option Nat
  steps : Nat
  segSteps : Nat
  enc0 : List Int
  p0 : Int
  hit : Bool
  sel : Option (Nat × Nat)
  /-- Contents of the tables when the move started, and the tables it uses (R244). -/
  tabs : List (Nat × Ramp)
  used : List Nat
  /-- The budget rule has dropped to a slower interval (R248). -/
  clip : Bool
  /-- Followers with their accumulators, their directions as taken at START (true = negative), and the group's DEN (R253). -/
  followers : List (Nat × Nat)
  dirs : List (Nat × Bool)
  den : Nat
  nums : List (Nat × Nat)
  /-- Followers run against their own direction: the back-up of a paced feed (R303). -/
  rev : Bool
deriving DecidableEq, Repr

/-- An axis beyond its registers. -/
structure Axis where
  move : Option Move
  /-- The lead whose group this axis follows. -/
  lead : Option Nat
  /-- Re-phase: steps left, negative direction; none left means the 1 ms runs (R263). -/
  rephase : Option (Nat × Bool)
  /-- The limit input disarmed after homing (R259). -/
  disarmed : Option Nat
  /-- MOT_FLTa_L is qualified low; last sample of the always-on domain was low (R262, R265). -/
  flt : Bool
  aonLow : Bool
  /-- A re-phase is due once the driver is there and the axis at rest (R263, R280). -/
  due : Bool
  /-- Consecutive readback mismatches (R267). -/
  ballBad : Nat
  /-- This generator has failed (R266, R461). -/
  genBad : Bool
  /-- MOT_DIRa: the direction taken at the start of the last move, true = negative; end of the last pulse on MOT_STEPa, ns of `now` (R239). -/
  dir : Bool
  pulse : Nat
deriving DecidableEq, Repr

def Axis.init : Axis :=
  { move := none, lead := none, rephase := none, disarmed := none, flt := false, aonLow := false, due := false, ballBad := 0,
    genBad := false, dir := false, pulse := 0 }

/-- A limit input (R256): raw and qualified level; positions of the axes at the sequence's first edge, and the fractions. -/
structure LimIn where
  raw : Bool
  qual : Bool
  latch : Option (List Int × List Nat)
deriving DecidableEq, Repr

def LimIn.init : LimIn := { raw := false, qual := false, latch := none }

/-- A queued advance (R268). -/
structure AdvReq where
  id : Nat
  len : Nat
  creep : Nat
  deadline : Nat
deriving DecidableEq, Repr

/-- The advance in progress, or one whose settle lines are awaited (R269 to R274). Phase: 0 fast, 1 creep, 2 settling. `s16`: S in
Q16.16. -/
structure Adv where
  req : AdvReq
  num : Nat
  t0 : Nat
  base : Int
  trim : Int
  target : Int
  s16 : Nat
  unchained : Bool
  /-- P_line that served as base at the trigger. -/
  basePos : Int
  first : Bool
  phase : Nat
  fast : Nat
  creep : Nat
  cMin : Nat
  /-- Steps left of an advance that finishes on steps (R273). -/
  left : Option Int
  late : Bool
  overrun : Bool
  clipped : Bool
  /-- Once PASS_READY has been asserted: first settle line, how many, those in (position, source), µs from the trigger. -/
  fromLine : Nat
  need : Nat
  lines : List (Int × Nat)
  us : Nat
deriving DecidableEq, Repr

/-- Roller beyond its registers (R238 to R284). -/
structure Roller where
  ramps : List (Nat × Ramp)
  /-- Held loads (R244). -/
  held : List (Nat × List (Nat × Nat × Bool))
  axes : List (Nat × Axis)
  lims : List (Nat × LimIn)
  /-- Encoder levels A and B. -/
  encLev : List (Nat × (Bool × Bool))
  queue : List AdvReq
  run : Option Adv
  /-- An aborted advance whose record waits until FEED has come to rest (R274). -/
  aborting : Option Adv
  collect : List Adv
  advNum : Nat
  /-- Target and ABORTED of the last advance; achieved position of the last one recorded. -/
  prev : Option (Int × Bool)
  prevPos : Option Int
  trim : Int
  /-- Latest delivered line: position, count, source, confidence (R272). -/
  last : Option (Int × Int × Nat × Nat)
  /-- PASS_SYNC_IN: level of the pin, qualified level (true = active), time of the sequence's first edge; a swath end is kept; the swath in progress
  broke the handshake. -/
  psRaw : Bool
  psQual : Bool
  psTs : Option Nat
  swath : Bool
  badSwath : Bool
  /-- PASS_READY is asserted. -/
  ready : Bool
  /-- Axes that Primer is moving (R241, R422). -/
  primer : List Nat
  /-- A limit, ESTOP, driver, ball or generator fault has met FEED or EXIT, and the pacing has yet to act on it (R303). -/
  fault : Bool
deriving DecidableEq, Repr

def Roller.init : Roller :=
  { ramps := [], held := [], axes := [], lims := [], encLev := [], queue := [], run := none, aborting := none, collect := [], advNum := 0, prev := none,
    prevPos := none, trim := 0, last := none, psRaw := false, psQual := false, psTs := none, swath := false, badSwath := false,
    ready := false, primer := [], fault := false }



/-- An open page (R286, R287, R292): number, lower edge in lines, last line that has left Scrim, lines, pauses counted before it. -/
structure CapPage where
  num : Nat
  first : Nat
  last : Nat
  count : Nat
  /-- Pauses within the page. -/
  pauses : Nat
  leadShort : Bool
  df : Bool
  seamFb : Bool
  /-- Greatest |CAP_REENTRY_NM| of re-entries judged, whether one was unknown, whether the latest re-entry is still to be judged. -/
  reMax : Nat
  reUnk : Bool
  re : Bool
  /-- The preview group in progress: lines in it, and sum and count of each box. -/
  prevLines : Nat
  prev : List (Nat × Nat)
deriving DecidableEq, Repr

/-- A sheet whose page is open or awaited (R286, R287): first line, last line once it has closed, DOUBLE_FEED. -/
structure CapSheet where
  first : Nat
  last : Option Nat
  df : Bool
deriving DecidableEq, Repr

/-- The capture formatter and the pacing beyond their registers (R285 to R313). -/
structure Cap where
  /-- Payload of the speed ladder in force (R293). -/
  ladder : Option (List (BitVec 8))
  /-- Width of the capture area, fixed at the transition (R288). -/
  area : Nat
  /-- Rung whose PERIOD and A are in force; selection for the next LINE boundary; slower rung that waits for the end of the
  deceleration (R296). -/
  rung : Nat
  want : Option Nat
  pend : Option Nat
  /-- A forward move has started: lines are admitted from the next LINE boundary (R305). -/
  start : Bool
  /-- Capture lines are admitted to Float, from line `from_` on, and up to `upTo` once FEED has come to rest (R302, R303). -/
  admits : Bool
  from_ : Nat
  upTo : Option Nat
  /-- The lines admitted before the last stop, first and last: some may still be on their way to Float at the restart (R303). -/
  was : Option (Nat × Nat)
  /-- The line at rest whose position is awaited as hw_stop; true: an hw_stop already held is kept (R303, R311). -/
  restAt : Option (Nat × Bool)
  /-- No RESUME has yet started the feed (R312). -/
  first : Bool
  hw : Option Int
  /-- Output lines that carry RESTART: whether they carry SEAM_FALLBACK too, and whether a re-entry of theirs is to come (R306). -/
  seams : List (Nat × (Bool × Bool))
  /-- CAP_REENTRY_NM waits for the tracker's return to TRACKED. -/
  reacq : Bool
  /-- The fill stands at or above HIGH (R300). -/
  hi : Bool
  /-- The illumination timer runs; tabs as recorded, and those of the last 64 lines, newest first: sums at left and right (R307). -/
  ledTimer : Bool
  tabRec : List (Nat × Nat)
  tabs : List (Nat × Nat)
  /-- HOST_STALL has been sent for this pause (R308). -/
  stallSent : Bool
  /-- Time of the last rung change, ns; units granted in each 10 ms, newest first; 10 ms samples at which fill and credit
  have met R299 without a break. -/
  since : Option Nat
  grants : List Nat
  okTicks : Nat
  /-- Class 2 and 3 records are being dropped by policy (R309). -/
  dropping : Bool
  /-- Pages opened in the job; PAGE_START waits for a line; the open page; sheets awaited, oldest first; line held until it is known
  whether it is its page's last: with its page line and its rung. -/
  num : Nat
  arm : Bool
  page : Option CapPage
  sheets : List CapSheet
  held : Option (OutLine × Nat × Nat)
deriving DecidableEq, Repr

def Cap.init : Cap :=
  { ladder := none, area := 0, rung := 0, want := none, pend := none, start := false, admits := false, from_ := 0, upTo := none, was := none, restAt := none, first := true, hw := none,
    seams := [], reacq := false, hi := false, ledTimer := false, tabRec := [], tabs := [], stallSent := false, since := none,
    grants := [], okTicks := 0, dropping := false, num := 0, arm := false, page := none, sheets := [], held := none }


/-- A granted DRAM transaction in progress (R319, R325). -/
structure Grant where
  input : Nat
  write : Bool
  addr : Nat
  bytes : Nat
  /-- The DMA channel served, on input 4 (R341). -/
  ch : Nat
deriving DecidableEq, Repr

/-- Section migration in progress (R330, R462): section copied, spare section used, next 2 KiB chunk. -/
structure Migration where
  sect : Nat
  spare : Nat
  chunk : Nat
deriving DecidableEq, Repr

/-- The DRAM controller and arbiter beyond their registers (R314 to R336). -/
structure Mc where
  /-- Quota units left in this window, by input, from the quotas in force at its start (R320). -/
  left : List (Nat × Nat)
  /-- Which of the three window lengths comes next (R320). -/
  window : Nat
  grant : Option Grant
  /-- DMA channel served last (R341). -/
  dmaServed : Nat
  /-- Refreshes postponed (R324). -/
  postponed : Nat
  /-- Debug accesses made in this window (R324). -/
  dbgUsed : Bool
  /-- Die temperatures last reported and at the last training, 0.01 °C (R329). -/
  dieT : List (Nat × Int)
  trainT : List (Nat × Int)
  /-- Time of the last retraining, ns (R329). -/
  lastRetrain : Option Nat
  /-- DRAM_DRIFT has been sent for this drift (R329). -/
  driftSent : Bool
  migration : Option Migration
  /-- Chunk of the migration whose copy is under way, locked (R330). -/
  locked : Option Nat
  /-- Retired sections: section ↦ spare section (R330). -/
  remap : List (Nat × Nat)
  /-- Start of the scrub pass under way, ns; none before its first read (R337). -/
  passStart : Option Nat
  /-- 32-byte blocks whose last read was uncorrectable: block number ↦ mask of the inputs that read it so (R333). -/
  poison : List (Nat × Nat)
  /-- 32-byte blocks copied by the migration engine with their uncorrectable mark (R333). -/
  marks : List Nat
  /-- Peak demands of input 10 and of inputs 11 and 12 as last computed, units per µs (R321). -/
  needCap : Nat
  needRing : Nat
  /-- Uncorrectable reads reported to the control processors as bus errors (R333). -/
  busErrors : Nat
  /-- Telemetry samples in the buffer, oldest first, by the order they were written; the number of the next; samples lost (R335; log 116). -/
  telemetry : List Nat
  telNext : Nat
  telLost : Nat
  /-- The debug port's access in progress: write or read, address, bytes to write (R523). -/
  dbg : Option (Bool × Nat × List (BitVec 8))
deriving DecidableEq, Repr

/-- A table read in place by Straightedge (R32, R519): type, payload address and length, and whether it is only staged. -/
structure InPlace where
  type : Nat
  addr : Nat
  len : Nat
  staged : Bool
deriving DecidableEq, Repr

/-- A committed packet held in Hod (R360, R367). -/
structure Pkt where
  seq : Nat
  typ : Nat
  gap : Bool
  /-- In the ping-pong banks: the bank that holds it (R370). -/
  bank : Option Nat
  /-- Committed in fallback: the header carries FALLBACK. -/
  fb : Bool
  payload : List (BitVec 8)
  sent : Bool
  acked : Bool
  /-- Sent in the current epoch, so that a further sending carries RETX (R407). -/
  sentEpoch : Bool
  /-- Failed spill reads of this packet (R377). -/
  readFails : Nat
  /-- Fragment bytes of the sending in progress (R404). -/
  fragPos : Nat
  /-- Named for retransmission by a NACK or a timeout (R407). -/
  again : Bool
  /-- Where its first byte lies in its class ring; none while a bank holds it (R364, R371). -/
  pos : Option Nat
deriving DecidableEq, Repr

/-- A packet a producer has open (R361). -/
structure OpenPkt where
  cls : Nat
  prod : Nat
  kind : Nat
  payload : List (BitVec 8)
  /-- Bytes written so far, header included; those among them the class took, and those of these still in the tail partition (R361, R364, R369). -/
  written : Nat
  took : Nat
  inTail : Nat
  /-- A word was beyond the class's capacity (R369). -/
  beyond : Bool
  /-- The class was flushed under it (R372). -/
  flushed : Bool
  /-- The producer waits on a full tail (R366). -/
  waiting : Bool
  item : Option Nat
deriving DecidableEq, Repr

/-- A pending gap record of a producer, for one class and reason (R362). -/
structure GapRec where
  cls : Nat
  prod : Nat
  kind : Nat
  reason : Nat
  count : Nat
  first : Nat
  last : Nat
  ts : Nat
deriving DecidableEq, Repr

/-- One Hod class (R358, R364, R367). -/
structure HodClass where
  /-- Held packets, oldest first. -/
  pkts : List Pkt
  nextSeq : Nat
  /-- Bytes of committed packets in the tail partition, not yet written to the ring (R364). -/
  tail : Nat
  /-- Where the ring's next packet goes (R364; log 126). -/
  wr : Nat
  /-- RENUM_FROM since the last session's epoch, and whether the class was renumbered (R374, R408). -/
  renumFrom : Option Nat
  /-- Legacy window: words read past the release pointer, and the mark, counted in words from it (R375). -/
  legRead : Nat
  legMark : Option Nat
deriving DecidableEq, Repr

def HodClass.init : HodClass :=
  { pkts := [], nextSeq := 0, tail := 0, wr := 0, renumFrom := none, legRead := 0, legMark := none }

/-- Hod beyond its registers (R358 to R378). -/
structure Hod where
  classes : List (Nat × HodClass)
  opens : List OpenPkt
  gaps : List GapRec
  /-- The bank being filled (R370). -/
  fillBank : Nat
  /-- Bytes taken in a bank's share: 2 × bank + class ↦ bytes (R370, R371). -/
  bankUsed : List (Nat × Nat)
  /-- Why the DRAM path is missing: retraining, spill block reset (R370). -/
  retraining : Bool
  spillReset : Bool
  /-- A spill has been configured since reset (R371). -/
  configured : Bool
  /-- Records of each producer since the IDLE-to-job transition, by class and producer (R362). -/
  counts : List (Nat × Nat)
  /-- Output line of the last line record committed in the job (R39). -/
  line : Option Nat
deriving DecidableEq, Repr

/-- A DMA write transaction that waits to be issued: consecutive bytes, and the source elements that end in them (R341, R346). -/
structure DmaTx where
  addr : Nat
  n : Nat
  bytes : List (BitVec 8)
deriving DecidableEq, Repr

/-- A DMA write transaction whose response is outstanding: its address, the source elements that end in it, or the status record's (R351); the data bytes
that its response finds written (R325, R326). -/
structure DmaOut where
  addr : Nat
  n : Nat
  status : Bool
  bytes : List (BitVec 8)
deriving DecidableEq, Repr

/-- A DMA descriptor that has reported DONE while write responses are outstanding (R351). -/
structure DmaDone where
  desc : Nat
  ctrl : Nat
  n : Nat
  acked : Nat
  out : List DmaOut
  halfRaised : Bool
  undef : Bool
deriving DecidableEq, Repr

/-- The phases of a DMA channel's run that no register shows. -/
structure DmaCh where
  /-- Descriptor words as fetched. -/
  src : Nat
  dst : Nat
  c0 : Nat
  c1 : Nat
  c2 : Nat
  ss0 : Int
  ss1 : Int
  ss2 : Int
  ds0 : Int
  ds1 : Int
  ds2 : Int
  ctrl : Nat
  next : Nat
  /-- Linear index of the next source element whose reads are not issued (R350). -/
  idx : Nat
  /-- Source elements whose write responses have arrived without error (R351). -/
  acked : Nat
  /-- Writes of the burst last read that wait to be issued: one data write is outstanding at a time (R341). -/
  queue : List DmaTx
  /-- Writes of this descriptor whose responses are outstanding, oldest first. -/
  out : List DmaOut
  halfRaised : Bool
  /-- The bytes inside the overlap are undefined (R348). -/
  undef : Bool
  /-- Address of the descriptor. -/
  desc : Nat
  abort : Bool
  /-- The ABORT came while the channel was in RUN (R354). -/
  abortRun : Bool
  /-- First error of the descriptor: cause and address (R352). -/
  error : Option (Nat × Nat)
  /-- Elements of the burst whose reads are outstanding; 0: none. They are the last before `idx`. -/
  burst : Nat
  /-- The descriptor has been checked and runs. -/
  began : Bool
  /-- Its status DONE has been written (R351). -/
  told : Bool
  /-- Transactions issued to the DRAM port and not yet granted (R341). -/
  asked : Nat
  /-- Source bytes held for a packed destination element not yet whole (R341, R345). -/
  hold : List (BitVec 8)
  /-- Descriptors that have reported DONE and whose responses are outstanding, oldest first: descriptor address, CTRL word, source
  elements, acknowledged ones, bursts outstanding, HALF raised (R351, R352). -/
  earlier : List DmaDone
  /-- An error arrived on an earlier descriptor: that descriptor, the cause and the failing address (R352). -/
  withdrawn : Option (DmaDone × Nat × Nat)
deriving DecidableEq, Repr

def DmaCh.init : DmaCh :=
  { src := 0, dst := 0, c0 := 0, c1 := 0, c2 := 0, ss0 := 0, ss1 := 0, ss2 := 0, ds0 := 0, ds1 := 0, ds2 := 0, ctrl := 0,
    next := 0, idx := 0, acked := 0, queue := [], out := [], halfRaised := false, undef := false, desc := 0, abort := false, abortRun := false, error := none,
    burst := 0, began := false, told := false, asked := 0, hold := [], earlier := [], withdrawn := none }


/-- A control request that waits, or executes (R399, R401). -/
inductive CtlOp where
  | regRead (addr count : Nat)
  | regWrite (addr v : Nat)
  | regBlock (addr count : Nat) (fixed : Bool) (words : List Nat)
  | tableLoad (dest offset total : Nat) (image : List (BitVec 8))
  | attest (nonce : List (BitVec 8))
  | keepalive
  | close
deriving DecidableEq, Repr

/-- A table image received in part, or complete and under its checks (R403, R520): header bytes, DEST, TOTAL, bytes so far; staged by
SYS_TBL_CMD. -/
structure TableImage where
  hdr : List (BitVec 8)
  dest : Nat
  total : Nat
  got : Nat
  local_ : Bool
deriving DecidableEq, Repr

/-- The Tyrex engine beyond its registers (R397 to R412). -/
structure Tyrex where
  /-- The session's host, and the port it named for STREAM. -/
  host : Nat
  port : Nat
  /-- STREAM bytes sent in the session (R405). -/
  sent : Nat
  /-- Requests held for a gap in the numbers; numbers not below the next expected one that have executed unordered (R401, R402). -/
  held : List (Nat × (Hdr × CtlOp))
  done : List Nat
  /-- The last 64 responses by number, oldest first (R401). -/
  resps : List (Nat × Tx)
  /-- Epoch in which the session opened most recently was opened (R408). -/
  prevEpoch : Option Nat
  load : Option TableImage
  image : Option TableImage
  /-- A quote being signed (R486, R488): SEQ, its body, whether the response is tagged. -/
  quote : Option (Nat × List (BitVec 8) × Bool)
deriving DecidableEq, Repr

/-- The Ethernet port beyond its registers (R381 to R383): attempts failed at the highest speed, speeds removed, when the link was
lost, whether a lease is held. -/
structure Eth where
  /-- Attempts failed since the last loss of link, by speed code (R381). -/
  fails : List (Nat × Nat)
  removed : Nat
  downAt : Option Nat
  lease : Bool
deriving DecidableEq, Repr

/-- The budget beyond its registers (R388, R389): the start-up wait, segments that wait for it, a request not yet sent, and when the
last one was. -/
structure Poe where
  wait : Bool
  waiting : List Nat
  reqDue : Bool
  reqAt : Option Nat
deriving DecidableEq, Repr

/-- The power-interface die (R384 to R387, R524 to R529). State codes of POE_PD_STATE; last fault; input above the lockout. -/
structure PdDie where
  events : Nat
  grant : Nat
  acload : Bool
  input : Bool
  /-- The path's current limit: 2.2 A, or 150 mA while inrush lasts (R525). -/
  limit : Bool
  state : Nat
  fault : Nat
  faults : Nat
  auxPresent : Bool
  auxActive : Bool
  /-- Auxiliary priority as the last command frame gave it (R528). -/
  prio : Bool
deriving DecidableEq, Repr


/-- One input in a Primer capture (R421, R423): lines summed, lines lost, sums by pixel in LOC_PIX order, pixels with an over-range
sample. -/
structure CalAcc where
  n : Nat
  lost : Nat
  sums : List Nat
  beyond : List Nat
deriving DecidableEq, Repr

def CalAcc.init : CalAcc := { n := 0, lost := 0, sums := [], beyond := [] }

/-- What a run has left to do: bring the tile in; start-up check; AFE_TRIM capture; the boundary between the two tile kinds; white, dark
and verify captures of SHADING; take the tile out; reticle runs; chart (R423 to R427, R432, R437). -/
inductive CalStage | tileIn | check | trim | between | white | dark | verify | tileOut | reticle | chart
deriving DecidableEq, Repr

/-- Where a stage stands: it waits (for the axis, 20 ms, 2 s, TILE_READY), its capture or its forward travel is under way, FEED comes to
rest, FEED runs back. -/
inductive CalPhase | wait | run | stop | back
deriving DecidableEq, Repr

/-- One slice in a run. `out`: its result is discarded (R440). Results written and not yet in force: trims by input; shading words that
differ from unity and TAPM gains by input. `fig`: greatest |Δ|, shading residual. -/
structure CalSlice where
  afe : Bool
  shd : Bool
  out : Bool
  sets : List Nat
  entry : List (BitVec 8)
  time : Nat
  acc : List (Nat × CalAcc)
  white : List (Nat × CalAcc)
  dark : List (Nat × CalAcc)
  trims : Option (List (Nat × Int))
  words : Option (List (Nat × Nat))
  gains : List (Nat × Nat)
  step : Nat
  fig : Nat
deriving DecidableEq, Repr

/-- A Primer run (R420 to R432). `bar`: bar kinds it holds, as a mask. Seams: windows accepted, newest first, as c_j and e_j, with their
number. Results by kind: mask accepted and worst figure. -/
structure CalRun where
  gap : Bool
  startup : Bool
  slices : List (Nat × CalSlice)
  bar : Nat
  stages : List CalStage
  phase : CalPhase
  lines : Nat
  passes : Nat
  from_ : Int
  /-- Reticle pass: position of the line last tracked, and of that by which every used segment had seen every bar (R425). -/
  at_ : Int
  barsAt : Option Int
  /-- While STITCH runs: c_j as it found them, and the host's SCRIM_CORR_GAIN (R426). -/
  corr0 : List (Nat × Int)
  gain0 : Option Nat
  wins : List (Nat × (Nat × List (Int × Int)))
  olines : List OutLine
  lead : Option Int
  results : List (Nat × (Nat × Nat))
deriving DecidableEq, Repr

/-- A record that waits to be written to NOR (R436). -/
structure CalStore where
  kind : Nat
  slice : Nat
  bytes : List (BitVec 8)
  /-- The slot it goes to first could not be written (R436). -/
  tried : Bool
deriving DecidableEq, Repr

/-- Primer beyond its registers (R420 to R442). -/
structure Cal where
  /-- Slices for which AFE_TRIM and SHADING are pending, and those that lack a usable or accepted result (R429, R439), as masks. -/
  pendAfe : Nat
  pendShd : Nat
  lackAfe : Nat
  lackShd : Nat
  /-- Kinds whose CAL_OVERDUE has been raised. -/
  overdue : Nat
  /-- Slices whose records have been read since reset (R437). -/
  seen : Nat
  /-- Slices whose start-up check has been made, or cannot be, as a mask (R437). -/
  checked : Nat
  run : Option CalRun
  /-- RESUME or RESUME_FORCE held during a gap: 1, 2 (R431). -/
  resume : Nat
  /-- Runs of start-up whose results wait for the IDLE entry that ends it, oldest first (R437). -/
  late : List CalRun
  /-- TIMING_SHD_BASE has been non-zero in force (R437). -/
  based : Bool
  stores : List CalStore
  /-- The record region of NOR: 2 × (32 × kind + slice, 31 for 0xFF) + slot ↦ record (R435, R436). -/
  nor : List (Nat × List (BitVec 8))
deriving DecidableEq, Repr

def Cal.init : Cal :=
  { pendAfe := 0, pendShd := 0, lackAfe := 0, lackShd := 0, overdue := 0, seen := 0, checked := 0, run := none, resume := 0, late := [],
    based := false, stores := [], nor := [] }


/-- A bridge front end (R453 to R456): excitation on; settings in force; bridge samples, newest first, in nV/V; samples since the last
output; the sample before; outputs still UNSETTLED; the reversal stands in its negative half, its settled outputs (sum, count), those of
the positive half, time of the last switch; consecutive failing and passing tests; the ratio has been written since the last break. -/
structure Bridge where
  on : Bool
  gain : Nat
  exc5 : Bool
  reverse : Bool
  dec : Nat
  samples : List Int
  runs : Nat
  prev : Option Int
  unsettled : Nat
  neg : Bool
  half : Int × Nat
  plus : Option (Int × Nat)
  switchAt : Nat
  fails : Nat
  passes : Nat
  /-- Passing wire tests since the suspicion, or since the last failing test (R456). -/
  clean : Nat
  fresh : Bool
deriving DecidableEq, Repr

def Bridge.init : Bridge :=
  { on := false, gain := 0, exc5 := false, reverse := false, dec := 16, samples := [], runs := 0, prev := none, unsettled := 0, neg := false,
    half := (0, 0), plus := none, switchAt := 0, fails := 0, passes := 0, clean := 0, fresh := false }

/-- An entry of a sequence run as the run took it: source, sample code, AVG, FMT (R449). -/
structure HkEntry where
  e : Nat
  src : Nat
  avg : Nat
  fmt : Nat
deriving DecidableEq, Repr

/-- The monitors and the housekeeping ADC beyond their registers (R443 to R456). -/
structure Hk where
  /-- Monitors whose last reading lay outside the window (R446). -/
  vOut : List Nat
  /-- For each slice sensor, its reading less its spare's, newest first, over 10 minutes of readings (R444). -/
  offs : List (Nat × List Int)
  /-- Consecutive readings that differ by more than 5 K, by sensor (R444). -/
  far : List (Nat × Nat)
  /-- A reading has been taken; MON_T_CRIT stands (R445). -/
  read : Bool
  crit : Bool
  /-- Entries the run in progress has yet to complete; a run has fallen due and waits (R448, R449). -/
  run : Option (List HkEntry)
  due : Bool
  /-- The urgent request pending or converting (R452). -/
  urg : Option HkEntry
  /-- When HK_REF_READY cleared, while the conversion that was then in progress may still complete (R448). -/
  offAt : Option Nat
  bridges : List (Nat × Bridge)
deriving DecidableEq, Repr

def Hk.init : Hk :=
  { vOut := [], offs := [], far := [], read := false, crit := false, run := none, due := false, urg := none, offAt := none, bridges := [] }

/-- The wear record (R464): time powered of each converter, by 12k + n, and of each slice's LEDs, ns; serial the LED counter belongs to; slices warned of;
erases by physical NOR sector; process-monitor alarms. -/
structure Wear where
  adc : List (Nat × Nat)
  led : List (Nat × Nat)
  serial : List (Nat × Nat)
  warned : List Nat
  nor : List (Nat × Nat)
  pm : Nat
deriving DecidableEq, Repr

def Wear.init : Wear := { adc := [], led := [], serial := [], warned := [], nor := [], pm := 0 }

/-- Filler beyond its registers (R457 to R464). -/
structure Filler where
  /-- Slices whose latest visit gave a mismatch; slices with a failed check in the visit in progress (R458). -/
  missed : List Nat
  checked : List Nat
  /-- Capture lines watched in the visit in progress, by cluster (R458). -/
  visit : List (Nat × Nat)
  /-- Slices whose lane is to be taken over at the next LINE boundary, and those whose next line is invalid (R459). -/
  takeover : List Nat
  skip : List Nat
  /-- Failed converters of a slice: converter ↦ the spare place that stands in for it, 2 where none does (R463). -/
  adcOut : List (Nat × List (Nat × Nat))
  /-- Parts whose retest goes on since IDLE was entered; retests failed, by part; parts retired for good (R463). -/
  retest : List Nat
  fails : List (Nat × Nat)
  retired : List Nat
  /-- DRAM rows, of 2 KiB, on the repair list, and those with one correctable error since start-up (R462). -/
  rows : List Nat
  ceRows : List Nat
  /-- Sections whose retirement waits for the migration in progress; SECT_SPARES_OUT has been raised for these (R462). -/
  retire : List Nat
  denied : List Nat
  /-- Times of correctable errors by section, ns (R462). -/
  ce : List (Nat × List Nat)
  /-- Logical sectors of the NOR record region that a spare holds: sector ↦ physical sector (R462). -/
  norMap : List (Nat × Nat)
  /-- SRAM words with one correctable error since start-up, and those on the repair list in NOR (R461; log 120). -/
  sramOnce : List Nat
  sramList : List Nat
  /-- Shading words that cannot be read until they are rewritten: slice, place in its block (R461). -/
  shdBad : List (Nat × Nat)
  wear : Wear
  saved : Wear
deriving DecidableEq, Repr

def Filler.init : Filler :=
  { missed := [], checked := [], visit := [], takeover := [], skip := [], adcOut := [], retest := [], fails := [], retired := [], rows := [], ceRows := [], retire := [],
    denied := [], ce := [], norMap := [], sramOnce := [], sramList := [], shdBad := [], wear := .init, saved := .init }



/-- A firmware slot of the NOR (R473, R475): erased, the image it left manufacture with (log 45), or an image that was programmed. -/
inductive FwSlot where
  | erased
  | factory
  | image (bytes : List (BitVec 8))
deriving DecidableEq, Repr

/-- A copy of the boot control record (R474). -/
structure BootRec where
  gen : Nat
  active : Nat
  trial : Option Nat
  attempts : Nat
  count : Nat
deriving DecidableEq, Repr

/-- The security block beyond its registers (R471 to R495). -/
structure Sec where
  slotA : FwSlot
  slotB : FwSlot
  /-- The two copies of the boot control record in NOR; none: not valid (R474). -/
  recA : Option BootRec
  recB : Option BootRec
  /-- NOR holds a valid copy A, and a valid copy B, of the device certificate (R473, R485). -/
  certA : Bool
  certB : Bool
  /-- OWNER_KEY_HASH; none: all zeros. -/
  owner : Option (List (BitVec 8))
  /-- The image being received or checked, newest word first, and its length (R479). -/
  words : List Nat
  len : Nat
  /-- When the checks of the image received may have ended (R479; log 121). -/
  checkAt : Nat
  /-- The entry offsets at which CPU0 and CPU1 were released, when the OTP read port was locked to all but DEVICE_ID, MAC and the key hashes; none:
  CPU1 is held and CPU0 runs the ROM (R477 step 7, R478). -/
  entry : Option (Nat × Nat)
  /-- The slot not running holds an image that was staged (R480, R481). -/
  staged : Bool
  /-- Words of the debug certificate window (R490, R493). -/
  window : List (Nat × Nat)
  /-- UNLOCK attempts since reset (R491); an unlock has been in force since reset (R486). -/
  attempts : Nat
  unlocked : Bool
  quotes : Nat
  quote : List (BitVec 8)
  /-- Digests of the table images in force: type, or 0x300 + table for ramp tables, ↦ SHAKE256 (R487). -/
  digests : List (Nat × List (BitVec 8))
deriving DecidableEq, Repr

def Sec.init : Sec :=
  { slotA := .factory, slotB := .erased, recA := some { gen := 0, active := 0, trial := none, attempts := 0, count := 0 }, recB := none, certA := true, certB := true, owner := none, words := [], len := 0,
    checkAt := 0, entry := none, staged := false, window := [], attempts := 0, unlocked := false, quotes := 0, quote := [], digests := [] }



/-- Where start-up stands (R547): held in full reset; clocks starting; the ROM, or its recovery (R478); SRAM repair; DRAM training; the link and its budget;
segments and their check; done. -/
inductive Boot | held | clocks | rom | recovery | repair | train | link | segs | done
deriving DecidableEq, Repr

/-- Power, clocks and reset beyond their registers (R530 to R547). -/
structure Power where
  boot : Boot
  /-- The RST_L pin holds the reset. -/
  rstL : Bool
  /-- VDD_AON has been lost since the last start-up. -/
  aonLost : Bool
  /-- Sensor and reading of a thermal trip, until start-up has reported it; start-up waits for the die to cool (R445, R543). -/
  trip : Option (Nat × Int)
  cooling : Bool
  /-- Clusters whose pixel PLL has been unlocked in the line in progress, as a mask (R537). -/
  pixBad : Nat
  /-- Times of full resets with cause DOMAIN (R536). -/
  domResets : List Nat
  /-- Crossings in transfer, by ID, and whether an event is pending; when XING_OVERRUN was last sent (R542). -/
  xings : List (Nat × Bool)
  xingAt : Option Nat
  /-- Rails that are good, as a mask, and the always-on crystal in use, which their registers show outside a full reset (R582). -/
  rails : Nat
  xtal : Bool
  /-- CPU0 is being reset by its watchdog until this time, ns (R28, R414). -/
  cpu0 : Option Nat
deriving DecidableEq, Repr

/-- A requested change of mode that waits (R35, R38, R39): IDLE at the next PAGE boundary, or at the next LINE boundary once the media has
stood still; SERVICE at the next LINE boundary, then while the axes stop. -/
inductive ModePend | idle | idleLine | service | stopping
deriving DecidableEq, Repr


/-- The state of the block. -/
structure State where
  /-- Commands waiting, first in, first out. -/
  pending : List Instr
  variant : Variant
  /-- Free-running time since power-on, ns. -/
  now : Nat
  /-- The model's own counter of free values drawn. -/
  draws : Nat
  /-- Register fields: code of the field ↦ value in force. -/
  regs : List (Nat × Nat)
  /-- RWS shadows waiting for their boundary, by field code (R506). -/
  shadow : List (Nat × Shadow)
  /-- Writes held by SHADOW_CTRL_HOLD, by page (R506). -/
  held : List (Nat × List HeldWrite)
  /-- Snapshots taken by FREEZE: page ↦ field code ↦ value (R505). -/
  snaps : List (Nat × List (Nat × Nat))
  /-- _HI words latched by a read of their _LO: agent and address ↦ word (R501). -/
  latches : List (Nat × Nat)
  /-- DRAM, byte by byte (R314, R315). -/
  mem : List Host.Cell
  /-- Pages whose IRQ event hold-off runs (R511). -/
  irqHold : List (Nat × IrqHold)
  /-- Producers' records not yet written into Hod (R361). -/
  outbox : List OutPkt
  /-- Everything the block has sent on its ports, oldest first. -/
  tx : List Tx
  ptp : Ptp
  /-- Slices by number. -/
  slices : List (Nat × Slice)
  timing : Timing
  /-- Capture lines released and not yet applied in Float, oldest first. -/
  capLines : List CapLine
  /-- Segments whose SEG_EN waits for its turn, ascending (R549). -/
  staggerQ : List Nat
  /-- Domains switched on that have not reached power-good; domains whose fault holds until the next switch-on (R535, R536). -/
  domWait : List Nat
  domFailed : List Nat
  /-- Start-up has switched on the domains of R534 that stay on. -/
  domStart : Bool
  /-- Slices in a Primer run, and whether the run is a COLOUR run (R534). -/
  runSlices : List Nat
  runColour : Bool
  flt : Float
  scrim : Scrim
  plumb : Plumb
  trk : Trk
  ins : Ins
  rol : Roller
  cap : Cap
  /-- A PAGE boundary falls at the next OLINE boundary (R38). -/
  pageDue : Bool
  mc : Mc
  /-- Tables read in place, in force or staged (R32). -/
  inPlace : List InPlace
  hod : Hod
  /-- DMA channels by number (R340). -/
  dma : List (Nat × DmaCh)
  /-- Destination bytes written by every channel, towards DMA_BYTES_MB (R356). -/
  dmaBytes : Nat
  tyrex : Tyrex
  eth : Eth
  poe : Poe
  pd : PdDie
  cal : Cal
  hk : Hk
  fil : Filler
  sec : Sec
  pwr : Power
  /-- Images staged and not yet in force, of the types copied at their boundary or read in place: type ↦ digest of the whole image,
  payload where it is copied (R487, R519). -/
  staged : List (Nat × (List (BitVec 8) × List (BitVec 8)))
  modePend : Option ModePend
  /-- PASS boundaries since the IDLE-to-job transition or the last PAGE boundary (R38). -/
  secPasses : Nat
deriving DecidableEq, Repr

/-- The state during a full reset, before start-up has run (R582, R543, R547). -/
def State.reset : State where
  pending := []
  variant := .sq7260
  now := 0
  draws := 0
  regs := []
  shadow := []
  held := []
  snaps := []
  latches := []
  mem := []
  irqHold := []
  outbox := []
  tx := []
  ptp := { offset := 0, err := 0, locked := false, lost := false, rx := none, ms := none, t3 := none, path := 0, frac := 0, drift := 0 }
  slices := []
  timing := { pbHeld := [], pbOld := [], mark := none, trk := none, lineLatch := [], segLate := 0, shdLate := 0, restarted := false, content := none, contentWas := none }
  capLines := []
  staggerQ := []
  domWait := []
  domFailed := []
  domStart := false
  runSlices := []
  runColour := false
  flt := { rows := [], started := false, hdrs := [], held := [], overrun := [], scrimNext := 0, rungAvg := none }
  scrim := { model := [], target := [], placed := [], dirty := false, corrLines := 0, corr := [], coefs := none, seams := none, clip := [],
             stamps := [] }
  plumb := { sheet := none, colPrev := [], edges := [], wLines := 0, wNL := 0, wNR := 0, wBoth := 0, wLeft := 0, wRight := 0, wRef := none,
             dfRaw := false, dfQual := false, lastP := 0, halt := false, ended := none }
  trk := { segs := [], p := 0, theta := 0, lat := 0, y := [], fallback := false, reacq := 0, aPos := 0, aTheta := 0, aLat := 0, aCnt := none,
           cFirst := none, hist := [], stretch := none, episode := none, spOk := true, chain := none, lastSrc := none, lastRun := none,
           pass := TrkPass.init 1, alone := false, bars := false }
  ins := Ins.init
  rol := Roller.init
  cap := Cap.init
  pageDue := false
  mc := { left := [(0, 2), (1, 4), (2, 32), (3, 64), (4, 128), (5, 64), (6, 160), (7, 32), (8, 40), (9, 40), (10, 32), (11, 32), (12, 32)]
          window := 0, grant := none, dmaServed := 15, postponed := 0, dbgUsed := false, dieT := [], trainT := [], lastRetrain := none,
          driftSent := false, migration := none, locked := none, remap := [], passStart := none, poison := [], marks := [], needCap := 0, needRing := 0, busErrors := 0,
          telemetry := [], telNext := 0, telLost := 0, dbg := none }
  inPlace := []
  hod := { classes := [], opens := [], gaps := [], fillBank := 0, bankUsed := [], retraining := false, spillReset := false, configured := false,
           counts := [], line := none }
  dma := []
  dmaBytes := 0
  tyrex := { host := 0, port := 0, sent := 0, held := [], done := [], resps := [], prevEpoch := none, load := none, image := none, quote := none }
  eth := { fails := [], removed := 0, downAt := none, lease := false }
  poe := { wait := false, waiting := [], reqDue := false, reqAt := none }
  pd := { events := 0, grant := 0, acload := false, input := false, limit := false, state := 6, fault := 0, faults := 0, auxPresent := false, auxActive := false, prio := true }
  cal := Cal.init
  hk := Hk.init
  fil := Filler.init
  sec := Sec.init
  pwr := { boot := .held, rstL := false, aonLost := true, trip := none, cooling := false, pixBad := 0, domResets := [], xings := [], xingAt := none,
           rails := 0, xtal := false, cpu0 := none }
  staged := []
  modePend := none
  secPasses := 0

end Sys2Proof.Machine
end

