-- ==== Sys2Proof/Machine/RegTable.lean ====
section
/-! DEFINITION. Every register field of the field tables of spec/ (R6, R34, R81, R110, R138, R173, R174, R175, R205, R237, R281, R282,
R312, R337, R338, R356, R357, R378, R416 to R419, R441, R467 to R469, R494, R502, R512, R517, R522, R523, R551 to R554, R571), one
`Row` each, and the lists of rows by page.  Columns of a row: first page, pages, offset, stride, count, low bit, width, access,
reset value, boundary, least and greatest value a write may store, low bits that are not stored (R583), kept through a reset,
reset step per index; kind and list of reset values that differ by element, page or variant. -/

namespace Sys2Proof.R
open Sys2Proof


/-! R6, 00_scope.md -/
def SYS_VARIANT_PART : Row := ⟨0x000, 1, 0x040, 0, 1, 16, 16, .ro, 29280, .commit, 0, 65535, 0, false, 0, 3, [29280, 29252, 29202]⟩
def SYS_VARIANT_SLICES : Row := ⟨0x000, 1, 0x040, 0, 1, 11, 5, .ro, 24, .commit, 0, 31, 0, false, 0, 3, [24, 16, 8]⟩
def SYS_VARIANT_CLUSTERS : Row := ⟨0x000, 1, 0x040, 0, 1, 8, 3, .ro, 6, .commit, 0, 7, 0, false, 0, 3, [6, 4, 2]⟩
def SYS_VARIANT_AXES : Row := ⟨0x000, 1, 0x040, 0, 1, 5, 3, .ro, 4, .commit, 0, 7, 0, false, 0, 3, [4, 4, 2]⟩
def SYS_VARIANT_SPARE_GEN : Row := ⟨0x000, 1, 0x040, 0, 1, 3, 2, .ro, 2, .commit, 0, 3, 0, false, 0, 3, [2, 2, 1]⟩
def SYS_VARIANT_TRK : Row := ⟨0x000, 1, 0x040, 0, 1, 2, 1, .ro, 1, .commit, 0, 1, 0, false, 0, 3, [1, 1, 0]⟩
def SYS_VARIANT_INS : Row := ⟨0x000, 1, 0x040, 0, 1, 1, 1, .ro, 1, .commit, 0, 1, 0, false, 0, 3, [1, 0, 0]⟩
def SYS_VARIANT_LINK10G : Row := ⟨0x000, 1, 0x040, 0, 1, 0, 1, .ro, 1, .commit, 0, 1, 0, false, 0, 3, [1, 1, 0]⟩

/-! R34, 01_architecture.md -/
def SYS_MODE_FEED_OWNER : Row := ⟨0x000, 1, 0x044, 0, 1, 3, 1, .rw, 0, .commit, 0, 1, 0, false, 0, 0, []⟩
def SYS_MODE_REQ : Row := ⟨0x000, 1, 0x044, 0, 1, 0, 3, .rw, 0, .commit, 0, 7, 0, false, 0, 0, []⟩
def SYS_MODE_ABORTED : Row := ⟨0x000, 1, 0x048, 0, 1, 5, 1, .w1c, 0, .commit, 0, 1, 0, false, 0, 0, []⟩
def SYS_MODE_PENDING : Row := ⟨0x000, 1, 0x048, 0, 1, 4, 1, .ro, 0, .commit, 0, 1, 0, false, 0, 0, []⟩
def SYS_MODE_CUR_FO : Row := ⟨0x000, 1, 0x048, 0, 1, 3, 1, .ro, 0, .commit, 0, 1, 0, false, 0, 0, []⟩
def SYS_MODE_CUR : Row := ⟨0x000, 1, 0x048, 0, 1, 0, 3, .ro, 0, .commit, 0, 7, 0, false, 0, 0, []⟩

/-! R81, 02_segments_line_timing.md -/
def TIMING_PCLK_KHZ : Row := ⟨0x040, 1, 0x040, 0, 1, 0, 15, .rws, 25000, .idle, 1000, 25000, 0, false, 0, 0, []⟩
def TIMING_PB_COMMIT : Row := ⟨0x040, 1, 0x044, 0, 1, 0, 1, .wo, 0, .line, 0, 1, 0, false, 0, 0, []⟩
def TIMING_PB_LIVE_EDIT : Row := ⟨0x040, 1, 0x044, 0, 1, 1, 1, .rw, 0, .commit, 0, 1, 0, false, 0, 0, []⟩
def TIMING_PB_STAT_ACTIVE : Row := ⟨0x040, 1, 0x048, 0, 1, 0, 1, .ro, 0, .commit, 0, 1, 0, false, 0, 0, []⟩
def TIMING_PB_STAT_PENDING : Row := ⟨0x040, 1, 0x048, 0, 1, 1, 1, .ro, 0, .commit, 0, 1, 0, false, 0, 0, []⟩
def TIMING_PB_STAT_DIRTY : Row := ⟨0x040, 1, 0x048, 0, 1, 2, 1, .ro, 0, .commit, 0, 1, 0, false, 0, 0, []⟩
def TIMING_PB_REFUSED : Row := ⟨0x040, 1, 0x048, 0, 1, 3, 1, .w1c, 0, .commit, 0, 1, 0, false, 0, 0, []⟩
def TIMING_PB_STAT_WRITE_LOST : Row := ⟨0x040, 1, 0x048, 0, 1, 4, 1, .w1c, 0, .commit, 0, 1, 0, false, 0, 0, []⟩
def TIMING_LINE_CNT : Row := ⟨0x040, 1, 0x04C, 0, 1, 0, 32, .ro, 0, .commit, 0, 4294967295, 0, false, 0, 0, []⟩
def TIMING_LINE_PERIOD : Row := ⟨0x040, 1, 0x050, 0, 1, 0, 17, .ro, 65536, .commit, 0, 131071, 0, false, 0, 0, []⟩
def TIMING_SEG_BASE_LO : Row := ⟨0x040, 1, 0x054, 0, 1, 0, 32, .rws, 0, .idle, 0, 4294967295, 8, false, 0, 0, []⟩
def TIMING_SEG_BASE_HI : Row := ⟨0x040, 1, 0x058, 0, 1, 0, 32, .rws, 0, .idle, 0, 4294967295, 0, false, 0, 0, []⟩
def TIMING_SEG_SYNC : Row := ⟨0x040, 1, 0x05C, 0, 1, 0, 24, .w1s, 0, .page, 0, 16777215, 0, false, 0, 0, []⟩
def TIMING_SYNC_FAIL : Row := ⟨0x040, 1, 0x060, 0, 1, 0, 1, .w1c, 0, .commit, 0, 1, 0, false, 0, 0, []⟩
def TIMING_PB_BANK0 : Row := ⟨0x040, 1, 0x400, 4, 128, 0, 32, .rw, 0, .commit, 0, 4294967295, 0, false, 0, 0, []⟩
def TIMING_PB_BANK1 : Row := ⟨0x040, 1, 0x600, 4, 128, 0, 32, .rw, 0, .commit, 0, 4294967295, 0, false, 0, 0, []⟩
def SLC_SEG_STAT_VALID : Row := ⟨0x120, 24, 0x040, 0, 1, 0, 1, .ro, 0, .commit, 0, 1, 0, false, 0, 0, []⟩
def SLC_SEG_STAT_POWERED : Row := ⟨0x120, 24, 0x040, 0, 1, 1, 1, .ro, 0, .commit, 0, 1, 0, false, 0, 0, []⟩
def SLC_SEG_STAT_LINK_UP : Row := ⟨0x120, 24, 0x040, 0, 1, 2, 1, .ro, 0, .commit, 0, 1, 0, false, 0, 0, []⟩
def SLC_SEG_STAT_READY : Row := ⟨0x120, 24, 0x040, 0, 1, 3, 1, .ro, 0, .commit, 0, 1, 0, false, 0, 0, []⟩
def SLC_SEG_STAT_BUDGET_DENIED : Row := ⟨0x120, 24, 0x040, 0, 1, 4, 1, .ro, 0, .commit, 0, 1, 0, false, 0, 0, []⟩
def SLC_SEG_STAT_ID_MISMATCH : Row := ⟨0x120, 24, 0x040, 0, 1, 5, 1, .ro, 0, .commit, 0, 1, 0, false, 0, 0, []⟩
def SLC_SEG_STAT_LINK_FAILED : Row := ⟨0x120, 24, 0x040, 0, 1, 6, 1, .ro, 0, .commit, 0, 1, 0, false, 0, 0, []⟩
def SLC_SEG_STAT_REJECTED : Row := ⟨0x120, 24, 0x040, 0, 1, 7, 1, .ro, 0, .commit, 0, 1, 0, false, 0, 0, []⟩
def SLC_LINK_RERUN : Row := ⟨0x120, 24, 0x044, 0, 1, 0, 1, .wo, 0, .commit, 0, 1, 0, false, 0, 0, []⟩
def SLC_LINK_TEMP_POLL : Row := ⟨0x120, 24, 0x044, 0, 1, 8, 8, .rw, 10, .commit, 0, 255, 0, false, 0, 0, []⟩
def SLC_LINK_RETRIES : Row := ⟨0x120, 24, 0x048, 0, 1, 0, 16, .ro, 0, .commit, 0, 65535, 0, false, 0, 0, []⟩
def SLC_LINK_FAILS : Row := ⟨0x120, 24, 0x048, 0, 1, 16, 16, .ro, 0, .commit, 0, 65535, 0, false, 0, 0, []⟩
def SLC_LED_TEMP : Row := ⟨0x120, 24, 0x04C, 0, 1, 0, 16, .ro, 0, .commit, 0, 65535, 0, false, 0, 0, []⟩
def SLC_LED_TEMP_VALID : Row := ⟨0x120, 24, 0x04C, 0, 1, 31, 1, .ro, 0, .commit, 0, 1, 0, false, 0, 0, []⟩
def SLC_SEG_MODEL : Row := ⟨0x120, 24, 0x050, 0, 1, 0, 32, .ro, 0, .commit, 0, 4294967295, 0, false, 0, 0, []⟩
def SLC_SEG_SERIAL : Row := ⟨0x120, 24, 0x054, 0, 1, 0, 32, .ro, 0, .commit, 0, 4294967295, 0, false, 0, 0, []⟩
def SLC_ILLUM_LINE : Row := ⟨0x120, 24, 0x058, 0, 1, 0, 32, .ro, 0, .commit, 0, 4294967295, 0, false, 0, 0, []⟩
def SLC_LINK_REJECT_STATUS : Row := ⟨0x120, 24, 0x05C, 0, 1, 0, 4, .ro, 0, .commit, 0, 15, 0, false, 0, 0, []⟩
def SLC_LINK_REJECT_OP : Row := ⟨0x120, 24, 0x05C, 0, 1, 4, 4, .ro, 0, .commit, 0, 15, 0, false, 0, 0, []⟩
def SLC_LINK_REJECT_CNT : Row := ⟨0x120, 24, 0x05C, 0, 1, 8, 8, .ro, 0, .commit, 0, 255, 0, false, 0, 0, []⟩
def SLC_LINK_REJECT_ADDR : Row := ⟨0x120, 24, 0x05C, 0, 1, 16, 16, .ro, 0, .commit, 0, 65535, 0, false, 0, 0, []⟩

/-! R110, 03_video_front_end.md -/
def AFE_CLAMP_MODE : Row := ⟨0x100, 24, 0x040, 0, 1, 0, 1, .rws, 0, .page, 0, 1, 0, false, 0, 0, []⟩
def AFE_SPARE_EN : Row := ⟨0x100, 24, 0x040, 0, 1, 1, 1, .rws, 1, .idle, 0, 1, 0, false, 0, 0, []⟩
def AFE_Z_OPEN_THR : Row := ⟨0x100, 24, 0x044, 0, 1, 0, 12, .rw, 400, .commit, 50, 4095, 0, false, 0, 0, []⟩
def AFE_Z_SHORT_THR : Row := ⟨0x100, 24, 0x044, 0, 1, 16, 12, .rw, 25, .commit, 1, 49, 0, false, 0, 0, []⟩
def AFE_CLAMP_WIN : Row := ⟨0x100, 24, 0x048, 0, 1, 0, 14, .rw, 1024, .commit, 16, 16383, 0, false, 0, 0, []⟩
def AFE_SUSPECT_CLEAR : Row := ⟨0x100, 24, 0x048, 0, 1, 16, 8, .rw, 4, .commit, 1, 64, 0, false, 0, 0, []⟩
def AFE_SNS_RATIO : Row := ⟨0x100, 24, 0x04C, 0, 1, 0, 16, .rws, 16384, .idle, 4096, 65535, 0, false, 0, 0, []⟩
def AFE_SUP_LO_HOLD : Row := ⟨0x100, 24, 0x04C, 0, 1, 16, 16, .rw, 1000, .commit, 0, 65535, 0, false, 0, 0, []⟩
def AFE_SUP_MV : Row := ⟨0x100, 24, 0x050, 0, 1, 0, 16, .ro, 0, .commit, 0, 65535, 0, false, 0, 0, []⟩
def AFE_SUP_OK : Row := ⟨0x100, 24, 0x050, 0, 1, 16, 1, .ro, 0, .commit, 0, 1, 0, false, 0, 0, []⟩
def AFE_SUP_FAULT_LO : Row := ⟨0x100, 24, 0x050, 0, 1, 17, 1, .w1c, 0, .commit, 0, 1, 0, false, 0, 0, []⟩
def AFE_SUP_FAULT_HI : Row := ⟨0x100, 24, 0x050, 0, 1, 18, 1, .w1c, 0, .commit, 0, 1, 0, false, 0, 0, []⟩
def AFE_SNS_OPEN : Row := ⟨0x100, 24, 0x050, 0, 1, 19, 1, .ro, 0, .commit, 0, 1, 0, false, 0, 0, []⟩
def AFE_SUP_SHUTDOWN : Row := ⟨0x100, 24, 0x050, 0, 1, 20, 1, .ro, 0, .commit, 0, 1, 0, false, 0, 0, []⟩
def AFE_SUP_DEV : Row := ⟨0x100, 24, 0x054, 0, 1, 0, 16, .ro, 0, .commit, 0, 65535, 0, false, 0, 0, []⟩
def AFE_SHADOW_LINES : Row := ⟨0x100, 24, 0x058, 0, 1, 0, 12, .rw, 256, .commit, 64, 4095, 0, false, 0, 0, []⟩
def AFE_DRIFT_OFS_TOL : Row := ⟨0x100, 24, 0x058, 0, 1, 16, 8, .rw, 8, .commit, 1, 255, 0, false, 0, 0, []⟩
def AFE_DRIFT_GAIN_TOL : Row := ⟨0x100, 24, 0x058, 0, 1, 24, 8, .rw, 20, .commit, 1, 255, 0, false, 0, 0, []⟩
def AFE_SPARE0_FOR : Row := ⟨0x100, 24, 0x05C, 0, 1, 0, 4, .ro, 15, .commit, 0, 15, 0, false, 0, 0, []⟩
def AFE_SPARE1_FOR : Row := ⟨0x100, 24, 0x05C, 0, 1, 4, 4, .ro, 15, .commit, 0, 15, 0, false, 0, 0, []⟩
def AFE_SPARE0_FAILED : Row := ⟨0x100, 24, 0x05C, 0, 1, 8, 1, .ro, 0, .commit, 0, 1, 0, false, 0, 0, []⟩
def AFE_SPARE1_FAILED : Row := ⟨0x100, 24, 0x05C, 0, 1, 9, 1, .ro, 0, .commit, 0, 1, 0, false, 0, 0, []⟩
def AFE_SPARE_STALE : Row := ⟨0x100, 24, 0x05C, 0, 1, 10, 1, .w1c, 0, .commit, 0, 1, 0, false, 0, 0, []⟩
def AFE_SPARE_EXHAUSTED : Row := ⟨0x100, 24, 0x05C, 0, 1, 11, 1, .ro, 0, .commit, 0, 1, 0, false, 0, 0, []⟩
def AFE_SHADOW_CH0 : Row := ⟨0x100, 24, 0x05C, 0, 1, 16, 4, .ro, 0, .commit, 0, 15, 0, false, 0, 0, []⟩
def AFE_SHADOW_CH1 : Row := ⟨0x100, 24, 0x05C, 0, 1, 20, 4, .ro, 0, .commit, 0, 15, 0, false, 0, 0, []⟩
def AFE_SUSPECT_CNT : Row := ⟨0x100, 24, 0x060, 0, 1, 0, 16, .ro, 0, .commit, 0, 65535, 0, false, 0, 0, []⟩
def AFE_SWAP_CNT : Row := ⟨0x100, 24, 0x060, 0, 1, 16, 16, .ro, 0, .commit, 0, 65535, 0, false, 0, 0, []⟩
def AFE_CHc_PGA : Row := ⟨0x100, 24, 0x080, 4, 10, 0, 2, .ro, 0, .commit, 0, 3, 0, false, 0, 0, []⟩
def AFE_CHc_EQ : Row := ⟨0x100, 24, 0x080, 4, 10, 2, 3, .ro, 0, .commit, 0, 7, 0, false, 0, 0, []⟩
def AFE_CHc_OFS : Row := ⟨0x100, 24, 0x080, 4, 10, 16, 9, .ro, 0, .commit, 0, 511, 0, false, 0, 0, []⟩
def AFE_CHc_ASSIGNED : Row := ⟨0x100, 24, 0x080, 4, 10, 31, 1, .ro, 0, .commit, 0, 1, 0, false, 0, 0, []⟩
def AFE_CHc_TRIM : Row := ⟨0x100, 24, 0x0C0, 4, 10, 0, 9, .rws, 0, .page, 0, 511, 0, false, 0, 0, []⟩
def AFE_CHc_ZEST : Row := ⟨0x100, 24, 0x100, 4, 10, 0, 12, .ro, 0, .commit, 0, 4095, 0, false, 0, 0, []⟩
def AFE_CHc_STATE : Row := ⟨0x100, 24, 0x100, 4, 10, 12, 3, .ro, 7, .commit, 0, 7, 0, false, 0, 0, []⟩
def AFE_CHc_ADC : Row := ⟨0x100, 24, 0x100, 4, 10, 16, 4, .ro, 0, .commit, 0, 15, 0, false, 1, 0, []⟩
def AFE_CHc_ZEST_VALID : Row := ⟨0x100, 24, 0x100, 4, 10, 20, 1, .ro, 0, .commit, 0, 1, 0, false, 0, 0, []⟩

/-! R138, 04_correction_float.md -/
def TIMING_FLOAT_PITCH : Row := ⟨0x040, 1, 0x080, 0, 1, 0, 5, .rws, 1, .idle, 1, 16, 0, false, 0, 0, []⟩
def TIMING_FLOAT_AVG : Row := ⟨0x040, 1, 0x080, 0, 1, 8, 7, .rws, 1, .line, 1, 64, 0, false, 0, 0, []⟩
def TIMING_FLOAT_YAW : Row := ⟨0x040, 1, 0x080, 0, 1, 16, 1, .rws, 1, .idle, 0, 1, 0, false, 0, 0, []⟩
def TIMING_FLOAT_REV_TOL : Row := ⟨0x040, 1, 0x084, 0, 1, 0, 6, .rws, 0, .idle, 0, 32, 0, false, 0, 0, []⟩
def TIMING_FLOAT_STILL_CAP : Row := ⟨0x040, 1, 0x084, 0, 1, 16, 16, .rws, 16384, .idle, 0, 61439, 0, false, 0, 0, []⟩
def TIMING_SHD_BASE_LO : Row := ⟨0x040, 1, 0x088, 0, 1, 0, 32, .rws, 0, .idle, 0, 4294967295, 6, false, 0, 0, []⟩
def TIMING_SHD_BASE_HI : Row := ⟨0x040, 1, 0x08C, 0, 1, 0, 32, .rws, 0, .idle, 0, 4294967295, 0, false, 0, 0, []⟩
def TIMING_SHD_SYNC : Row := ⟨0x040, 1, 0x090, 0, 1, 0, 24, .w1s, 0, .page, 0, 16777215, 0, false, 0, 0, []⟩
def TIMING_SHD_SYNC_FAIL : Row := ⟨0x040, 1, 0x094, 0, 1, 0, 1, .w1c, 0, .commit, 0, 1, 0, false, 0, 0, []⟩
def SLC_SKIM_BYPASS : Row := ⟨0x120, 24, 0x060, 0, 1, 0, 1, .rws, 0, .line, 0, 1, 0, false, 0, 0, []⟩
def SLC_DEAD_LOADED : Row := ⟨0x120, 24, 0x064, 0, 1, 0, 13, .ro, 0, .commit, 0, 8191, 0, false, 0, 0, []⟩
def SLC_SAT_LINES : Row := ⟨0x120, 24, 0x068, 0, 1, 0, 32, .ro, 0, .commit, 0, 4294967295, 0, false, 0, 0, []⟩
def SLC_FLOAT_REV_LINES : Row := ⟨0x120, 24, 0x06C, 0, 1, 0, 32, .ro, 0, .commit, 0, 4294967295, 0, false, 0, 0, []⟩
def SLC_FLOAT_OVERSPEED : Row := ⟨0x120, 24, 0x070, 0, 1, 0, 32, .ro, 0, .commit, 0, 4294967295, 0, false, 0, 0, []⟩
def SLC_FLOAT_STILL_CAPPED : Row := ⟨0x120, 24, 0x074, 0, 1, 0, 32, .ro, 0, .commit, 0, 4294967295, 0, false, 0, 0, []⟩
def SLC_FLOAT_RENORM_BLK : Row := ⟨0x120, 24, 0x078, 0, 1, 0, 32, .ro, 0, .commit, 0, 4294967295, 0, false, 0, 0, []⟩
def SLC_FLOAT_REPAIRED_BLK : Row := ⟨0x120, 24, 0x07C, 0, 1, 0, 32, .ro, 0, .commit, 0, 4294967295, 0, false, 0, 0, []⟩
def SLC_FLOAT_INVALID_BLK : Row := ⟨0x120, 24, 0x080, 0, 1, 0, 32, .ro, 0, .commit, 0, 4294967295, 0, false, 0, 0, []⟩
def SLC_FLOAT_OLINE : Row := ⟨0x120, 24, 0x084, 0, 1, 0, 32, .ro, 0, .commit, 0, 4294967295, 0, false, 0, 0, []⟩
def SLC_CHc_TAPM_OFS : Row := ⟨0x120, 24, 0x0C0, 4, 10, 0, 16, .rws, 2048, .page, 0, 65535, 0, false, 0, 0, []⟩
def SLC_CHc_TAPM_GAIN : Row := ⟨0x120, 24, 0x0C0, 4, 10, 16, 16, .rws, 16384, .page, 0, 65535, 0, false, 0, 0, []⟩
def MC_RING_BASE_LO : Row := ⟨0x078, 1, 0x200, 0, 1, 0, 32, .rws, 0, .idle, 0, 4294967295, 12, false, 0, 0, []⟩
def MC_RING_BASE_HI : Row := ⟨0x078, 1, 0x204, 0, 1, 0, 32, .rws, 0, .idle, 0, 4294967295, 0, false, 0, 0, []⟩
def MC_RING_LINES : Row := ⟨0x078, 1, 0x208, 0, 1, 0, 11, .rws, 1024, .idle, 64, 1024, 0, false, 0, 0, []⟩
def MC_RING_SLOT_BYTES : Row := ⟨0x078, 1, 0x20C, 0, 1, 0, 32, .ro, 0, .commit, 0, 4294967295, 0, false, 0, 3, [2957312, 1974272, 991232]⟩
def MC_RING_NEED : Row := ⟨0x078, 1, 0x210, 0, 1, 0, 11, .ro, 0, .commit, 0, 2047, 0, false, 0, 0, []⟩
def MC_RING_WAIT_CNT : Row := ⟨0x078, 1, 0x214, 0, 1, 0, 32, .ro, 0, .commit, 0, 4294967295, 0, false, 0, 0, []⟩
def MC_RING_OVERRUN : Row := ⟨0x078, 1, 0x218, 0, 1, 0, 1, .w1c, 0, .commit, 0, 1, 0, false, 0, 0, []⟩
def MC_RING_OVERRUN_CNT : Row := ⟨0x078, 1, 0x218, 0, 1, 16, 16, .ro, 0, .commit, 0, 65535, 0, false, 0, 0, []⟩

/-! R173, 05_scrim_plumb_lap.md -/
def SCRIM_CTRL_CORR_EN : Row := ⟨0x048, 1, 0x040, 0, 1, 0, 1, .rws, 1, .idle, 0, 1, 0, false, 0, 0, []⟩
def SCRIM_CTRL_THERM_EN : Row := ⟨0x048, 1, 0x040, 0, 1, 1, 1, .rws, 1, .idle, 0, 1, 0, false, 0, 0, []⟩
def SCRIM_CTRL_CORR_ROW : Row := ⟨0x048, 1, 0x040, 0, 1, 2, 3, .rws, 1, .idle, 0, 4, 0, false, 0, 0, []⟩
def SCRIM_CTRL_CORR_CLEAR : Row := ⟨0x048, 1, 0x040, 0, 1, 8, 1, .wo, 0, .idle, 0, 1, 0, false, 0, 0, []⟩
def SCRIM_CORR_LINES : Row := ⟨0x048, 1, 0x044, 0, 1, 0, 13, .rws, 256, .idle, 16, 4096, 0, false, 0, 0, []⟩
def SCRIM_CORR_MIN : Row := ⟨0x048, 1, 0x048, 0, 1, 0, 8, .rw, 128, .commit, 0, 255, 0, false, 0, 0, []⟩
def SCRIM_CORR_GAIN : Row := ⟨0x048, 1, 0x048, 0, 1, 8, 3, .rw, 1, .commit, 0, 4, 0, false, 0, 0, []⟩
def SCRIM_BAR_ALPHA : Row := ⟨0x048, 1, 0x04C, 0, 1, 0, 16, .rws, 6144, .idle, 0, 65535, 0, false, 0, 0, []⟩
def SCRIM_ANCHOR_NM_LO : Row := ⟨0x048, 1, 0x050, 0, 1, 0, 32, .rws, 0, .idle, 0, 4294967295, 0, false, 0, 0, []⟩
def SCRIM_ANCHOR_NM_HI : Row := ⟨0x048, 1, 0x054, 0, 1, 0, 32, .rws, 0, .idle, 0, 4294967295, 0, false, 0, 0, []⟩
def SCRIM_THERMi_SEL : Row := ⟨0x048, 1, 0x060, 8, 8, 0, 4, .rws, 0, .idle, 0, 15, 0, false, 0, 0, []⟩
def SCRIM_THERMi_EN : Row := ⟨0x048, 1, 0x060, 8, 8, 7, 1, .rws, 0, .idle, 0, 1, 0, false, 0, 0, []⟩
def SCRIM_THERMi_X : Row := ⟨0x048, 1, 0x064, 8, 8, 0, 23, .rws, 0, .idle, 0, 6068747, 0, false, 0, 0, []⟩
def SCRIM_STAT_LAG : Row := ⟨0x048, 1, 0x0A0, 0, 1, 0, 1, .ro, 0, .commit, 0, 1, 0, false, 0, 0, []⟩
def SCRIM_STAT_THERM_STALE : Row := ⟨0x048, 1, 0x0A0, 0, 1, 1, 1, .ro, 0, .commit, 0, 1, 0, false, 0, 0, []⟩
def SCRIM_STAT_SEAM_CLIPPED : Row := ⟨0x048, 1, 0x0A0, 0, 1, 2, 1, .w1c, 0, .commit, 0, 1, 0, false, 0, 0, []⟩
def SCRIM_STAT_SW_DEFAULT : Row := ⟨0x048, 1, 0x0A0, 0, 1, 3, 1, .ro, 1, .commit, 0, 1, 0, false, 0, 0, []⟩
def SCRIM_GEN : Row := ⟨0x048, 1, 0x0A4, 0, 1, 0, 32, .ro, 0, .commit, 0, 4294967295, 0, false, 0, 0, []⟩
def SCRIM_OUT_PIXELS : Row := ⟨0x048, 1, 0x0A8, 0, 1, 0, 19, .ro, 0, .commit, 0, 524287, 0, false, 0, 0, []⟩

/-! R174, 05_scrim_plumb_lap.md -/
def CLU_SEGj_ORIGIN_LO : Row := ⟨0x140, 6, 0x040, 16, 4, 0, 32, .ro, 0, .commit, 0, 4294967295, 0, false, 0, 0, []⟩
def CLU_SEGj_ORIGIN_HI : Row := ⟨0x140, 6, 0x044, 16, 4, 0, 32, .ro, 0, .commit, 0, 4294967295, 0, false, 0, 0, []⟩
def CLU_SEGj_SCALE : Row := ⟨0x140, 6, 0x048, 16, 4, 0, 32, .ro, 0, .commit, 0, 4294967295, 0, false, 0, 0, []⟩
def CLU_SEGj_TGT_DIST : Row := ⟨0x140, 6, 0x04C, 16, 4, 0, 16, .ro, 0, .commit, 0, 65535, 0, false, 0, 0, []⟩
def CLU_SEAMj_RESID : Row := ⟨0x140, 6, 0x080, 16, 4, 0, 32, .ro, 0, .commit, 0, 4294967295, 0, false, 0, 0, []⟩
def CLU_SEAMj_CONF : Row := ⟨0x140, 6, 0x084, 16, 4, 0, 8, .ro, 0, .commit, 0, 255, 0, false, 0, 0, []⟩
def CLU_SEAMj_AGE : Row := ⟨0x140, 6, 0x084, 16, 4, 16, 16, .ro, 0, .commit, 0, 65535, 0, false, 0, 0, []⟩
def CLU_SEAMj_CORR : Row := ⟨0x140, 6, 0x088, 16, 4, 0, 32, .rws, 0, .idle, 0, 4294967295, 0, false, 0, 0, []⟩

/-! R175, 05_scrim_plumb_lap.md -/
def PLUMB_CTRL_MODE : Row := ⟨0x049, 1, 0x040, 0, 1, 0, 2, .rws, 0, .idle, 0, 2, 0, false, 0, 0, []⟩
def PLUMB_CTRL_ROW : Row := ⟨0x049, 1, 0x040, 0, 1, 2, 3, .rws, 3, .idle, 0, 4, 0, false, 0, 0, []⟩
def PLUMB_CTRL_POLARITY : Row := ⟨0x049, 1, 0x040, 0, 1, 5, 1, .rws, 0, .idle, 0, 1, 0, false, 0, 0, []⟩
def PLUMB_CTRL_LINE_REPORT : Row := ⟨0x049, 1, 0x040, 0, 1, 6, 1, .rws, 0, .page, 0, 1, 0, false, 0, 0, []⟩
def PLUMB_THR_HI : Row := ⟨0x049, 1, 0x044, 0, 1, 0, 16, .rws, 20000, .page, 0, 65535, 0, false, 0, 0, []⟩
def PLUMB_THR_LO : Row := ⟨0x049, 1, 0x044, 0, 1, 16, 16, .rws, 12000, .page, 0, 65535, 0, false, 0, 0, []⟩
def PLUMB_MIN_RUN : Row := ⟨0x049, 1, 0x048, 0, 1, 0, 10, .rws, 16, .page, 1, 1023, 0, false, 0, 0, []⟩
def PLUMB_LINE_EVERY : Row := ⟨0x049, 1, 0x048, 0, 1, 16, 8, .rws, 1, .page, 1, 255, 0, false, 0, 0, []⟩
def PLUMB_GAP_MIN : Row := ⟨0x049, 1, 0x04C, 0, 1, 0, 16, .rws, 64, .page, 1, 65535, 0, false, 0, 0, []⟩
def PLUMB_WANDER_LINES : Row := ⟨0x049, 1, 0x050, 0, 1, 0, 16, .rws, 256, .page, 16, 65535, 0, false, 0, 0, []⟩
def PLUMB_WANDER_LIMIT : Row := ⟨0x049, 1, 0x054, 0, 1, 0, 16, .rw, 2000, .commit, 0, 65535, 0, false, 0, 0, []⟩
def PLUMB_SKEW_LIMIT : Row := ⟨0x049, 1, 0x054, 0, 1, 16, 16, .rw, 0, .commit, 0, 65535, 0, false, 0, 0, []⟩
def PLUMB_SHEET_CNT : Row := ⟨0x049, 1, 0x058, 0, 1, 0, 32, .ro, 0, .commit, 0, 4294967295, 0, false, 0, 0, []⟩
def PLUMB_LAST_SKEW : Row := ⟨0x049, 1, 0x05C, 0, 1, 0, 32, .ro, 0, .commit, 0, 4294967295, 0, false, 0, 0, []⟩
def PLUMB_STAT_SHEET_OPEN : Row := ⟨0x049, 1, 0x060, 0, 1, 0, 1, .ro, 0, .commit, 0, 1, 0, false, 0, 0, []⟩
def PLUMB_STAT_EDGE_OVF : Row := ⟨0x049, 1, 0x060, 0, 1, 1, 1, .w1c, 0, .commit, 0, 1, 0, false, 0, 0, []⟩
def PLUMB_STAT_SKEW_UNDER : Row := ⟨0x049, 1, 0x060, 0, 1, 2, 1, .w1c, 0, .commit, 0, 1, 0, false, 0, 0, []⟩
def LAP_CTRL_EN : Row := ⟨0x049, 1, 0x080, 0, 1, 0, 1, .rws, 0, .idle, 0, 1, 0, false, 0, 0, []⟩
def LAP_CTRL_STEP_EN : Row := ⟨0x049, 1, 0x080, 0, 1, 1, 1, .rws, 1, .idle, 0, 1, 0, false, 0, 0, []⟩
def LAP_CTRL_LEN_EN : Row := ⟨0x049, 1, 0x080, 0, 1, 2, 1, .rws, 1, .idle, 0, 1, 0, false, 0, 0, []⟩
def LAP_CTRL_DFIN_EN : Row := ⟨0x049, 1, 0x080, 0, 1, 3, 1, .rws, 0, .idle, 0, 1, 0, false, 0, 0, []⟩
def LAP_CTRL_DFIN_POL : Row := ⟨0x049, 1, 0x080, 0, 1, 4, 1, .rws, 0, .idle, 0, 1, 0, false, 0, 0, []⟩
def LAP_CTRL_HALT : Row := ⟨0x049, 1, 0x080, 0, 1, 5, 1, .rws, 0, .idle, 0, 1, 0, false, 0, 0, []⟩
def LAP_DIST : Row := ⟨0x049, 1, 0x084, 0, 1, 0, 16, .rws, 2400, .page, 1, 65535, 0, false, 0, 0, []⟩
def LAP_RUN : Row := ⟨0x049, 1, 0x084, 0, 1, 16, 16, .rws, 16, .page, 1, 4096, 0, false, 0, 0, []⟩
def LAP_STEP : Row := ⟨0x049, 1, 0x088, 0, 1, 0, 16, .rws, 2048, .page, 1, 65535, 0, false, 0, 0, []⟩
def LAP_CONF_THR : Row := ⟨0x049, 1, 0x088, 0, 1, 16, 8, .rw, 160, .commit, 1, 255, 0, false, 0, 0, []⟩
def LAP_SHEET_NM : Row := ⟨0x049, 1, 0x08C, 0, 1, 0, 32, .rws, 0, .page, 0, 4294967295, 0, false, 0, 0, []⟩
def LAP_LEN_TOL : Row := ⟨0x049, 1, 0x090, 0, 1, 0, 32, .rws, 2000000, .page, 1, 4294967295, 0, false, 0, 0, []⟩
def LAP_DFIN_DEB : Row := ⟨0x049, 1, 0x094, 0, 1, 0, 14, .rws, 100, .idle, 0, 16383, 0, false, 0, 0, []⟩
def LAP_STAT_DF : Row := ⟨0x049, 1, 0x098, 0, 1, 0, 1, .w1c, 0, .commit, 0, 1, 0, false, 0, 0, []⟩
def LAP_STAT_CUES : Row := ⟨0x049, 1, 0x098, 0, 1, 1, 4, .ro, 0, .commit, 0, 15, 0, false, 0, 0, []⟩
def LAP_STAT_CONF : Row := ⟨0x049, 1, 0x098, 0, 1, 8, 8, .ro, 0, .commit, 0, 255, 0, false, 0, 0, []⟩
def LAP_SLICE_MASK : Row := ⟨0x049, 1, 0x09C, 0, 1, 0, 24, .ro, 0, .commit, 0, 16777215, 0, false, 0, 0, []⟩
def LAP_DF_CNT : Row := ⟨0x049, 1, 0x0A0, 0, 1, 0, 32, .ro, 0, .commit, 0, 4294967295, 0, false, 0, 0, []⟩
def LAP_SLCk_CONF : Row := ⟨0x049, 1, 0x0C0, 4, 24, 0, 8, .ro, 0, .commit, 0, 255, 0, false, 0, 0, []⟩
def LAP_SLCk_CUES : Row := ⟨0x049, 1, 0x0C0, 4, 24, 8, 3, .ro, 0, .commit, 0, 7, 0, false, 0, 0, []⟩

/-! R205, 06_tracker.md -/
def TRK_CTRL_EN : Row := ⟨0x050, 1, 0x040, 0, 1, 0, 1, .rws, 1, .idle, 0, 1, 0, false, 0, 0, []⟩
def TRK_CTRL_FB_SRC : Row := ⟨0x050, 1, 0x040, 0, 1, 1, 2, .rws, 2, .idle, 0, 2, 0, false, 0, 0, []⟩
def TRK_CTRL_REPORT_EN : Row := ⟨0x050, 1, 0x040, 0, 1, 3, 1, .rws, 1, .page, 0, 1, 0, false, 0, 0, []⟩
def TRK_CTRL_PASS_REPORT : Row := ⟨0x050, 1, 0x040, 0, 1, 4, 1, .rws, 1, .page, 0, 1, 0, false, 0, 0, []⟩
def TRK_CTRL_FLUSH : Row := ⟨0x050, 1, 0x040, 0, 1, 8, 1, .wo, 0, .idle, 0, 1, 0, false, 0, 0, []⟩
def TRK_CTRL_SCALE_RESET : Row := ⟨0x050, 1, 0x040, 0, 1, 9, 1, .wo, 0, .idle, 0, 1, 0, false, 0, 0, []⟩
def TRK_WIN_MIN : Row := ⟨0x050, 1, 0x044, 0, 1, 0, 8, .rw, 96, .commit, 1, 255, 0, false, 0, 0, []⟩
def TRK_TEX_MIN : Row := ⟨0x050, 1, 0x044, 0, 1, 16, 16, .rw, 512, .commit, 1, 65535, 0, false, 0, 0, []⟩
def TRK_OUTLIER_NM : Row := ⟨0x050, 1, 0x048, 0, 1, 0, 16, .rw, 2000, .commit, 100, 65535, 0, false, 0, 0, []⟩
def TRK_REACQ_LINES : Row := ⟨0x050, 1, 0x048, 0, 1, 16, 8, .rw, 8, .commit, 1, 255, 0, false, 0, 0, []⟩
def TRK_VEL_LINES : Row := ⟨0x050, 1, 0x048, 0, 1, 24, 8, .rw, 16, .commit, 1, 255, 0, false, 0, 0, []⟩
def TRK_XREF_PX : Row := ⟨0x050, 1, 0x04C, 0, 1, 0, 19, .rws, 0, .idle, 0, 524287, 0, false, 0, 0, []⟩
def TRK_SCALE_LINES : Row := ⟨0x050, 1, 0x050, 0, 1, 0, 16, .rws, 1200, .idle, 120, 65535, 0, false, 0, 0, []⟩
def TRK_EVT_MIN_LINES : Row := ⟨0x050, 1, 0x050, 0, 1, 16, 16, .rw, 16, .commit, 1, 65535, 0, false, 0, 0, []⟩
def TRK_REPORT_EVERY : Row := ⟨0x050, 1, 0x054, 0, 1, 0, 16, .rws, 64, .page, 1, 65535, 0, false, 0, 0, []⟩
def TRK_CREEP_VMAX : Row := ⟨0x050, 1, 0x054, 0, 1, 16, 16, .rw, 2000, .commit, 0, 65535, 0, false, 0, 0, []⟩
def TRK_CAL_RUNS : Row := ⟨0x050, 1, 0x058, 0, 1, 0, 4, .rws, 4, .idle, 1, 15, 0, false, 0, 0, []⟩
def TRK_CAL_SPACING_NM : Row := ⟨0x050, 1, 0x05C, 0, 1, 0, 32, .rws, 0, .idle, 0, 4294967295, 0, false, 0, 0, []⟩
def TRK_CAL_BARS : Row := ⟨0x050, 1, 0x060, 0, 1, 0, 8, .rws, 0, .idle, 0, 255, 0, false, 0, 0, []⟩
def TRK_POS_LO : Row := ⟨0x050, 1, 0x080, 0, 1, 0, 32, .ro, 0, .commit, 0, 4294967295, 0, false, 0, 0, []⟩
def TRK_POS_HI : Row := ⟨0x050, 1, 0x084, 0, 1, 0, 32, .ro, 0, .commit, 0, 4294967295, 0, false, 0, 0, []⟩
def TRK_VEL : Row := ⟨0x050, 1, 0x088, 0, 1, 0, 32, .ro, 0, .commit, 0, 4294967295, 0, false, 0, 0, []⟩
def TRK_LAT : Row := ⟨0x050, 1, 0x08C, 0, 1, 0, 32, .ro, 0, .commit, 0, 4294967295, 0, false, 0, 0, []⟩
def TRK_YAW : Row := ⟨0x050, 1, 0x090, 0, 1, 0, 32, .ro, 0, .commit, 0, 4294967295, 0, false, 0, 0, []⟩
def TRK_CONF : Row := ⟨0x050, 1, 0x094, 0, 1, 0, 8, .ro, 0, .commit, 0, 255, 0, false, 0, 0, []⟩
def TRK_SRC : Row := ⟨0x050, 1, 0x094, 0, 1, 8, 2, .ro, 2, .commit, 0, 3, 0, false, 0, 0, []⟩
def TRK_STAT_PRIMED : Row := ⟨0x050, 1, 0x094, 0, 1, 10, 1, .ro, 0, .commit, 0, 1, 0, false, 0, 0, []⟩
def TRK_STAT_HELD : Row := ⟨0x050, 1, 0x094, 0, 1, 11, 1, .ro, 0, .commit, 0, 1, 0, false, 0, 0, []⟩
def TRK_STAT_YAW_HELD : Row := ⟨0x050, 1, 0x094, 0, 1, 12, 1, .ro, 0, .commit, 0, 1, 0, false, 0, 0, []⟩
def TRK_STAT_FALLBACK : Row := ⟨0x050, 1, 0x094, 0, 1, 13, 1, .ro, 0, .commit, 0, 1, 0, false, 0, 0, []⟩
def TRK_GOOD_WIN : Row := ⟨0x050, 1, 0x094, 0, 1, 16, 9, .ro, 0, .commit, 0, 511, 0, false, 0, 0, []⟩
def TRK_FB_LINES : Row := ⟨0x050, 1, 0x098, 0, 1, 0, 32, .ro, 0, .commit, 0, 4294967295, 0, false, 0, 0, []⟩
def TRK_FB_EPISODES : Row := ⟨0x050, 1, 0x09C, 0, 1, 0, 32, .ro, 0, .commit, 0, 4294967295, 0, false, 0, 0, []⟩
def TRK_FB_SCALE : Row := ⟨0x050, 1, 0x0A0, 0, 1, 0, 32, .ro, 0, .commit, 0, 4294967295, 0, false, 0, 0, []⟩
def TRK_REACQ_STEP : Row := ⟨0x050, 1, 0x0A4, 0, 1, 0, 32, .ro, 0, .commit, 0, 4294967295, 0, false, 0, 0, []⟩
def TRK_FIT_RMS : Row := ⟨0x050, 1, 0x0A8, 0, 1, 0, 16, .ro, 0, .commit, 0, 65535, 0, false, 0, 0, []⟩
def TRK_SCALE_REJ : Row := ⟨0x050, 1, 0x0A8, 0, 1, 16, 16, .ro, 0, .commit, 0, 65535, 0, false, 0, 0, []⟩
def TRK_REJ_FLAG : Row := ⟨0x050, 1, 0x0B0, 0, 1, 0, 32, .ro, 0, .commit, 0, 4294967295, 0, false, 0, 0, []⟩
def TRK_REJ_EDGE : Row := ⟨0x050, 1, 0x0B4, 0, 1, 0, 32, .ro, 0, .commit, 0, 4294967295, 0, false, 0, 0, []⟩
def TRK_REJ_AMBIG : Row := ⟨0x050, 1, 0x0B8, 0, 1, 0, 32, .ro, 0, .commit, 0, 4294967295, 0, false, 0, 0, []⟩
def TRK_REJ_LOWCONF : Row := ⟨0x050, 1, 0x0BC, 0, 1, 0, 32, .ro, 0, .commit, 0, 4294967295, 0, false, 0, 0, []⟩
def TRK_REJ_OUTLIER : Row := ⟨0x050, 1, 0x0C0, 0, 1, 0, 32, .ro, 0, .commit, 0, 4294967295, 0, false, 0, 0, []⟩
def TRK_BASE_k : Row := ⟨0x050, 1, 0x100, 4, 24, 0, 32, .rws, 0, .idle, 0, 4294967295, 0, false, 0, 0, []⟩
def TRK_SEGk_CONF : Row := ⟨0x050, 1, 0x180, 4, 24, 0, 8, .ro, 0, .commit, 0, 255, 0, false, 0, 0, []⟩
def TRK_SEGk_GOOD : Row := ⟨0x050, 1, 0x180, 4, 24, 8, 5, .ro, 0, .commit, 0, 31, 0, false, 0, 0, []⟩
def TRK_SEGk_STAT_HIST_VALID : Row := ⟨0x050, 1, 0x180, 4, 24, 16, 1, .ro, 0, .commit, 0, 1, 0, false, 0, 0, []⟩
def TRK_SEGk_STAT_BASE_RANGE : Row := ⟨0x050, 1, 0x180, 4, 24, 17, 1, .ro, 0, .commit, 0, 1, 0, false, 0, 0, []⟩
def TRK_SEGk_Y : Row := ⟨0x050, 1, 0x200, 4, 24, 0, 32, .ro, 0, .commit, 0, 4294967295, 0, false, 0, 0, []⟩
def TRK_SEGk_CAL : Row := ⟨0x050, 1, 0x280, 4, 24, 0, 16, .ro, 0, .commit, 0, 65535, 0, false, 0, 0, []⟩

/-! R237, 07_straightedge.md -/
def INS_CTRL_EN : Row := ⟨0x058, 1, 0x040, 0, 1, 0, 1, .rws, 1, .idle, 0, 1, 0, false, 0, 0, []⟩
def INS_CTRL_LAT_FOLLOW : Row := ⟨0x058, 1, 0x040, 0, 1, 1, 1, .rws, 1, .idle, 0, 1, 0, false, 0, 0, []⟩
def INS_CTRL_USE_REPAIRED : Row := ⟨0x058, 1, 0x040, 0, 1, 2, 1, .rws, 0, .page, 0, 1, 0, false, 0, 0, []⟩
def INS_CTRL_ATTRIB_EN : Row := ⟨0x058, 1, 0x040, 0, 1, 3, 1, .rws, 1, .page, 0, 1, 0, false, 0, 0, []⟩
def INS_CTRL_FOLD_EN : Row := ⟨0x058, 1, 0x040, 0, 1, 4, 1, .rws, 1, .idle, 0, 1, 0, false, 0, 0, []⟩
def INS_CTRL_TRIM_APPLY : Row := ⟨0x058, 1, 0x040, 0, 1, 5, 1, .rws, 0, .idle, 0, 1, 0, false, 0, 0, []⟩
def INS_CTRL_HEALTH_AT_PAGE : Row := ⟨0x058, 1, 0x040, 0, 1, 6, 1, .rws, 0, .page, 0, 1, 0, false, 0, 0, []⟩
def INS_CTRL_COLPROF : Row := ⟨0x058, 1, 0x040, 0, 1, 7, 1, .rws, 0, .page, 0, 1, 0, false, 0, 0, []⟩
def INS_CTRL_HEALTH_REQ : Row := ⟨0x058, 1, 0x040, 0, 1, 8, 1, .wo, 0, .commit, 0, 1, 0, false, 0, 0, []⟩
def INS_CTRL_NOZ_CLEAR : Row := ⟨0x058, 1, 0x040, 0, 1, 9, 1, .wo, 0, .page, 0, 1, 0, false, 0, 0, []⟩
def INS_CTRL_FOLD_CLEAR : Row := ⟨0x058, 1, 0x040, 0, 1, 10, 1, .wo, 0, .page, 0, 1, 0, false, 0, 0, []⟩
def INS_CTRL_TRIM_CLEAR : Row := ⟨0x058, 1, 0x040, 0, 1, 11, 1, .wo, 0, .idle, 0, 1, 0, false, 0, 0, []⟩
def INS_CTRL_EVT_EN : Row := ⟨0x058, 1, 0x040, 0, 1, 16, 5, .rw, 31, .commit, 0, 31, 0, false, 0, 0, []⟩
def INS_ROWPROF_EVERY : Row := ⟨0x058, 1, 0x044, 0, 1, 0, 16, .rws, 0, .page, 0, 65535, 0, false, 0, 0, []⟩
def INS_FB_WEIGHT : Row := ⟨0x058, 1, 0x044, 0, 1, 16, 8, .rw, 0, .commit, 0, 255, 0, false, 0, 0, []⟩
def INS_BAND_THR : Row := ⟨0x058, 1, 0x048, 0, 1, 0, 16, .rw, 64, .commit, 1, 65535, 0, false, 0, 0, []⟩
def INS_BAND_ZONES : Row := ⟨0x058, 1, 0x048, 0, 1, 16, 7, .rw, 16, .commit, 1, 64, 0, false, 0, 0, []⟩
def INS_BAND_HALF : Row := ⟨0x058, 1, 0x048, 0, 1, 24, 6, .rws, 16, .page, 4, 63, 0, false, 0, 0, []⟩
def INS_BAND_MAXLEN : Row := ⟨0x058, 1, 0x04C, 0, 1, 0, 16, .rws, 64, .page, 1, 65535, 0, false, 0, 0, []⟩
def INS_COL_PX : Row := ⟨0x058, 1, 0x04C, 0, 1, 16, 7, .rws, 16, .idle, 0, 127, 0, false, 0, 0, []⟩
def INS_COL_LINES : Row := ⟨0x058, 1, 0x050, 0, 1, 0, 16, .rws, 1024, .page, 16, 65535, 0, false, 0, 0, []⟩
def INS_STREAK_THR : Row := ⟨0x058, 1, 0x050, 0, 1, 16, 16, .rw, 128, .commit, 1, 65535, 0, false, 0, 0, []⟩
def INS_SPOT_THR : Row := ⟨0x058, 1, 0x054, 0, 1, 0, 16, .rw, 1536, .commit, 1, 65535, 0, false, 0, 0, []⟩
def INS_DRIFT_THR : Row := ⟨0x058, 1, 0x054, 0, 1, 16, 16, .rw, 512, .commit, 1, 65535, 0, false, 0, 0, []⟩
def INS_DRIFT_LINES : Row := ⟨0x058, 1, 0x058, 0, 1, 0, 16, .rws, 4096, .page, 256, 65535, 0, false, 0, 0, []⟩
def INS_EVT_RATE : Row := ⟨0x058, 1, 0x05C, 0, 1, 0, 8, .rw, 20, .commit, 0, 255, 0, false, 0, 0, []⟩
def INS_CROP_EN : Row := ⟨0x058, 1, 0x05C, 0, 1, 8, 5, .rws, 0, .page, 0, 31, 0, false, 0, 0, []⟩
def INS_CROP_SIZE : Row := ⟨0x058, 1, 0x05C, 0, 1, 16, 4, .rws, 8, .page, 1, 8, 0, false, 0, 0, []⟩
def INS_CROP_BASE_LO : Row := ⟨0x058, 1, 0x060, 0, 1, 0, 32, .rws, 0, .idle, 0, 4294967295, 12, false, 0, 0, []⟩
def INS_CROP_BASE_HI : Row := ⟨0x058, 1, 0x064, 0, 1, 0, 32, .rws, 0, .idle, 0, 4294967295, 0, false, 0, 0, []⟩
def INS_NOZ_BASE_LO : Row := ⟨0x058, 1, 0x068, 0, 1, 0, 32, .rws, 0, .idle, 0, 4294967295, 12, false, 0, 0, []⟩
def INS_NOZ_BASE_HI : Row := ⟨0x058, 1, 0x06C, 0, 1, 0, 32, .rws, 0, .idle, 0, 4294967295, 0, false, 0, 0, []⟩
def INS_NOZ_HEADS : Row := ⟨0x058, 1, 0x070, 0, 1, 0, 6, .rws, 32, .idle, 1, 32, 0, false, 0, 0, []⟩
def INS_NOZ_PLANES : Row := ⟨0x058, 1, 0x070, 0, 1, 8, 4, .rws, 8, .idle, 1, 8, 0, false, 0, 0, []⟩
def INS_NOZ_COUNT : Row := ⟨0x058, 1, 0x070, 0, 1, 16, 13, .rws, 4096, .idle, 1, 4096, 0, false, 0, 0, []⟩
def INS_NOZ_MIN_D : Row := ⟨0x058, 1, 0x074, 0, 1, 0, 32, .rw, 4194304, .commit, 0, 4294967295, 0, false, 0, 0, []⟩
def INS_NOZ_WIN_LOG2 : Row := ⟨0x058, 1, 0x078, 0, 1, 0, 6, .rws, 30, .page, 24, 56, 0, false, 0, 0, []⟩
def INS_NOZ_MISS_THR : Row := ⟨0x058, 1, 0x07C, 0, 1, 0, 16, .rw, 4096, .commit, 1, 65535, 0, false, 0, 0, []⟩
def INS_NOZ_WEAK_THR : Row := ⟨0x058, 1, 0x07C, 0, 1, 16, 16, .rw, 1024, .commit, 1, 65535, 0, false, 0, 0, []⟩
def INS_NOZ_DEFL_THR : Row := ⟨0x058, 1, 0x080, 0, 1, 0, 16, .rw, 2048, .commit, 1, 65535, 0, false, 0, 0, []⟩
def INS_NOZ_CONFIRM : Row := ⟨0x058, 1, 0x080, 0, 1, 16, 8, .rw, 8, .commit, 1, 15, 0, false, 0, 0, []⟩
def INS_FOLD_HEAD_NM : Row := ⟨0x058, 1, 0x084, 0, 1, 0, 32, .rws, 0, .idle, 0, 4294967295, 0, false, 0, 0, []⟩
def INS_FOLD_DECAY : Row := ⟨0x058, 1, 0x088, 0, 1, 0, 4, .rws, 3, .page, 1, 15, 0, false, 0, 0, []⟩
def INS_FOLD_JOIN_W : Row := ⟨0x058, 1, 0x088, 0, 1, 8, 4, .rws, 4, .page, 1, 15, 0, false, 0, 0, []⟩
def INS_TRIM_GAIN : Row := ⟨0x058, 1, 0x08C, 0, 1, 0, 16, .rw, 256, .commit, 0, 65535, 0, false, 0, 0, []⟩
def INS_TRIM_STEP_MAX : Row := ⟨0x058, 1, 0x08C, 0, 1, 16, 16, .rw, 500, .commit, 0, 65535, 0, false, 0, 0, []⟩
def INS_TRIM_MAX : Row := ⟨0x058, 1, 0x090, 0, 1, 0, 32, .rw, 20000, .commit, 0, 4294967295, 0, false, 0, 0, []⟩
def INS_TRIM_NM : Row := ⟨0x058, 1, 0x094, 0, 1, 0, 32, .ro, 0, .commit, 0, 4294967295, 0, false, 0, 0, []⟩
def INS_STAT_MAP_VALID : Row := ⟨0x058, 1, 0x0A0, 0, 1, 0, 1, .ro, 0, .commit, 0, 1, 0, false, 0, 0, []⟩
def INS_STAT_DROP_VALID : Row := ⟨0x058, 1, 0x0A0, 0, 1, 1, 1, .ro, 0, .commit, 0, 1, 0, false, 0, 0, []⟩
def INS_STAT_CC_DEFAULT : Row := ⟨0x058, 1, 0x0A0, 0, 1, 2, 1, .ro, 1, .commit, 0, 1, 0, false, 0, 0, []⟩
def INS_STAT_FOLD_ACTIVE : Row := ⟨0x058, 1, 0x0A0, 0, 1, 3, 1, .ro, 0, .commit, 0, 1, 0, false, 0, 0, []⟩
def INS_STAT_DROP_STALE : Row := ⟨0x058, 1, 0x0A0, 0, 1, 4, 1, .ro, 0, .commit, 0, 1, 0, false, 0, 0, []⟩
def INS_LINES_CHECKED : Row := ⟨0x058, 1, 0x0A4, 0, 1, 0, 32, .ro, 0, .commit, 0, 4294967295, 0, false, 0, 0, []⟩
def INS_LINES_NOREF : Row := ⟨0x058, 1, 0x0A8, 0, 1, 0, 32, .ro, 0, .commit, 0, 4294967295, 0, false, 0, 0, []⟩
def INS_EVT_SENT : Row := ⟨0x058, 1, 0x0AC, 0, 1, 0, 32, .ro, 0, .commit, 0, 4294967295, 0, false, 0, 0, []⟩
def INS_EVT_SUPPRESSED : Row := ⟨0x058, 1, 0x0B0, 0, 1, 0, 32, .ro, 0, .commit, 0, 4294967295, 0, false, 0, 0, []⟩
def INS_NOZ_MISSING : Row := ⟨0x058, 1, 0x0B4, 0, 1, 0, 21, .ro, 0, .commit, 0, 2097151, 0, false, 0, 0, []⟩
def INS_NOZ_WEAK : Row := ⟨0x058, 1, 0x0B8, 0, 1, 0, 21, .ro, 0, .commit, 0, 2097151, 0, false, 0, 0, []⟩
def INS_NOZ_DEFL : Row := ⟨0x058, 1, 0x0BC, 0, 1, 0, 21, .ro, 0, .commit, 0, 2097151, 0, false, 0, 0, []⟩
def INS_SPOT_OVF : Row := ⟨0x058, 1, 0x0C0, 0, 1, 0, 32, .ro, 0, .commit, 0, 4294967295, 0, false, 0, 0, []⟩
def INS_FOLD_ADV : Row := ⟨0x058, 1, 0x0C4, 0, 1, 0, 32, .ro, 0, .commit, 0, 4294967295, 0, false, 0, 0, []⟩

/-! R281, 08_roller.md -/
def MOT_CTRL_ADV_CHAIN : Row := ⟨0x060, 1, 0x040, 0, 1, 0, 1, .rws, 1, .idle, 0, 1, 0, false, 0, 0, []⟩
def MOT_CTRL_ADV_TRIG : Row := ⟨0x060, 1, 0x040, 0, 1, 1, 1, .rws, 1, .idle, 0, 1, 0, false, 0, 0, []⟩
def MOT_CTRL_ADV_EXIT : Row := ⟨0x060, 1, 0x040, 0, 1, 2, 1, .rws, 0, .idle, 0, 1, 0, false, 0, 0, []⟩
def MOT_CTRL_POS_SRC : Row := ⟨0x060, 1, 0x040, 0, 1, 4, 2, .rws, 2, .idle, 0, 2, 0, false, 0, 0, []⟩
def MOT_STAT_TBL_HELD : Row := ⟨0x060, 1, 0x040, 0, 1, 8, 1, .ro, 0, .commit, 0, 1, 0, false, 0, 0, []⟩
def MOT_FEED_SCALE : Row := ⟨0x060, 1, 0x044, 0, 1, 0, 32, .rws, 0, .idle, 0, 4294967295, 0, false, 0, 0, []⟩
def MOT_ENCe_SCALE : Row := ⟨0x060, 1, 0x048, 4, 2, 0, 32, .rws, 0, .idle, 0, 4294967295, 0, false, 0, 0, []⟩
def MOT_ENCe_INV : Row := ⟨0x060, 1, 0x050, 4, 2, 0, 1, .rws, 0, .idle, 0, 1, 0, false, 0, 0, []⟩
def MOT_ENCe_FILT : Row := ⟨0x060, 1, 0x050, 4, 2, 4, 2, .rws, 1, .idle, 0, 3, 0, false, 0, 0, []⟩
def MOT_ENCe_CNT_LO : Row := ⟨0x060, 1, 0x058, 8, 2, 0, 32, .ro, 0, .commit, 0, 4294967295, 0, false, 0, 0, []⟩
def MOT_ENCe_CNT_HI : Row := ⟨0x060, 1, 0x05C, 8, 2, 0, 16, .ro, 0, .commit, 0, 65535, 0, false, 0, 0, []⟩
def MOT_ENC0_ERR : Row := ⟨0x060, 1, 0x068, 0, 1, 0, 16, .ro, 0, .commit, 0, 65535, 0, false, 0, 0, []⟩
def MOT_ENC1_ERR : Row := ⟨0x060, 1, 0x068, 0, 1, 16, 16, .ro, 0, .commit, 0, 65535, 0, false, 0, 0, []⟩
def MOT_LIMi_AXIS : Row := ⟨0x060, 1, 0x080, 4, 8, 0, 3, .rws, 7, .idle, 0, 7, 0, false, 0, 0, []⟩
def MOT_LIMi_ROLE : Row := ⟨0x060, 1, 0x080, 4, 8, 3, 3, .rws, 0, .idle, 0, 4, 0, false, 0, 0, []⟩
def MOT_LIMi_POL : Row := ⟨0x060, 1, 0x080, 4, 8, 6, 1, .rws, 0, .idle, 0, 1, 0, false, 0, 0, []⟩
def MOT_LIMi_DEB : Row := ⟨0x060, 1, 0x080, 4, 8, 8, 14, .rws, 1000, .idle, 0, 16383, 0, false, 0, 0, []⟩
def MOT_LIM_QUAL : Row := ⟨0x060, 1, 0x0A0, 0, 1, 0, 8, .ro, 0, .commit, 0, 255, 0, false, 0, 0, []⟩
def MOT_LIM_RAW : Row := ⟨0x060, 1, 0x0A0, 0, 1, 8, 8, .ro, 0, .commit, 0, 255, 0, false, 0, 0, []⟩
def MOT_STAT_ESTOP : Row := ⟨0x060, 1, 0x0A0, 0, 1, 16, 1, .w1c, 0, .commit, 0, 1, 0, false, 0, 0, []⟩
def MOT_LIM_TRIP : Row := ⟨0x060, 1, 0x0A4, 0, 1, 0, 8, .w1c, 0, .commit, 0, 255, 0, false, 0, 0, []⟩
def MOT_ADV_LEN : Row := ⟨0x060, 1, 0x0C0, 0, 1, 0, 31, .rw, 0, .commit, 0, 2147483647, 0, false, 0, 0, []⟩
def MOT_ADV_CREEP : Row := ⟨0x060, 1, 0x0C4, 0, 1, 0, 24, .rw, 50000, .commit, 0, 16777215, 0, false, 0, 0, []⟩
def MOT_ADV_DEADLINE : Row := ⟨0x060, 1, 0x0C8, 0, 1, 0, 24, .rw, 0, .commit, 0, 16777215, 0, false, 0, 0, []⟩
def MOT_ADV_ID : Row := ⟨0x060, 1, 0x0CC, 0, 1, 0, 32, .rw, 0, .commit, 0, 4294967295, 0, false, 0, 0, []⟩
def MOT_ADV_PUSH : Row := ⟨0x060, 1, 0x0D0, 0, 1, 0, 1, .wo, 0, .commit, 0, 1, 0, false, 0, 0, []⟩
def MOT_ADV_FLUSH : Row := ⟨0x060, 1, 0x0D0, 0, 1, 1, 1, .wo, 0, .commit, 0, 1, 0, false, 0, 0, []⟩
def MOT_ADV_QUEUED : Row := ⟨0x060, 1, 0x0D4, 0, 1, 0, 3, .ro, 0, .commit, 0, 7, 0, false, 0, 0, []⟩
def MOT_ADV_RUNNING : Row := ⟨0x060, 1, 0x0D4, 0, 1, 3, 1, .ro, 0, .commit, 0, 1, 0, false, 0, 0, []⟩
def MOT_ADV_ACC_TBL : Row := ⟨0x060, 1, 0x0D8, 0, 1, 0, 6, .rws, 0, .pass, 0, 63, 0, false, 0, 0, []⟩
def MOT_ADV_DEC_TBL : Row := ⟨0x060, 1, 0x0D8, 0, 1, 8, 6, .rws, 0, .pass, 0, 63, 0, false, 0, 0, []⟩
def MOT_ADV_CRUISE_ENT : Row := ⟨0x060, 1, 0x0D8, 0, 1, 16, 10, .rws, 0, .pass, 0, 1023, 0, false, 0, 0, []⟩
def MOT_ADV_SETTLE_US : Row := ⟨0x060, 1, 0x0DC, 0, 1, 0, 16, .rw, 200, .commit, 0, 65535, 0, false, 0, 0, []⟩
def MOT_ADV_SETTLE_LINES : Row := ⟨0x060, 1, 0x0DC, 0, 1, 16, 4, .rw, 2, .commit, 1, 15, 0, false, 0, 0, []⟩
def MOT_ADV_OVER_NM : Row := ⟨0x060, 1, 0x0E0, 0, 1, 0, 24, .rw, 100000, .commit, 0, 16777215, 0, false, 0, 0, []⟩
def MOT_ADV_LAST_ERR : Row := ⟨0x060, 1, 0x0E4, 0, 1, 0, 32, .ro, 0, .commit, 0, 4294967295, 0, false, 0, 0, []⟩
def MOT_ADV_CNT : Row := ⟨0x060, 1, 0x0E8, 0, 1, 0, 32, .ro, 0, .commit, 0, 4294967295, 0, false, 0, 0, []⟩
def MOT_ADV_LATE_CNT : Row := ⟨0x060, 1, 0x0EC, 0, 1, 0, 16, .ro, 0, .commit, 0, 65535, 0, false, 0, 0, []⟩
def MOT_ADV_FB_CNT : Row := ⟨0x060, 1, 0x0EC, 0, 1, 16, 16, .ro, 0, .commit, 0, 65535, 0, false, 0, 0, []⟩
def MOT_GRPg_MEMBERS : Row := ⟨0x060, 1, 0x100, 8, 2, 0, 6, .rw, 0, .commit, 0, 63, 0, false, 0, 0, []⟩
def MOT_GRPg_LEAD : Row := ⟨0x060, 1, 0x100, 8, 2, 8, 3, .rw, 0, .commit, 0, 7, 0, false, 0, 0, []⟩
def MOT_GRPg_DDA_DEN : Row := ⟨0x060, 1, 0x104, 8, 2, 0, 32, .rw, 1, .commit, 1, 4294967295, 0, false, 0, 0, []⟩
def MOT_GRP_START : Row := ⟨0x060, 1, 0x110, 0, 1, 0, 2, .wo, 0, .commit, 0, 3, 0, false, 0, 0, []⟩
def MOT_PASS_SYNC_POL : Row := ⟨0x060, 1, 0x120, 0, 1, 0, 1, .rws, 0, .idle, 0, 1, 0, false, 0, 0, []⟩
def MOT_PASS_READY_POL : Row := ⟨0x060, 1, 0x120, 0, 1, 1, 1, .rws, 0, .idle, 0, 1, 0, false, 0, 0, []⟩
def MOT_PASS_SYNC_DEB : Row := ⟨0x060, 1, 0x120, 0, 1, 8, 8, .rws, 5, .idle, 0, 255, 0, false, 0, 0, []⟩
def MOT_HOLD_SW : Row := ⟨0x060, 1, 0x124, 0, 1, 0, 1, .rw, 0, .commit, 0, 1, 0, false, 0, 0, []⟩
def MOT_HOLD_FAULT : Row := ⟨0x060, 1, 0x124, 0, 1, 1, 1, .w1c, 0, .commit, 0, 1, 0, false, 0, 0, []⟩
def MOT_HOLD_RESERVE : Row := ⟨0x060, 1, 0x124, 0, 1, 2, 1, .ro, 0, .commit, 0, 1, 0, false, 0, 0, []⟩
def MOT_HOLD_OUT : Row := ⟨0x060, 1, 0x124, 0, 1, 3, 1, .ro, 0, .commit, 0, 1, 0, false, 0, 0, []⟩
def MOT_PASS_CNT : Row := ⟨0x060, 1, 0x128, 0, 1, 0, 32, .ro, 0, .commit, 0, 4294967295, 0, false, 0, 0, []⟩
def MOT_PASS_PROTO_ERR : Row := ⟨0x060, 1, 0x12C, 0, 1, 0, 16, .ro, 0, .commit, 0, 65535, 0, false, 0, 0, []⟩
def MOT_AON_RETAIN_VALID : Row := ⟨0x060, 1, 0x130, 0, 1, 0, 1, .ro, 1, .commit, 0, 1, 0, false, 0, 0, []⟩

/-! R282, 08_roller.md -/
def MOT_AXa_CMD : Row := ⟨0x061, 6, 0x040, 0, 1, 0, 4, .wo, 0, .commit, 0, 15, 0, false, 0, 0, []⟩
def MOT_AXa_CMD_TBL : Row := ⟨0x061, 6, 0x040, 0, 1, 8, 6, .wo, 0, .commit, 0, 63, 0, false, 0, 0, []⟩
def MOT_AXa_CMD_USE_TBL : Row := ⟨0x061, 6, 0x040, 0, 1, 14, 1, .wo, 0, .commit, 0, 1, 0, false, 0, 0, []⟩
def MOT_AXa_MOVE_DIR : Row := ⟨0x061, 6, 0x044, 0, 1, 0, 1, .rw, 0, .commit, 0, 1, 0, false, 0, 0, []⟩
def MOT_AXa_MOVE_BUDGET_EN : Row := ⟨0x061, 6, 0x044, 0, 1, 1, 1, .rw, 0, .commit, 0, 1, 0, false, 0, 0, []⟩
def MOT_AXa_MOVE_VELOCITY : Row := ⟨0x061, 6, 0x044, 0, 1, 2, 1, .rw, 0, .commit, 0, 1, 0, false, 0, 0, []⟩
def MOT_AXa_EN : Row := ⟨0x061, 6, 0x044, 0, 1, 3, 1, .rw, 1, .commit, 0, 1, 0, false, 0, 0, []⟩
def MOT_AXa_BUDGET : Row := ⟨0x061, 6, 0x048, 0, 1, 0, 32, .rw, 0, .commit, 0, 4294967295, 0, false, 0, 0, []⟩
def MOT_AXa_STOP_TBL : Row := ⟨0x061, 6, 0x04C, 0, 1, 0, 6, .rw, 0, .commit, 0, 63, 0, false, 0, 0, []⟩
def MOT_AXa_VEL_SEL_TBL : Row := ⟨0x061, 6, 0x050, 0, 1, 0, 6, .rw, 0, .commit, 0, 63, 0, false, 0, 0, []⟩
def MOT_AXa_VEL_SEL_ENT : Row := ⟨0x061, 6, 0x050, 0, 1, 8, 10, .rw, 0, .commit, 0, 1023, 0, false, 0, 0, []⟩
def MOT_AXa_SS_INT : Row := ⟨0x061, 6, 0x054, 0, 1, 0, 24, .rws, 10000, .idle, 50, 16777215, 0, false, 0, 0, []⟩
def MOT_AXa_STEP_HIGH : Row := ⟨0x061, 6, 0x058, 0, 1, 0, 8, .rws, 20, .idle, 2, 40, 0, false, 0, 0, []⟩
def MOT_AXa_DIR_SETUP : Row := ⟨0x061, 6, 0x058, 0, 1, 8, 8, .rws, 100, .idle, 5, 255, 0, false, 0, 0, []⟩
def MOT_AXa_STEP_POL : Row := ⟨0x061, 6, 0x058, 0, 1, 16, 1, .rws, 0, .idle, 0, 1, 0, false, 0, 0, []⟩
def MOT_AXa_DIR_INV : Row := ⟨0x061, 6, 0x058, 0, 1, 17, 1, .rws, 0, .idle, 0, 1, 0, false, 0, 0, []⟩
def MOT_AXa_USTEP_CYCLE : Row := ⟨0x061, 6, 0x05C, 0, 1, 0, 13, .rws, 1024, .idle, 4, 4096, 0, false, 0, 0, []⟩
def MOT_AXa_DRV_HOME_IDX : Row := ⟨0x061, 6, 0x05C, 0, 1, 16, 13, .rws, 0, .idle, 0, 8191, 0, false, 0, 0, []⟩
def MOT_AXa_REPHASE_INT : Row := ⟨0x061, 6, 0x060, 0, 1, 0, 24, .rws, 1000, .idle, 50, 16777215, 0, false, 0, 0, []⟩
def MOT_AXa_LIM_STOP : Row := ⟨0x061, 6, 0x064, 0, 1, 0, 1, .rws, 0, .idle, 0, 1, 0, false, 0, 0, []⟩
def MOT_AXa_HOME_IN : Row := ⟨0x061, 6, 0x068, 0, 1, 0, 3, .rws, 0, .idle, 0, 7, 0, false, 0, 0, []⟩
def MOT_AXa_HOME_CFG_ADOPT : Row := ⟨0x061, 6, 0x068, 0, 1, 3, 1, .rws, 0, .idle, 0, 1, 0, false, 0, 0, []⟩
def MOT_AXa_HOME_DIR : Row := ⟨0x061, 6, 0x068, 0, 1, 4, 1, .rws, 0, .idle, 0, 1, 0, false, 0, 0, []⟩
def MOT_AXa_HOME_TBL : Row := ⟨0x061, 6, 0x068, 0, 1, 8, 6, .rws, 0, .idle, 0, 63, 0, false, 0, 0, []⟩
def MOT_AXa_HOME_ENT : Row := ⟨0x061, 6, 0x068, 0, 1, 16, 10, .rws, 0, .idle, 0, 1023, 0, false, 0, 0, []⟩
def MOT_AXa_HOME_MAX : Row := ⟨0x061, 6, 0x06C, 0, 1, 0, 32, .rws, 4294967295, .idle, 0, 4294967295, 0, false, 0, 0, []⟩
def MOT_AXa_HOME_BACKOFF : Row := ⟨0x061, 6, 0x070, 0, 1, 0, 24, .rws, 256, .idle, 0, 16777215, 0, false, 0, 0, []⟩
def MOT_AXa_HOME_POS_LO : Row := ⟨0x061, 6, 0x074, 0, 1, 0, 32, .rws, 0, .idle, 0, 4294967295, 0, false, 0, 0, []⟩
def MOT_AXa_HOME_POS_HI : Row := ⟨0x061, 6, 0x078, 0, 1, 0, 16, .rws, 0, .idle, 0, 65535, 0, false, 0, 0, []⟩
def MOT_AXa_DDA_NUM : Row := ⟨0x061, 6, 0x07C, 0, 1, 0, 32, .rw, 0, .commit, 0, 4294967295, 0, false, 0, 0, []⟩
def MOT_AXa_POS_LO : Row := ⟨0x061, 6, 0x080, 0, 1, 0, 32, .ro, 0, .commit, 0, 4294967295, 0, true, 0, 0, []⟩
def MOT_AXa_POS_HI : Row := ⟨0x061, 6, 0x084, 0, 1, 0, 16, .ro, 0, .commit, 0, 65535, 0, true, 0, 0, []⟩
def MOT_AXa_USTEP_IDX : Row := ⟨0x061, 6, 0x088, 0, 1, 0, 12, .ro, 0, .commit, 0, 4095, 0, true, 0, 0, []⟩
def MOT_AXa_STAT_BUSY : Row := ⟨0x061, 6, 0x08C, 0, 1, 0, 1, .ro, 0, .commit, 0, 1, 0, false, 0, 0, []⟩
def MOT_AXa_STAT_HOMED : Row := ⟨0x061, 6, 0x08C, 0, 1, 1, 1, .ro, 0, .commit, 0, 1, 0, false, 0, 0, []⟩
def MOT_AXa_STAT_PHASE_LOST : Row := ⟨0x061, 6, 0x08C, 0, 1, 2, 1, .ro, 0, .commit, 0, 1, 0, false, 0, 0, []⟩
def MOT_AXa_STAT_HOME_FAULT : Row := ⟨0x061, 6, 0x08C, 0, 1, 3, 1, .w1c, 0, .commit, 0, 1, 0, false, 0, 0, []⟩
def MOT_AXa_STAT_DRV_FAULT : Row := ⟨0x061, 6, 0x08C, 0, 1, 4, 1, .w1c, 0, .commit, 0, 1, 0, false, 0, 0, []⟩
def MOT_AXa_STAT_HALTED : Row := ⟨0x061, 6, 0x08C, 0, 1, 5, 1, .w1c, 0, .commit, 0, 1, 0, false, 0, 0, []⟩
def MOT_AXa_STAT_CLIPPED : Row := ⟨0x061, 6, 0x08C, 0, 1, 6, 1, .w1c, 0, .commit, 0, 1, 0, false, 0, 0, []⟩
def MOT_AXa_STAT_DRV_LOST : Row := ⟨0x061, 6, 0x08C, 0, 1, 7, 1, .ro, 0, .commit, 0, 1, 0, true, 0, 0, []⟩
def MOT_AXa_STAT_SPARED : Row := ⟨0x061, 6, 0x08C, 0, 1, 8, 1, .ro, 0, .commit, 0, 1, 0, false, 0, 0, []⟩
def MOT_AXa_STAT_SUBSTITUTING : Row := ⟨0x061, 6, 0x08C, 0, 1, 9, 1, .ro, 0, .commit, 0, 1, 0, false, 0, 0, []⟩
def MOT_AXa_STAT_GEN_FAULT : Row := ⟨0x061, 6, 0x08C, 0, 1, 10, 1, .ro, 0, .commit, 0, 1, 0, false, 0, 0, []⟩
def MOT_AXa_STAT_BALL_FAULT : Row := ⟨0x061, 6, 0x08C, 0, 1, 11, 1, .ro, 0, .commit, 0, 1, 0, false, 0, 0, []⟩
def MOT_AXa_STAT_SEG : Row := ⟨0x061, 6, 0x08C, 0, 1, 12, 3, .ro, 0, .commit, 0, 7, 0, false, 0, 0, []⟩
def MOT_AXa_LATCH_LO : Row := ⟨0x061, 6, 0x090, 0, 1, 0, 32, .ro, 0, .commit, 0, 4294967295, 0, false, 0, 0, []⟩
def MOT_AXa_LATCH_HI : Row := ⟨0x061, 6, 0x094, 0, 1, 0, 16, .ro, 0, .commit, 0, 65535, 0, false, 0, 0, []⟩
def MOT_AXa_LATCH_FRAC : Row := ⟨0x061, 6, 0x094, 0, 1, 16, 8, .ro, 0, .commit, 0, 255, 0, false, 0, 0, []⟩
def MOT_AXa_CHATTER : Row := ⟨0x061, 6, 0x098, 0, 1, 0, 16, .ro, 0, .commit, 0, 65535, 0, false, 0, 0, []⟩
def MOT_AXa_SEL_LOST : Row := ⟨0x061, 6, 0x098, 0, 1, 16, 16, .ro, 0, .commit, 0, 65535, 0, false, 0, 0, []⟩
def MOT_AXa_SEGs_LO : Row := ⟨0x061, 6, 0x0A0, 8, 8, 0, 32, .rw, 0, .commit, 0, 4294967295, 0, false, 0, 0, []⟩
def MOT_AXa_SEGs_HI : Row := ⟨0x061, 6, 0x0A4, 8, 8, 0, 32, .rw, 0, .commit, 0, 4294967295, 0, false, 0, 0, []⟩
def MOT_AXa_SETPOS_LO : Row := ⟨0x061, 6, 0x0E0, 0, 1, 0, 32, .rw, 0, .commit, 0, 4294967295, 0, false, 0, 0, []⟩
def MOT_AXa_SETPOS_HI : Row := ⟨0x061, 6, 0x0E4, 0, 1, 0, 16, .rw, 0, .commit, 0, 65535, 0, false, 0, 0, []⟩
def MOT_AXa_SHADOW : Row := ⟨0x061, 6, 0x0E8, 0, 1, 0, 3, .rws, 0, .idle, 0, 7, 0, false, 0, 2, [7, 7, 7, 7, 0, 1]⟩

/-! R312, 09_capture_pacing.md -/
def CAP_CTRL_PAGE_MODE : Row := ⟨0x070, 1, 0x040, 0, 1, 0, 1, .rws, 0, .idle, 0, 1, 0, false, 0, 0, []⟩
def CAP_CTRL_RAW : Row := ⟨0x070, 1, 0x040, 0, 1, 1, 1, .rws, 0, .idle, 0, 1, 0, false, 0, 0, []⟩
def CAP_CTRL_PACK8 : Row := ⟨0x070, 1, 0x040, 0, 1, 2, 1, .rws, 0, .idle, 0, 1, 0, false, 0, 0, []⟩
def CAP_CTRL_LUT_EN : Row := ⟨0x070, 1, 0x040, 0, 1, 3, 1, .rws, 0, .idle, 0, 1, 0, false, 0, 0, []⟩
def CAP_CTRL_EXIT : Row := ⟨0x070, 1, 0x040, 0, 1, 4, 1, .rws, 0, .idle, 0, 1, 0, false, 0, 0, []⟩
def CAP_CTRL_PREV_EN : Row := ⟨0x070, 1, 0x040, 0, 1, 5, 1, .rws, 0, .page, 0, 1, 0, false, 0, 0, []⟩
def CAP_CTRL_STOP_AT_END : Row := ⟨0x070, 1, 0x040, 0, 1, 6, 1, .rws, 0, .page, 0, 1, 0, false, 0, 0, []⟩
def CAP_CTRL_ROWS : Row := ⟨0x070, 1, 0x040, 0, 1, 8, 5, .rws, 7, .idle, 0, 31, 0, false, 0, 0, []⟩
def CAP_BIN_X : Row := ⟨0x070, 1, 0x044, 0, 1, 0, 5, .rws, 1, .idle, 0, 31, 0, false, 0, 0, []⟩
def CAP_PREV_BIN : Row := ⟨0x070, 1, 0x044, 0, 1, 8, 2, .rws, 1, .page, 0, 3, 0, false, 0, 0, []⟩
def CAP_X0 : Row := ⟨0x070, 1, 0x048, 0, 1, 0, 19, .rws, 0, .idle, 0, 286719, 0, false, 0, 0, []⟩
def CAP_WIDTH : Row := ⟨0x070, 1, 0x04C, 0, 1, 0, 19, .rws, 0, .idle, 0, 524287, 0, false, 0, 0, []⟩
def CAP_LEAD_NM : Row := ⟨0x070, 1, 0x050, 0, 1, 0, 21, .rws, 1000000, .page, 0, 2000000, 0, false, 0, 0, []⟩
def CAP_TRAIL_NM : Row := ⟨0x070, 1, 0x054, 0, 1, 0, 21, .rws, 1000000, .page, 0, 2000000, 0, false, 0, 0, []⟩
def CAP_MAX_LEN_NM : Row := ⟨0x070, 1, 0x058, 0, 1, 0, 32, .rws, 0, .page, 0, 4294967295, 0, false, 0, 0, []⟩
def CAP_CMD : Row := ⟨0x070, 1, 0x05C, 0, 1, 0, 3, .wo, 0, .commit, 0, 7, 0, false, 0, 0, []⟩
def CAP_BUF_PAGES : Row := ⟨0x070, 1, 0x060, 0, 1, 0, 22, .rws, 262144, .idle, 256, 2097152, 0, false, 0, 0, []⟩
def CAP_WM_LOW : Row := ⟨0x070, 1, 0x064, 0, 1, 0, 8, .rw, 64, .commit, 0, 255, 0, false, 0, 0, []⟩
def CAP_WM_HIGH : Row := ⟨0x070, 1, 0x064, 0, 1, 8, 8, .rw, 192, .commit, 0, 255, 0, false, 0, 0, []⟩
def CAP_WM_STOP : Row := ⟨0x070, 1, 0x064, 0, 1, 16, 8, .rw, 230, .commit, 0, 255, 0, false, 0, 0, []⟩
def CAP_MARGIN : Row := ⟨0x070, 1, 0x068, 0, 1, 0, 8, .rw, 230, .commit, 1, 255, 0, false, 0, 0, []⟩
def CAP_START_RUNG : Row := ⟨0x070, 1, 0x068, 0, 1, 8, 3, .rws, 7, .idle, 0, 7, 0, false, 0, 0, []⟩
def CAP_TOP_RUNG : Row := ⟨0x070, 1, 0x068, 0, 1, 12, 3, .rw, 7, .commit, 0, 7, 0, false, 0, 0, []⟩
def CAP_RUNG_HOLD : Row := ⟨0x070, 1, 0x068, 0, 1, 16, 16, .rw, 500, .commit, 0, 65535, 0, false, 0, 0, []⟩
def CAP_HIGH_HOLD : Row := ⟨0x070, 1, 0x06C, 0, 1, 0, 16, .rw, 100, .commit, 10, 65535, 0, false, 0, 0, []⟩
def CAP_UP_CREDIT : Row := ⟨0x070, 1, 0x06C, 0, 1, 16, 16, .rw, 256, .commit, 0, 65535, 0, false, 0, 0, []⟩
def CAP_BACKUP_NM : Row := ⟨0x070, 1, 0x070, 0, 1, 0, 24, .rws, 3000000, .idle, 0, 16777215, 0, false, 0, 0, []⟩
def CAP_BACKUP_TBL : Row := ⟨0x070, 1, 0x074, 0, 1, 0, 6, .rws, 0, .idle, 0, 63, 0, false, 0, 0, []⟩
def CAP_BACKUP_ENT : Row := ⟨0x070, 1, 0x074, 0, 1, 16, 10, .rws, 0, .idle, 0, 1023, 0, false, 0, 0, []⟩
def CAP_LEADIN_LINES : Row := ⟨0x070, 1, 0x078, 0, 1, 0, 8, .rws, 48, .idle, 16, 255, 0, false, 0, 0, []⟩
def CAP_PAUSE_LED_MAX : Row := ⟨0x070, 1, 0x07C, 0, 1, 0, 16, .rw, 300, .commit, 0, 65535, 0, false, 0, 0, []⟩
def CAP_LED_STBY : Row := ⟨0x070, 1, 0x07C, 0, 1, 16, 8, .rw, 0, .commit, 0, 255, 0, false, 0, 0, []⟩
def CAP_TAB_L_PIX : Row := ⟨0x070, 1, 0x080, 0, 1, 0, 14, .rws, 0, .idle, 0, 16383, 0, false, 0, 0, []⟩
def CAP_TAB_R_PIX : Row := ⟨0x070, 1, 0x080, 0, 1, 16, 14, .rws, 0, .idle, 0, 16383, 0, false, 0, 0, []⟩
def CAP_TAB_W : Row := ⟨0x070, 1, 0x084, 0, 1, 0, 8, .rws, 0, .idle, 0, 255, 0, false, 0, 0, []⟩
def CAP_TAB_TOL : Row := ⟨0x070, 1, 0x084, 0, 1, 8, 8, .rw, 8, .commit, 1, 255, 0, false, 0, 0, []⟩
def CAP_STAB_MAX : Row := ⟨0x070, 1, 0x084, 0, 1, 16, 8, .rw, 10, .commit, 2, 255, 0, false, 0, 0, []⟩
def CAP_STALL_TO : Row := ⟨0x070, 1, 0x088, 0, 1, 0, 16, .rw, 10000, .commit, 0, 65535, 0, false, 0, 0, []⟩
def CAP_C0_RESERVE : Row := ⟨0x070, 1, 0x08C, 0, 1, 0, 22, .rw, 16384, .commit, 0, 4194303, 0, false, 0, 0, []⟩
def CAP_STATE : Row := ⟨0x070, 1, 0x0A0, 0, 1, 0, 3, .ro, 3, .commit, 0, 7, 0, false, 0, 0, []⟩
def CAP_RUNG : Row := ⟨0x070, 1, 0x0A0, 0, 1, 4, 3, .ro, 0, .commit, 0, 7, 0, false, 0, 0, []⟩
def CAP_STAT_PAGE_OPEN : Row := ⟨0x070, 1, 0x0A0, 0, 1, 8, 1, .ro, 0, .commit, 0, 1, 0, false, 0, 0, []⟩
def CAP_STAT_STALL : Row := ⟨0x070, 1, 0x0A0, 0, 1, 9, 1, .ro, 0, .commit, 0, 1, 0, false, 0, 0, []⟩
def CAP_STAT_LED_UNSTABLE : Row := ⟨0x070, 1, 0x0A0, 0, 1, 10, 1, .ro, 0, .commit, 0, 1, 0, false, 0, 0, []⟩
def CAP_STAT_SHORT_LEADIN : Row := ⟨0x070, 1, 0x0A0, 0, 1, 11, 1, .w1c, 0, .commit, 0, 1, 0, false, 0, 0, []⟩
def CAP_PAUSE_CAUSE : Row := ⟨0x070, 1, 0x0A0, 0, 1, 12, 4, .ro, 2, .commit, 0, 15, 0, false, 0, 0, []⟩
def CAP_FILL : Row := ⟨0x070, 1, 0x0A4, 0, 1, 0, 9, .ro, 0, .commit, 0, 511, 0, false, 0, 0, []⟩
def CAP_DRAIN_EST : Row := ⟨0x070, 1, 0x0A8, 0, 1, 0, 32, .ro, 0, .commit, 0, 4294967295, 0, false, 0, 0, []⟩
def CAP_LINE_BYTES : Row := ⟨0x070, 1, 0x0AC, 0, 1, 0, 32, .ro, 0, .commit, 0, 4294967295, 0, false, 0, 0, []⟩
def CAP_REENTRY_NM : Row := ⟨0x070, 1, 0x0B0, 0, 1, 0, 32, .ro, 0, .commit, 0, 4294967295, 0, false, 0, 0, []⟩
def CAP_PAGE_CNT : Row := ⟨0x070, 1, 0x0B4, 0, 1, 0, 32, .ro, 0, .commit, 0, 4294967295, 0, false, 0, 0, []⟩
def CAP_PAUSE_CNT : Row := ⟨0x070, 1, 0x0B8, 0, 1, 0, 16, .ro, 0, .commit, 0, 65535, 0, false, 0, 0, []⟩
def CAP_SEAM_FB_CNT : Row := ⟨0x070, 1, 0x0B8, 0, 1, 16, 16, .ro, 0, .commit, 0, 65535, 0, false, 0, 0, []⟩
def CAP_DROP_CNT : Row := ⟨0x070, 1, 0x0BC, 0, 1, 0, 32, .ro, 0, .commit, 0, 4294967295, 0, false, 0, 0, []⟩

/-! R337, 10_memory_arbitration.md -/
def MC_STAT_TRAINED : Row := ⟨0x078, 1, 0x040, 0, 1, 0, 1, .ro, 0, .commit, 0, 1, 0, false, 0, 0, []⟩
def MC_STAT_RETRAIN_DUE : Row := ⟨0x078, 1, 0x040, 0, 1, 1, 1, .ro, 0, .commit, 0, 1, 0, false, 0, 0, []⟩
def MC_STAT_RETRAIN_ACTIVE : Row := ⟨0x078, 1, 0x040, 0, 1, 2, 1, .ro, 0, .commit, 0, 1, 0, false, 0, 0, []⟩
def MC_STAT_HOT : Row := ⟨0x078, 1, 0x040, 0, 1, 3, 1, .ro, 0, .commit, 0, 1, 0, false, 0, 0, []⟩
def MC_ADDR_ERR : Row := ⟨0x078, 1, 0x040, 0, 1, 4, 1, .w1c, 0, .commit, 0, 1, 0, false, 0, 0, []⟩
def MC_ADDR_ERR_INPUT : Row := ⟨0x078, 1, 0x040, 0, 1, 8, 4, .ro, 0, .commit, 0, 15, 0, false, 0, 0, []⟩
def MC_RETRAIN_REQ : Row := ⟨0x078, 1, 0x044, 0, 1, 0, 1, .wo, 0, .page, 0, 1, 0, false, 0, 0, []⟩
def MC_RETRAIN_CNT : Row := ⟨0x078, 1, 0x048, 0, 1, 0, 16, .ro, 0, .commit, 0, 65535, 0, false, 0, 0, []⟩
def MC_RETRAIN_DEFER : Row := ⟨0x078, 1, 0x048, 0, 1, 16, 16, .ro, 0, .commit, 0, 65535, 0, false, 0, 0, []⟩
def MC_SCRUB_INTERVAL : Row := ⟨0x078, 1, 0x04C, 0, 1, 0, 9, .rws, 64, .idle, 1, 320, 0, false, 0, 0, []⟩
def MC_SCRUB_EN : Row := ⟨0x078, 1, 0x04C, 0, 1, 16, 1, .rws, 1, .idle, 0, 1, 0, false, 0, 0, []⟩
def MC_SCRUB_ADDR_LO : Row := ⟨0x078, 1, 0x050, 0, 1, 0, 32, .ro, 0, .commit, 0, 4294967295, 0, false, 0, 0, []⟩
def MC_SCRUB_ADDR_HI : Row := ⟨0x078, 1, 0x054, 0, 1, 0, 2, .ro, 0, .commit, 0, 3, 0, false, 0, 0, []⟩
def MC_SCRUB_PASS_S : Row := ⟨0x078, 1, 0x058, 0, 1, 0, 32, .ro, 0, .commit, 0, 4294967295, 0, false, 0, 0, []⟩
def MC_SCRUB_PASSES : Row := ⟨0x078, 1, 0x05C, 0, 1, 0, 32, .ro, 0, .commit, 0, 4294967295, 0, false, 0, 0, []⟩
def MC_ECC_CE_CNT : Row := ⟨0x078, 1, 0x060, 0, 1, 0, 32, .ro, 0, .commit, 0, 4294967295, 0, false, 0, 0, []⟩
def MC_ECC_UE_CNT : Row := ⟨0x078, 1, 0x064, 0, 1, 0, 32, .ro, 0, .commit, 0, 4294967295, 0, false, 0, 0, []⟩
def MC_ECC_LAST_ADDR_LO : Row := ⟨0x078, 1, 0x068, 0, 1, 0, 32, .ro, 0, .commit, 0, 4294967295, 0, false, 0, 0, []⟩
def MC_ECC_LAST_ADDR_HI : Row := ⟨0x078, 1, 0x06C, 0, 1, 0, 2, .ro, 0, .commit, 0, 3, 0, false, 0, 0, []⟩
def MC_ECC_LAST_INPUT : Row := ⟨0x078, 1, 0x070, 0, 1, 0, 4, .ro, 0, .commit, 0, 15, 0, false, 0, 0, []⟩
def MC_ECC_LAST_UE : Row := ⟨0x078, 1, 0x070, 0, 1, 8, 1, .ro, 0, .commit, 0, 1, 0, false, 0, 0, []⟩
def MC_SECT_RETIRED : Row := ⟨0x078, 1, 0x074, 0, 1, 0, 3, .ro, 0, .commit, 0, 7, 0, false, 0, 0, []⟩
def MC_ADDR_ERR_ADDR_LO : Row := ⟨0x078, 1, 0x078, 0, 1, 0, 32, .ro, 0, .commit, 0, 4294967295, 0, false, 0, 0, []⟩
def MC_ADDR_ERR_ADDR_HI : Row := ⟨0x078, 1, 0x07C, 0, 1, 0, 32, .ro, 0, .commit, 0, 4294967295, 0, false, 0, 0, []⟩

/-! R338, 10_memory_arbitration.md -/
def ARB_WIN_CAP : Row := ⟨0x079, 1, 0x040, 0, 1, 0, 11, .ro, 1536, .commit, 0, 2047, 0, false, 0, 0, []⟩
def ARB_QUOTA_SUM : Row := ⟨0x079, 1, 0x044, 0, 1, 0, 11, .ro, 0, .commit, 0, 2047, 0, false, 0, 0, []⟩
def ARB_CNT_CLEAR : Row := ⟨0x079, 1, 0x048, 0, 1, 0, 1, .wo, 0, .commit, 0, 1, 0, false, 0, 0, []⟩
def ARB_WDOG_CNT : Row := ⟨0x079, 1, 0x04C, 0, 1, 0, 16, .ro, 0, .commit, 0, 65535, 0, false, 0, 0, []⟩
def ARB_WDOG_LAST : Row := ⟨0x079, 1, 0x04C, 0, 1, 16, 4, .ro, 0, .commit, 0, 15, 0, false, 0, 0, []⟩
def ARB_PREEMPT_REF : Row := ⟨0x079, 1, 0x050, 0, 1, 0, 32, .ro, 0, .commit, 0, 4294967295, 0, false, 0, 0, []⟩
def ARB_PREEMPT_DBG : Row := ⟨0x079, 1, 0x054, 0, 1, 0, 32, .ro, 0, .commit, 0, 4294967295, 0, false, 0, 0, []⟩
def ARB_QUOTA_i : Row := ⟨0x079, 1, 0x100, 16, 13, 0, 11, .rws, 0, .idle, 0, 2047, 0, false, 0, 1, [2, 4, 32, 64, 128, 64, 160, 32, 40, 40, 0, 0, 0]⟩
def ARB_QUOTA_INF_i : Row := ⟨0x079, 1, 0x100, 16, 13, 16, 11, .ro, 0, .commit, 0, 2047, 0, false, 0, 1, [2, 4, 32, 64, 128, 64, 160, 32, 40, 40, 32, 32, 32]⟩
def ARB_GRANTS_i : Row := ⟨0x079, 1, 0x104, 16, 13, 0, 32, .ro, 0, .commit, 0, 4294967295, 0, false, 0, 0, []⟩
def ARB_WAITS_i : Row := ⟨0x079, 1, 0x108, 16, 13, 0, 32, .ro, 0, .commit, 0, 4294967295, 0, false, 0, 0, []⟩
def ARB_MAXWAIT_i : Row := ⟨0x079, 1, 0x10C, 16, 13, 0, 20, .ro, 0, .commit, 0, 1048575, 0, false, 0, 0, []⟩
def ARB_AGE_i : Row := ⟨0x079, 1, 0x10C, 16, 13, 24, 4, .ro, 0, .commit, 0, 15, 0, false, 0, 0, []⟩

/-! R356, 11_dma_hod.md -/
def DMA_ACTIVE : Row := ⟨0x080, 1, 0x040, 0, 1, 0, 16, .ro, 0, .commit, 0, 65535, 0, false, 0, 0, []⟩
def DMA_DESC_CNT : Row := ⟨0x080, 1, 0x044, 0, 1, 0, 32, .ro, 0, .commit, 0, 4294967295, 0, false, 0, 0, []⟩
def DMA_ERR_CNT : Row := ⟨0x080, 1, 0x048, 0, 1, 0, 32, .ro, 0, .commit, 0, 4294967295, 0, false, 0, 0, []⟩
def DMA_BYTES_MB : Row := ⟨0x080, 1, 0x04C, 0, 1, 0, 32, .ro, 0, .commit, 0, 4294967295, 0, false, 0, 0, []⟩

/-! R357, 11_dma_hod.md -/
def DMA_CHc_DESC_LO : Row := ⟨0x081, 16, 0x040, 0, 1, 0, 32, .rw, 0, .commit, 0, 4294967295, 7, false, 0, 0, []⟩
def DMA_CHc_DESC_HI : Row := ⟨0x081, 16, 0x044, 0, 1, 0, 32, .rw, 0, .commit, 0, 4294967295, 0, false, 0, 0, []⟩
def DMA_CHc_CMD : Row := ⟨0x081, 16, 0x048, 0, 1, 0, 2, .wo, 0, .commit, 0, 3, 0, false, 0, 0, []⟩
def DMA_CHc_STATE : Row := ⟨0x081, 16, 0x04C, 0, 1, 0, 3, .ro, 0, .commit, 0, 7, 0, false, 0, 0, []⟩
def DMA_CHc_LAST_CODE : Row := ⟨0x081, 16, 0x04C, 0, 1, 4, 4, .ro, 0, .commit, 0, 15, 0, false, 0, 0, []⟩
def DMA_CHc_LAST_CAUSE : Row := ⟨0x081, 16, 0x04C, 0, 1, 8, 4, .ro, 0, .commit, 0, 15, 0, false, 0, 0, []⟩
def DMA_CHc_CUR_LO : Row := ⟨0x081, 16, 0x050, 0, 1, 0, 32, .ro, 0, .commit, 0, 4294967295, 0, false, 0, 0, []⟩
def DMA_CHc_CUR_HI : Row := ⟨0x081, 16, 0x054, 0, 1, 0, 32, .ro, 0, .commit, 0, 4294967295, 0, false, 0, 0, []⟩
def DMA_CHc_RES0 : Row := ⟨0x081, 16, 0x058, 0, 1, 0, 24, .ro, 0, .commit, 0, 16777215, 0, false, 0, 0, []⟩
def DMA_CHc_RES1 : Row := ⟨0x081, 16, 0x05C, 0, 1, 0, 16, .ro, 0, .commit, 0, 65535, 0, false, 0, 0, []⟩
def DMA_CHc_RES2 : Row := ⟨0x081, 16, 0x05C, 0, 1, 16, 16, .ro, 0, .commit, 0, 65535, 0, false, 0, 0, []⟩
def DMA_CHc_FAIL_LO : Row := ⟨0x081, 16, 0x060, 0, 1, 0, 32, .ro, 0, .commit, 0, 4294967295, 0, false, 0, 0, []⟩
def DMA_CHc_FAIL_HI : Row := ⟨0x081, 16, 0x064, 0, 1, 0, 32, .ro, 0, .commit, 0, 4294967295, 0, false, 0, 0, []⟩
def DMA_CHc_DONE_CNT : Row := ⟨0x081, 16, 0x068, 0, 1, 0, 32, .ro, 0, .commit, 0, 4294967295, 0, false, 0, 0, []⟩

/-! R378, 11_dma_hod.md -/
def HOD_CTRL_LEG_EN : Row := ⟨0x0A0, 1, 0x040, 0, 1, 0, 1, .rws, 0, .idle, 0, 1, 0, false, 0, 0, []⟩
def HOD_CTRL_LEG_CLASS : Row := ⟨0x0A0, 1, 0x040, 0, 1, 1, 2, .rws, 3, .idle, 0, 3, 0, false, 0, 0, []⟩
def HOD_SPILL_BASE_LO : Row := ⟨0x0A0, 1, 0x044, 0, 1, 0, 32, .rws, 0, .idle, 0, 4294967295, 12, false, 0, 0, []⟩
def HOD_SPILL_BASE_HI : Row := ⟨0x0A0, 1, 0x048, 0, 1, 0, 32, .rws, 0, .idle, 0, 4294967295, 0, false, 0, 0, []⟩
def HOD_Cn_PAGES : Row := ⟨0x0A0, 1, 0x050, 4, 4, 0, 22, .rws, 0, .idle, 0, 4194303, 0, false, 0, 0, []⟩
def HOD_FLUSH : Row := ⟨0x0A0, 1, 0x060, 0, 1, 0, 4, .wo, 0, .commit, 0, 15, 0, false, 0, 0, []⟩
def HOD_STAT_FALLBACK : Row := ⟨0x0A0, 1, 0x064, 0, 1, 0, 1, .ro, 1, .commit, 0, 1, 0, false, 0, 0, []⟩
def HOD_STAT_OVERRUN : Row := ⟨0x0A0, 1, 0x064, 0, 1, 4, 4, .w1c, 0, .commit, 0, 15, 0, false, 0, 0, []⟩
def HOD_FB_CNT : Row := ⟨0x0A0, 1, 0x068, 0, 1, 0, 16, .ro, 0, .commit, 0, 65535, 0, false, 0, 0, []⟩
def HOD_Cn_NEXT_SEQ : Row := ⟨0x0A0, 1, 0x080, 32, 4, 0, 32, .ro, 0, .commit, 0, 4294967295, 0, false, 0, 0, []⟩
def HOD_Cn_OLDEST_SEQ : Row := ⟨0x0A0, 1, 0x084, 32, 4, 0, 32, .ro, 0, .commit, 0, 4294967295, 0, false, 0, 0, []⟩
def HOD_Cn_SEND_SEQ : Row := ⟨0x0A0, 1, 0x088, 32, 4, 0, 32, .ro, 0, .commit, 0, 4294967295, 0, false, 0, 0, []⟩
def HOD_Cn_HELD_PAGES : Row := ⟨0x0A0, 1, 0x08C, 32, 4, 0, 22, .ro, 0, .commit, 0, 4194303, 0, false, 0, 0, []⟩
def HOD_Cn_FREE_PAGES : Row := ⟨0x0A0, 1, 0x090, 32, 4, 0, 22, .ro, 0, .commit, 0, 4194303, 0, false, 0, 0, []⟩
def HOD_Cn_OVR_CNT : Row := ⟨0x0A0, 1, 0x094, 32, 4, 0, 32, .ro, 0, .commit, 0, 4294967295, 0, false, 0, 0, []⟩
def HOD_Cn_REWIND_CNT : Row := ⟨0x0A0, 1, 0x098, 32, 4, 0, 32, .ro, 0, .commit, 0, 4294967295, 0, false, 0, 0, []⟩
def HOD_Cn_GAP_CNT : Row := ⟨0x0A0, 1, 0x09C, 32, 4, 0, 32, .ro, 0, .commit, 0, 4294967295, 0, false, 0, 0, []⟩
def HOD_LEG_DATA : Row := ⟨0x0A0, 1, 0x100, 0, 1, 0, 32, .ro, 0, .commit, 0, 4294967295, 0, false, 0, 0, []⟩
def HOD_LEG_AVAIL : Row := ⟨0x0A0, 1, 0x104, 0, 1, 0, 32, .ro, 0, .commit, 0, 4294967295, 0, false, 0, 0, []⟩
def HOD_LEG_CMD : Row := ⟨0x0A0, 1, 0x108, 0, 1, 0, 2, .wo, 0, .commit, 0, 3, 0, false, 0, 0, []⟩
def HOD_LEG_MARK_VALID : Row := ⟨0x0A0, 1, 0x10C, 0, 1, 0, 1, .ro, 0, .commit, 0, 1, 0, false, 0, 0, []⟩
def HOD_LEG_EMPTY_READ : Row := ⟨0x0A0, 1, 0x10C, 0, 1, 1, 1, .w1c, 0, .commit, 0, 1, 0, false, 0, 0, []⟩

/-! R416, 12_host_link.md -/
def LINK_ADV : Row := ⟨0x0B0, 1, 0x040, 0, 1, 0, 4, .rws, 15, .idle, 0, 15, 0, false, 0, 3, [15, 15, 7]⟩
def LINK_CTRL_DOWNSHIFT : Row := ⟨0x0B0, 1, 0x040, 0, 1, 8, 1, .rws, 1, .idle, 0, 1, 0, false, 0, 0, []⟩
def LINK_CTRL_JUMBO : Row := ⟨0x0B0, 1, 0x040, 0, 1, 9, 1, .rws, 1, .idle, 0, 1, 0, false, 0, 0, []⟩
def LINK_CTRL_DHCP : Row := ⟨0x0B0, 1, 0x040, 0, 1, 10, 1, .rws, 1, .idle, 0, 1, 0, false, 0, 0, []⟩
def LINK_CTRL_RENEG : Row := ⟨0x0B0, 1, 0x040, 0, 1, 16, 1, .wo, 0, .idle, 0, 1, 0, false, 0, 0, []⟩
def LINK_STAT_UP : Row := ⟨0x0B0, 1, 0x044, 0, 1, 0, 1, .ro, 0, .commit, 0, 1, 0, false, 0, 0, []⟩
def LINK_STAT_SPEED : Row := ⟨0x0B0, 1, 0x044, 0, 1, 1, 3, .ro, 0, .commit, 0, 7, 0, false, 0, 0, []⟩
def LINK_STAT_DOWNSHIFTED : Row := ⟨0x0B0, 1, 0x044, 0, 1, 4, 1, .ro, 0, .commit, 0, 1, 0, false, 0, 0, []⟩
def LINK_MAC_LO : Row := ⟨0x0B0, 1, 0x048, 0, 1, 0, 32, .ro, 0, .commit, 0, 4294967295, 0, true, 0, 0, []⟩
def LINK_MAC_HI : Row := ⟨0x0B0, 1, 0x04C, 0, 1, 0, 16, .ro, 0, .commit, 0, 65535, 0, true, 0, 0, []⟩
def LINK_IP4 : Row := ⟨0x0B0, 1, 0x050, 0, 1, 0, 32, .rws, 0, .idle, 0, 4294967295, 0, false, 0, 0, []⟩
def LINK_IP4_MASK : Row := ⟨0x0B0, 1, 0x054, 0, 1, 0, 32, .rws, 0, .idle, 0, 4294967295, 0, false, 0, 0, []⟩
def LINK_IP4_GW : Row := ⟨0x0B0, 1, 0x058, 0, 1, 0, 32, .rws, 0, .idle, 0, 4294967295, 0, false, 0, 0, []⟩
def LINK_IP4_CUR : Row := ⟨0x0B0, 1, 0x05C, 0, 1, 0, 32, .ro, 0, .commit, 0, 4294967295, 0, false, 0, 0, []⟩
def LINK_IP6_j : Row := ⟨0x0B0, 1, 0x060, 4, 4, 0, 32, .rws, 0, .idle, 0, 4294967295, 0, false, 0, 0, []⟩
def LINK_DOWN_CNT : Row := ⟨0x0B0, 1, 0x070, 0, 1, 0, 16, .ro, 0, .commit, 0, 65535, 0, false, 0, 0, []⟩
def LINK_LAST_DOWN_MS : Row := ⟨0x0B0, 1, 0x070, 0, 1, 16, 16, .ro, 0, .commit, 0, 65535, 0, false, 0, 0, []⟩
def LINK_RX_DROP : Row := ⟨0x0B0, 1, 0x074, 0, 1, 0, 32, .ro, 0, .commit, 0, 4294967295, 0, false, 0, 0, []⟩

/-! R417, 12_host_link.md -/
def POE_CLASS_REQ : Row := ⟨0x0B1, 1, 0x040, 0, 1, 0, 4, .ro, 8, .commit, 0, 15, 0, true, 0, 3, [8, 8, 6]⟩
def POE_CLASS_GRANT : Row := ⟨0x0B1, 1, 0x040, 0, 1, 4, 4, .ro, 0, .commit, 0, 15, 0, false, 0, 0, []⟩
def POE_STAT_TYPE4 : Row := ⟨0x0B1, 1, 0x040, 0, 1, 8, 1, .ro, 1, .commit, 0, 1, 0, true, 0, 3, [1, 1, 0]⟩
def POE_STAT_ACLASS : Row := ⟨0x0B1, 1, 0x040, 0, 1, 9, 1, .ro, 0, .commit, 0, 1, 0, true, 0, 0, []⟩
def POE_STAT_LLDP_AGREED : Row := ⟨0x0B1, 1, 0x040, 0, 1, 10, 1, .ro, 0, .commit, 0, 1, 0, false, 0, 0, []⟩
def POE_STAT_AUX_PRESENT : Row := ⟨0x0B1, 1, 0x040, 0, 1, 11, 1, .ro, 0, .commit, 0, 1, 0, false, 0, 0, []⟩
def POE_STAT_AUX_ACTIVE : Row := ⟨0x0B1, 1, 0x040, 0, 1, 12, 1, .ro, 0, .commit, 0, 1, 0, false, 0, 0, []⟩
def POE_BUDGET_MW : Row := ⟨0x0B1, 1, 0x044, 0, 1, 0, 17, .ro, 0, .commit, 0, 131071, 0, false, 0, 0, []⟩
def POE_REQ_MW : Row := ⟨0x0B1, 1, 0x048, 0, 1, 0, 17, .ro, 0, .commit, 0, 131071, 0, false, 0, 0, []⟩
def POE_ALLOC_MW : Row := ⟨0x0B1, 1, 0x04C, 0, 1, 0, 17, .ro, 0, .commit, 0, 131071, 0, false, 0, 0, []⟩
def POE_RESERVE_MW : Row := ⟨0x0B1, 1, 0x050, 0, 1, 0, 17, .rws, 1500, .idle, 0, 131071, 0, false, 0, 0, []⟩
def POE_DEV_MW : Row := ⟨0x0B1, 1, 0x054, 0, 1, 0, 17, .rws, 14500, .idle, 0, 131071, 0, false, 0, 3, [14500, 11000, 7000]⟩
def POE_EFF_PM : Row := ⟨0x0B1, 1, 0x058, 0, 1, 0, 10, .rws, 900, .idle, 500, 1000, 0, false, 0, 0, []⟩
def POE_AUX_MW : Row := ⟨0x0B1, 1, 0x05C, 0, 1, 0, 17, .rws, 0, .idle, 0, 131071, 0, false, 0, 0, []⟩
def POE_CTRL_AUX_PRIO : Row := ⟨0x0B1, 1, 0x05C, 0, 1, 31, 1, .rws, 1, .idle, 0, 1, 0, false, 0, 0, []⟩
def POE_LLDP_WAIT : Row := ⟨0x0B1, 1, 0x060, 0, 1, 0, 8, .rws, 10, .idle, 0, 255, 0, false, 0, 0, []⟩
def POE_CTRL_LLDP_EN : Row := ⟨0x0B1, 1, 0x060, 0, 1, 8, 1, .rws, 1, .idle, 0, 1, 0, false, 0, 0, []⟩
def POE_SEG_POWERED : Row := ⟨0x0B1, 1, 0x064, 0, 1, 0, 5, .ro, 0, .commit, 0, 31, 0, false, 0, 0, []⟩
def POE_FIRST_DENIED : Row := ⟨0x0B1, 1, 0x064, 0, 1, 8, 5, .ro, 31, .commit, 0, 31, 0, false, 0, 0, []⟩
def POE_SHED_CNT : Row := ⟨0x0B1, 1, 0x068, 0, 1, 0, 16, .ro, 0, .commit, 0, 65535, 0, false, 0, 0, []⟩

/-! R418, 12_host_link.md -/
def PTP_CTRL_EN : Row := ⟨0x0B2, 1, 0x040, 0, 1, 0, 1, .rws, 1, .idle, 0, 1, 0, false, 0, 0, []⟩
def PTP_CTRL_TRANSPORT : Row := ⟨0x0B2, 1, 0x040, 0, 1, 1, 2, .rws, 0, .idle, 0, 2, 0, false, 0, 0, []⟩
def PTP_CTRL_P2P : Row := ⟨0x0B2, 1, 0x040, 0, 1, 3, 1, .rws, 0, .idle, 0, 1, 0, false, 0, 0, []⟩
def PTP_DOMAIN : Row := ⟨0x0B2, 1, 0x040, 0, 1, 8, 8, .rws, 0, .idle, 0, 255, 0, false, 0, 0, []⟩
def PTP_PORT_STATE : Row := ⟨0x0B2, 1, 0x044, 0, 1, 0, 4, .ro, 1, .commit, 0, 15, 0, false, 0, 0, []⟩
def PTP_STAT_FREE : Row := ⟨0x0B2, 1, 0x044, 0, 1, 8, 1, .ro, 1, .commit, 0, 1, 0, false, 0, 0, []⟩
def PTP_STAT_HOLDOVER : Row := ⟨0x0B2, 1, 0x044, 0, 1, 9, 1, .ro, 0, .commit, 0, 1, 0, false, 0, 0, []⟩
def PTP_STAT_STEP_PENDING : Row := ⟨0x0B2, 1, 0x044, 0, 1, 10, 1, .ro, 0, .commit, 0, 1, 0, false, 0, 0, []⟩
def PTP_OFFSET_NS : Row := ⟨0x0B2, 1, 0x048, 0, 1, 0, 32, .ro, 0, .commit, 0, 4294967295, 0, false, 0, 0, []⟩
def PTP_PATH_NS : Row := ⟨0x0B2, 1, 0x04C, 0, 1, 0, 32, .ro, 0, .commit, 0, 4294967295, 0, false, 0, 0, []⟩
def PTP_RATE_PPB : Row := ⟨0x0B2, 1, 0x050, 0, 1, 0, 32, .ro, 0, .commit, 0, 4294967295, 0, false, 0, 0, []⟩
def PTP_LATCH : Row := ⟨0x0B2, 1, 0x054, 0, 1, 0, 1, .wo, 0, .commit, 0, 1, 0, false, 0, 0, []⟩
def PTP_TIME_LO : Row := ⟨0x0B2, 1, 0x058, 0, 1, 0, 32, .ro, 0, .commit, 0, 4294967295, 0, false, 0, 0, []⟩
def PTP_TIME_HI : Row := ⟨0x0B2, 1, 0x05C, 0, 1, 0, 32, .ro, 0, .commit, 0, 4294967295, 0, false, 0, 0, []⟩
def PTP_PASS_RISE_TS_LO : Row := ⟨0x0B2, 1, 0x060, 0, 1, 0, 32, .ro, 0, .commit, 0, 4294967295, 0, false, 0, 0, []⟩
def PTP_PASS_RISE_TS_HI : Row := ⟨0x0B2, 1, 0x064, 0, 1, 0, 32, .ro, 0, .commit, 0, 4294967295, 0, false, 0, 0, []⟩
def PTP_PASS_FALL_TS_LO : Row := ⟨0x0B2, 1, 0x068, 0, 1, 0, 32, .ro, 0, .commit, 0, 4294967295, 0, false, 0, 0, []⟩
def PTP_PASS_FALL_TS_HI : Row := ⟨0x0B2, 1, 0x06C, 0, 1, 0, 32, .ro, 0, .commit, 0, 4294967295, 0, false, 0, 0, []⟩
def PTP_SLEW_PPM : Row := ⟨0x0B2, 1, 0x070, 0, 1, 0, 9, .rw, 100, .commit, 1, 500, 0, false, 0, 0, []⟩
def PTP_GM_ID_LO : Row := ⟨0x0B2, 1, 0x074, 0, 1, 0, 32, .ro, 0, .commit, 0, 4294967295, 0, false, 0, 0, []⟩
def PTP_GM_ID_HI : Row := ⟨0x0B2, 1, 0x078, 0, 1, 0, 32, .ro, 0, .commit, 0, 4294967295, 0, false, 0, 0, []⟩

/-! R419, 12_host_link.md -/
def TYREX_CTL_PORT : Row := ⟨0x0B3, 1, 0x040, 0, 1, 0, 16, .rws, 47100, .idle, 1, 65535, 0, false, 0, 0, []⟩
def TYREX_STREAM_PORT : Row := ⟨0x0B3, 1, 0x040, 0, 1, 16, 16, .rws, 47101, .idle, 1, 65535, 0, false, 0, 0, []⟩
def TYREX_MAX_DGRAM : Row := ⟨0x0B3, 1, 0x044, 0, 1, 0, 14, .rws, 1452, .idle, 512, 9146, 0, false, 0, 0, []⟩
def TYREX_RTO_MS : Row := ⟨0x0B3, 1, 0x048, 0, 1, 0, 14, .rw, 50, .commit, 10, 10000, 0, false, 0, 0, []⟩
def TYREX_CTRL_LOCKED : Row := ⟨0x0B3, 1, 0x04C, 0, 1, 0, 1, .rw, 0, .idle, 0, 1, 0, true, 0, 0, []⟩
def TYREX_PAIR_KEYj : Row := ⟨0x0B3, 1, 0x050, 4, 8, 0, 32, .wo, 0, .commit, 0, 4294967295, 0, false, 0, 0, []⟩
def TYREX_SESS_STATE : Row := ⟨0x0B3, 1, 0x070, 0, 1, 0, 2, .ro, 0, .commit, 0, 3, 0, false, 0, 0, []⟩
def TYREX_SESS_ID : Row := ⟨0x0B3, 1, 0x074, 0, 1, 0, 32, .ro, 0, .commit, 0, 4294967295, 0, false, 0, 0, []⟩
def TYREX_EPOCH : Row := ⟨0x0B3, 1, 0x078, 0, 1, 0, 16, .ro, 0, .commit, 0, 65535, 0, true, 0, 0, []⟩
def TYREX_CREDIT_LIMIT : Row := ⟨0x0B3, 1, 0x07C, 0, 1, 0, 32, .ro, 0, .commit, 0, 4294967295, 0, false, 0, 0, []⟩
def TYREX_SENT_UNITS : Row := ⟨0x0B3, 1, 0x080, 0, 1, 0, 32, .ro, 0, .commit, 0, 4294967295, 0, false, 0, 0, []⟩
def TYREX_CTL_NEXT : Row := ⟨0x0B3, 1, 0x084, 0, 1, 0, 32, .ro, 0, .commit, 0, 4294967295, 0, false, 0, 0, []⟩
def TYREX_AUTH_FAIL : Row := ⟨0x0B3, 1, 0x088, 0, 1, 0, 16, .ro, 0, .commit, 0, 65535, 0, false, 0, 0, []⟩
def TYREX_DROP : Row := ⟨0x0B3, 1, 0x088, 0, 1, 16, 16, .ro, 0, .commit, 0, 65535, 0, false, 0, 0, []⟩
def TYREX_Cn_SENT : Row := ⟨0x0B3, 1, 0x0A0, 8, 4, 0, 32, .ro, 0, .commit, 0, 4294967295, 0, false, 0, 0, []⟩
def TYREX_Cn_RETX : Row := ⟨0x0B3, 1, 0x0A4, 8, 4, 0, 32, .ro, 0, .commit, 0, 4294967295, 0, false, 0, 0, []⟩
def TYREX_TABLE_STAT : Row := ⟨0x0B3, 1, 0x0C0, 0, 1, 0, 3, .ro, 0, .commit, 0, 7, 0, false, 0, 0, []⟩
def TYREX_TABLE_TYPE : Row := ⟨0x0B3, 1, 0x0C0, 0, 1, 8, 8, .ro, 0, .commit, 0, 255, 0, false, 0, 0, []⟩

/-! R441, 13_primer_calibration.md -/
def CAL_CTRL_AUTO_EN : Row := ⟨0x0C0, 1, 0x040, 0, 1, 0, 1, .rws, 1, .idle, 0, 1, 0, false, 0, 0, []⟩
def CAL_CTRL_SHUT_AUTO : Row := ⟨0x0C0, 1, 0x040, 0, 1, 1, 1, .rws, 1, .idle, 0, 1, 0, false, 0, 0, []⟩
def CAL_CTRL_GAP_EN : Row := ⟨0x0C0, 1, 0x040, 0, 1, 2, 1, .rws, 0, .idle, 0, 1, 0, false, 0, 0, []⟩
def CAL_REQ : Row := ⟨0x0C0, 1, 0x044, 0, 1, 0, 5, .w1s, 0, .commit, 0, 31, 0, false, 0, 0, []⟩
def CAL_CMD_TILE_READY : Row := ⟨0x0C0, 1, 0x044, 0, 1, 8, 1, .wo, 0, .commit, 0, 1, 0, false, 0, 0, []⟩
def CAL_PENDING : Row := ⟨0x0C0, 1, 0x048, 0, 1, 0, 5, .ro, 0, .commit, 0, 31, 0, false, 0, 0, []⟩
def CAL_PENDING_SLICES : Row := ⟨0x0C0, 1, 0x04C, 0, 1, 0, 24, .ro, 0, .commit, 0, 16777215, 0, false, 0, 0, []⟩
def CAL_DT : Row := ⟨0x0C0, 1, 0x050, 0, 1, 0, 8, .rw, 30, .commit, 0, 255, 0, false, 0, 0, []⟩
def CAL_DT_DIE : Row := ⟨0x0C0, 1, 0x050, 0, 1, 8, 8, .rw, 50, .commit, 0, 255, 0, false, 0, 0, []⟩
def CAL_OVERDUE_S : Row := ⟨0x0C0, 1, 0x054, 0, 1, 0, 16, .rw, 3600, .commit, 0, 65535, 0, false, 0, 0, []⟩
def CAL_TILE_ROWr : Row := ⟨0x0C0, 1, 0x058, 4, 5, 0, 14, .rws, 10000, .idle, 1000, 11428, 0, false, 0, 0, []⟩
def CAL_TILE_ID : Row := ⟨0x0C0, 1, 0x06C, 0, 1, 0, 32, .rws, 0, .idle, 0, 4294967295, 0, false, 0, 0, []⟩
def CAL_RETICLE_ID : Row := ⟨0x0C0, 1, 0x070, 0, 1, 0, 32, .rws, 0, .idle, 0, 4294967295, 0, false, 0, 0, []⟩
def CAL_SHUT_CLOSED : Row := ⟨0x0C0, 1, 0x074, 0, 1, 0, 32, .rws, 0, .idle, 0, 4294967295, 0, false, 0, 0, []⟩
def CAL_SHUT_OPEN : Row := ⟨0x0C0, 1, 0x078, 0, 1, 0, 32, .rws, 0, .idle, 0, 4294967295, 0, false, 0, 0, []⟩
def CAL_SHUT_TBL : Row := ⟨0x0C0, 1, 0x07C, 0, 1, 0, 6, .rws, 0, .idle, 0, 63, 0, false, 0, 0, []⟩
def CAL_SHUT_ENT : Row := ⟨0x0C0, 1, 0x07C, 0, 1, 16, 10, .rws, 0, .idle, 0, 1023, 0, false, 0, 0, []⟩
def CAL_AFE_TGT : Row := ⟨0x0C0, 1, 0x080, 0, 1, 0, 11, .rws, 128, .idle, 16, 2047, 0, false, 0, 0, []⟩
def CAL_AFE_MAXSTEP : Row := ⟨0x0C0, 1, 0x080, 0, 1, 16, 8, .rw, 16, .commit, 1, 255, 0, false, 0, 0, []⟩
def CAL_GAIN_MIN : Row := ⟨0x0C0, 1, 0x084, 0, 1, 0, 16, .rw, 8192, .commit, 0, 65535, 0, false, 0, 0, []⟩
def CAL_GAIN_MAX : Row := ⟨0x0C0, 1, 0x084, 0, 1, 16, 16, .rw, 49152, .commit, 0, 65535, 0, false, 0, 0, []⟩
def CAL_DEAD_MAX : Row := ⟨0x0C0, 1, 0x088, 0, 1, 0, 12, .rw, 64, .commit, 0, 4095, 0, false, 0, 0, []⟩
def CAL_GAIN_DRIFT : Row := ⟨0x0C0, 1, 0x088, 0, 1, 16, 8, .rw, 50, .commit, 1, 255, 0, false, 0, 0, []⟩
def CAL_SHD_RESID_MAX : Row := ⟨0x0C0, 1, 0x08C, 0, 1, 0, 10, .rw, 80, .commit, 1, 1023, 0, false, 0, 0, []⟩
def CAL_BASE_TOL : Row := ⟨0x0C0, 1, 0x090, 0, 1, 0, 16, .rw, 2000, .commit, 0, 65535, 0, false, 0, 0, []⟩
def CAL_BASE_RESID_MAX : Row := ⟨0x0C0, 1, 0x090, 0, 1, 16, 16, .rw, 1000, .commit, 0, 65535, 0, false, 0, 0, []⟩
def CAL_STITCH_MAX : Row := ⟨0x0C0, 1, 0x094, 0, 1, 0, 24, .rw, 200000, .commit, 0, 16777215, 0, false, 0, 0, []⟩
def CAL_STITCH_WIN : Row := ⟨0x0C0, 1, 0x094, 0, 1, 24, 8, .rw, 16, .commit, 1, 255, 0, false, 0, 0, []⟩
def CAL_COLOUR_MAX : Row := ⟨0x0C0, 1, 0x098, 0, 1, 0, 16, .rw, 1024, .commit, 0, 65535, 0, false, 0, 0, []⟩
def CAL_RUN_TBL : Row := ⟨0x0C0, 1, 0x098, 0, 1, 16, 6, .rws, 0, .idle, 0, 63, 0, false, 0, 0, []⟩
def CAL_RUN_ENT : Row := ⟨0x0C0, 1, 0x098, 0, 1, 22, 10, .rws, 0, .idle, 0, 1023, 0, false, 0, 0, []⟩
def CAL_CHART_BASE_LO : Row := ⟨0x0C0, 1, 0x09C, 0, 1, 0, 32, .rws, 0, .idle, 0, 4294967295, 3, false, 0, 0, []⟩
def CAL_CHART_BASE_HI : Row := ⟨0x0C0, 1, 0x0A0, 0, 1, 0, 32, .rws, 0, .idle, 0, 4294967295, 0, false, 0, 0, []⟩
def CAL_STAT_RUNNING : Row := ⟨0x0C0, 1, 0x0A4, 0, 1, 0, 1, .ro, 0, .commit, 0, 1, 0, false, 0, 0, []⟩
def CAL_STAT_KIND : Row := ⟨0x0C0, 1, 0x0A4, 0, 1, 1, 3, .ro, 0, .commit, 0, 7, 0, false, 0, 0, []⟩
def CAL_STAT_OVERDUE : Row := ⟨0x0C0, 1, 0x0A4, 0, 1, 4, 1, .w1c, 0, .commit, 0, 1, 0, false, 0, 0, []⟩
def CAL_STAT_RECOVERY : Row := ⟨0x0C0, 1, 0x0A4, 0, 1, 5, 1, .ro, 0, .commit, 0, 1, 0, false, 0, 0, []⟩
def CAL_STAT_UNSTORED : Row := ⟨0x0C0, 1, 0x0A4, 0, 1, 6, 1, .w1c, 0, .commit, 0, 1, 0, false, 0, 0, []⟩
def CAL_STAT_GAP : Row := ⟨0x0C0, 1, 0x0A4, 0, 1, 7, 1, .ro, 0, .commit, 0, 1, 0, false, 0, 0, []⟩
def CAL_STAT_QF_VALID : Row := ⟨0x0C0, 1, 0x0A4, 0, 1, 8, 1, .ro, 1, .commit, 0, 1, 0, false, 0, 0, []⟩
def CAL_STAT_LAST_FAIL : Row := ⟨0x0C0, 1, 0x0A4, 0, 1, 9, 1, .w1c, 0, .commit, 0, 1, 0, false, 0, 0, []⟩
def CAL_FAIL_INFO : Row := ⟨0x0C0, 1, 0x0A8, 0, 1, 0, 32, .ro, 0, .commit, 0, 4294967295, 0, false, 0, 0, []⟩
def CAL_COUNT : Row := ⟨0x0C0, 1, 0x0AC, 0, 1, 0, 32, .ro, 0, .commit, 0, 4294967295, 0, true, 0, 0, []⟩
def CAL_LAST_TIME_LO : Row := ⟨0x0C0, 1, 0x0B0, 0, 1, 0, 32, .ro, 0, .commit, 0, 4294967295, 0, true, 0, 0, []⟩
def CAL_LAST_TIME_HI : Row := ⟨0x0C0, 1, 0x0B4, 0, 1, 0, 32, .ro, 0, .commit, 0, 4294967295, 0, true, 0, 0, []⟩
def CAL_QF_SHD_k : Row := ⟨0x0C0, 1, 0x0C0, 4, 24, 0, 16, .ro, 0, .commit, 0, 65535, 0, false, 0, 0, []⟩
def CAL_QF_BASE_k : Row := ⟨0x0C0, 1, 0x0C0, 4, 24, 16, 16, .ro, 0, .commit, 0, 65535, 0, false, 0, 0, []⟩
def CAL_QF_STITCH_j : Row := ⟨0x0C0, 1, 0x120, 4, 23, 0, 16, .ro, 0, .commit, 0, 65535, 0, false, 0, 0, []⟩
def CAL_QF_COLOUR_MAX : Row := ⟨0x0C0, 1, 0x180, 0, 1, 0, 16, .ro, 0, .commit, 0, 65535, 0, false, 0, 0, []⟩
def CAL_QF_COLOUR_MEAN : Row := ⟨0x0C0, 1, 0x180, 0, 1, 16, 16, .ro, 0, .commit, 0, 65535, 0, false, 0, 0, []⟩
def CAL_DIGEST_w : Row := ⟨0x0C0, 1, 0x1C0, 4, 8, 0, 32, .ro, 0, .commit, 0, 4294967295, 0, false, 0, 0, []⟩
def CAL_SLCk_T_SHD : Row := ⟨0x0C0, 1, 0x1E0, 4, 24, 0, 16, .ro, 0, .commit, 0, 65535, 0, true, 0, 0, []⟩
def CAL_SLCk_T_AFE : Row := ⟨0x0C0, 1, 0x1E0, 4, 24, 16, 16, .ro, 0, .commit, 0, 65535, 0, true, 0, 0, []⟩

/-! R467, 14_health_spares.md -/
def MON_T_WARN : Row := ⟨0x004, 1, 0x040, 0, 1, 0, 8, .rw, 100, .commit, 60, 120, 0, false, 0, 0, []⟩
def MON_T_CRIT : Row := ⟨0x004, 1, 0x040, 0, 1, 8, 8, .rw, 110, .commit, 0, 255, 0, false, 0, 0, []⟩
def MON_V_WIN : Row := ⟨0x004, 1, 0x040, 0, 1, 16, 8, .rw, 50, .commit, 10, 100, 0, false, 0, 0, []⟩
def MON_PM_MIN : Row := ⟨0x004, 1, 0x044, 0, 1, 0, 10, .rw, 100, .commit, 0, 1023, 0, false, 0, 0, []⟩
def MON_T_ALARM : Row := ⟨0x004, 1, 0x048, 0, 1, 0, 1, .ro, 0, .commit, 0, 1, 0, false, 0, 0, []⟩
def MON_V_ALARM : Row := ⟨0x004, 1, 0x04C, 0, 1, 0, 16, .ro, 0, .commit, 0, 65535, 0, false, 0, 0, []⟩
def MON_PM_ALARM : Row := ⟨0x004, 1, 0x04C, 0, 1, 16, 6, .ro, 0, .commit, 0, 63, 0, false, 0, 0, []⟩
def MON_T_FAILED : Row := ⟨0x004, 1, 0x050, 0, 1, 0, 32, .ro, 0, .commit, 0, 4294967295, 0, false, 0, 0, []⟩
def MON_T_PEAK : Row := ⟨0x004, 1, 0x054, 0, 1, 0, 16, .ro, 0, .commit, 0, 65535, 0, false, 0, 0, []⟩
def MON_Ti : Row := ⟨0x004, 1, 0x080, 4, 32, 0, 16, .ro, 0, .commit, 0, 65535, 0, false, 0, 0, []⟩
def MON_Ti_VALID : Row := ⟨0x004, 1, 0x080, 4, 32, 16, 1, .ro, 0, .commit, 0, 1, 0, false, 0, 0, []⟩
def MON_Ti_SUBST : Row := ⟨0x004, 1, 0x080, 4, 32, 17, 1, .ro, 0, .commit, 0, 1, 0, false, 0, 0, []⟩
def MON_Vv : Row := ⟨0x004, 1, 0x100, 4, 16, 0, 16, .ro, 0, .commit, 0, 65535, 0, false, 0, 0, []⟩
def MON_Vv_NOM : Row := ⟨0x004, 1, 0x100, 4, 16, 16, 16, .ro, 0, .commit, 0, 65535, 0, false, 0, 1, [750, 750, 750, 800, 1800, 1800, 900, 1800, 1800, 1050, 900, 500, 1800, 3300, 800, 12000]⟩
def MON_PMc : Row := ⟨0x004, 1, 0x140, 4, 6, 0, 10, .ro, 0, .commit, 0, 1023, 0, false, 0, 0, []⟩

/-! R468, 14_health_spares.md -/
def HK_CTRL_REF_EN : Row := ⟨0x005, 1, 0x040, 0, 1, 0, 1, .rw, 0, .commit, 0, 1, 0, false, 0, 0, []⟩
def HK_CTRL_RUN : Row := ⟨0x005, 1, 0x040, 0, 1, 1, 1, .rw, 0, .commit, 0, 1, 0, false, 0, 0, []⟩
def HK_REF_READY : Row := ⟨0x005, 1, 0x040, 0, 1, 2, 1, .ro, 0, .commit, 0, 1, 0, false, 0, 0, []⟩
def HK_STAT_LUT_ZERO : Row := ⟨0x005, 1, 0x040, 0, 1, 3, 1, .ro, 1, .commit, 0, 1, 0, false, 0, 0, []⟩
def HK_SEQ_PERIOD : Row := ⟨0x005, 1, 0x044, 0, 1, 0, 16, .rw, 1000, .commit, 0, 65535, 0, false, 0, 0, []⟩
def HK_SEQ_EN : Row := ⟨0x005, 1, 0x044, 0, 1, 16, 16, .rw, 0, .commit, 0, 65535, 0, false, 0, 0, []⟩
def HK_URG_ENTRY : Row := ⟨0x005, 1, 0x048, 0, 1, 0, 4, .rw, 0, .commit, 0, 15, 0, false, 0, 0, []⟩
def HK_URG_ON_PASS : Row := ⟨0x005, 1, 0x048, 0, 1, 4, 1, .rw, 0, .commit, 0, 1, 0, false, 0, 0, []⟩
def HK_URG_CMD : Row := ⟨0x005, 1, 0x048, 0, 1, 8, 1, .wo, 0, .commit, 0, 1, 0, false, 0, 0, []⟩
def HK_URG_RESULT : Row := ⟨0x005, 1, 0x04C, 0, 1, 0, 16, .ro, 0, .commit, 0, 65535, 0, false, 0, 0, []⟩
def HK_URG_TS_LO : Row := ⟨0x005, 1, 0x050, 0, 1, 0, 32, .ro, 0, .commit, 0, 4294967295, 0, false, 0, 0, []⟩
def HK_URG_TS_HI : Row := ⟨0x005, 1, 0x054, 0, 1, 0, 32, .ro, 0, .commit, 0, 4294967295, 0, false, 0, 0, []⟩
def HK_URG_LOST : Row := ⟨0x005, 1, 0x058, 0, 1, 0, 16, .ro, 0, .commit, 0, 65535, 0, false, 0, 0, []⟩
def HK_SEQ_LATE : Row := ⟨0x005, 1, 0x058, 0, 1, 16, 16, .ro, 0, .commit, 0, 65535, 0, false, 0, 0, []⟩
def HK_SEQe_SRC : Row := ⟨0x005, 1, 0x080, 8, 16, 0, 6, .rw, 50, .commit, 0, 51, 0, false, 0, 0, []⟩
def HK_SEQe_SAMP : Row := ⟨0x005, 1, 0x080, 8, 16, 8, 4, .rw, 0, .commit, 0, 8, 0, false, 0, 0, []⟩
def HK_SEQe_AVG : Row := ⟨0x005, 1, 0x080, 8, 16, 12, 3, .rw, 0, .commit, 0, 7, 0, false, 0, 0, []⟩
def HK_SEQe_FMT : Row := ⟨0x005, 1, 0x080, 8, 16, 16, 2, .rw, 0, .commit, 0, 2, 0, false, 0, 0, []⟩
def HK_RESe : Row := ⟨0x005, 1, 0x084, 8, 16, 0, 16, .ro, 0, .commit, 0, 65535, 0, false, 0, 0, []⟩
def HK_RESe_VALID : Row := ⟨0x005, 1, 0x084, 8, 16, 16, 1, .ro, 0, .commit, 0, 1, 0, false, 0, 0, []⟩
def HK_RESe_OVR : Row := ⟨0x005, 1, 0x084, 8, 16, 17, 1, .ro, 0, .commit, 0, 1, 0, false, 0, 0, []⟩
def HK_RESe_STALE : Row := ⟨0x005, 1, 0x084, 8, 16, 18, 1, .ro, 1, .commit, 0, 1, 0, false, 0, 0, []⟩
def HK_BRb_GAIN : Row := ⟨0x005, 1, 0x100, 32, 2, 0, 3, .rw, 0, .commit, 0, 7, 0, false, 0, 0, []⟩
def HK_BRb_EXC_5V : Row := ⟨0x005, 1, 0x100, 32, 2, 3, 1, .rw, 0, .commit, 0, 1, 0, false, 0, 0, []⟩
def HK_BRb_REVERSE : Row := ⟨0x005, 1, 0x100, 32, 2, 4, 1, .rw, 0, .commit, 0, 1, 0, false, 0, 0, []⟩
def HK_BRb_EN : Row := ⟨0x005, 1, 0x100, 32, 2, 5, 1, .rw, 0, .commit, 0, 1, 0, false, 0, 0, []⟩
def HK_BRb_DEC : Row := ⟨0x005, 1, 0x100, 32, 2, 8, 8, .rw, 16, .commit, 1, 64, 0, false, 0, 0, []⟩
def HK_BRb_REV_MS : Row := ⟨0x005, 1, 0x100, 32, 2, 16, 10, .rw, 100, .commit, 5, 1000, 0, false, 0, 0, []⟩
def HK_BRb_RATIO : Row := ⟨0x005, 1, 0x104, 32, 2, 0, 32, .ro, 0, .commit, 0, 4294967295, 0, false, 0, 0, []⟩
def HK_BRb_STAT_VALID : Row := ⟨0x005, 1, 0x108, 32, 2, 0, 1, .ro, 0, .commit, 0, 1, 0, false, 0, 0, []⟩
def HK_BRb_STAT_SETTLED : Row := ⟨0x005, 1, 0x108, 32, 2, 1, 1, .ro, 0, .commit, 0, 1, 0, false, 0, 0, []⟩
def HK_BRb_STAT_NOSETTLE : Row := ⟨0x005, 1, 0x108, 32, 2, 2, 1, .w1c, 0, .commit, 0, 1, 0, false, 0, 0, []⟩
def HK_BRb_STAT_SUSPECT : Row := ⟨0x005, 1, 0x108, 32, 2, 3, 1, .ro, 0, .commit, 0, 1, 0, false, 0, 0, []⟩
def HK_BRb_STAT_BROKEN : Row := ⟨0x005, 1, 0x108, 32, 2, 4, 1, .ro, 0, .commit, 0, 1, 0, false, 0, 0, []⟩
def HK_BRb_STAT_NOSENSE : Row := ⟨0x005, 1, 0x108, 32, 2, 5, 1, .ro, 0, .commit, 0, 1, 0, false, 0, 0, []⟩
def HK_BRb_STAT_WIRE : Row := ⟨0x005, 1, 0x108, 32, 2, 8, 2, .ro, 0, .commit, 0, 3, 0, false, 0, 0, []⟩
def HK_BRb_SNS_MV : Row := ⟨0x005, 1, 0x10C, 32, 2, 0, 16, .ro, 0, .commit, 0, 65535, 0, false, 0, 0, []⟩
def HK_THERM_LUT_i : Row := ⟨0x005, 1, 0x200, 4, 65, 0, 16, .rw, 0, .commit, 0, 65535, 0, false, 0, 0, []⟩

/-! R469, 14_health_spares.md -/
def SPARE_CTRL_LANE_EN : Row := ⟨0x0C8, 1, 0x040, 0, 1, 0, 1, .rws, 1, .idle, 0, 1, 0, false, 0, 0, []⟩
def SPARE_CTRL_RETIRE_EN : Row := ⟨0x0C8, 1, 0x040, 0, 1, 1, 1, .rws, 1, .idle, 0, 1, 0, false, 0, 0, []⟩
def SPARE_CTRL_RETEST_EN : Row := ⟨0x0C8, 1, 0x040, 0, 1, 2, 1, .rw, 1, .commit, 0, 1, 0, false, 0, 0, []⟩
def SPARE_LANE_VISIT : Row := ⟨0x0C8, 1, 0x044, 0, 1, 0, 16, .rw, 4096, .commit, 256, 65535, 0, false, 0, 0, []⟩
def SPARE_DRAM_CE_THR : Row := ⟨0x0C8, 1, 0x048, 0, 1, 0, 16, .rw, 64, .commit, 1, 65535, 0, false, 0, 0, []⟩
def SPARE_LED_WARN_KH : Row := ⟨0x0C8, 1, 0x048, 0, 1, 16, 16, .rw, 30, .commit, 0, 65535, 0, false, 0, 0, []⟩
def SPARE_NOR_ERASE_MAX : Row := ⟨0x0C8, 1, 0x04C, 0, 1, 0, 32, .rw, 90000, .commit, 1, 4294967295, 0, false, 0, 0, []⟩
def SPARE_LANEc_STATE : Row := ⟨0x0C8, 1, 0x050, 4, 6, 0, 2, .ro, 0, .commit, 0, 3, 0, false, 0, 0, []⟩
def SPARE_LANEc_SLICE : Row := ⟨0x0C8, 1, 0x050, 4, 6, 4, 2, .ro, 0, .commit, 0, 3, 0, false, 0, 0, []⟩
def SPARE_LANEc_PENDING : Row := ⟨0x0C8, 1, 0x050, 4, 6, 8, 1, .ro, 0, .commit, 0, 1, 0, false, 0, 0, []⟩
def SPARE_SLCk_LANE : Row := ⟨0x0C8, 1, 0x070, 4, 24, 0, 2, .ro, 0, .commit, 0, 3, 0, false, 0, 0, []⟩
def SPARE_SLCk_ERRS : Row := ⟨0x0C8, 1, 0x070, 4, 24, 8, 8, .ro, 0, .commit, 0, 255, 0, false, 0, 0, []⟩
def SPARE_SLCk_SRAM_FAIL : Row := ⟨0x0C8, 1, 0x070, 4, 24, 16, 1, .ro, 0, .commit, 0, 1, 0, false, 0, 0, []⟩
def SPARE_SRAM_REPAIRS : Row := ⟨0x0C8, 1, 0x0D0, 0, 1, 0, 8, .ro, 0, .commit, 0, 255, 0, false, 0, 0, []⟩
def SPARE_SRAM_BANKS : Row := ⟨0x0C8, 1, 0x0D0, 0, 1, 8, 4, .ro, 0, .commit, 0, 15, 0, false, 0, 0, []⟩
def SPARE_SRAM_CE : Row := ⟨0x0C8, 1, 0x0D0, 0, 1, 16, 16, .ro, 0, .commit, 0, 65535, 0, false, 0, 0, []⟩
def SPARE_DRAM_PPR : Row := ⟨0x0C8, 1, 0x0D4, 0, 1, 0, 8, .ro, 0, .commit, 0, 255, 0, true, 0, 0, []⟩
def SPARE_DRAM_PPR_LEFT : Row := ⟨0x0C8, 1, 0x0D4, 0, 1, 8, 8, .ro, 0, .commit, 0, 255, 0, true, 0, 0, []⟩
def SPARE_DRAM_SECT_LEFT : Row := ⟨0x0C8, 1, 0x0D4, 0, 1, 16, 3, .ro, 4, .commit, 0, 7, 0, false, 0, 0, []⟩
def SPARE_NOR_SPARES_LEFT : Row := ⟨0x0C8, 1, 0x0D8, 0, 1, 0, 8, .ro, 32, .commit, 0, 255, 0, true, 0, 0, []⟩
def SPARE_WEAR_IDX : Row := ⟨0x0C8, 1, 0x0DC, 0, 1, 0, 16, .rw, 0, .commit, 0, 65535, 0, false, 0, 0, []⟩
def SPARE_WEAR_VAL : Row := ⟨0x0C8, 1, 0x0E0, 0, 1, 0, 32, .ro, 0, .commit, 0, 4294967295, 0, false, 0, 0, []⟩
def SPARE_ADC_RETIRED : Row := ⟨0x0C8, 1, 0x0E4, 0, 1, 0, 9, .ro, 0, .commit, 0, 511, 0, true, 0, 0, []⟩
def SPARE_WEAR_SAVE_MIN : Row := ⟨0x0C8, 1, 0x0E8, 0, 1, 0, 11, .rw, 60, .commit, 5, 1440, 0, false, 0, 0, []⟩

/-! R494, 15_security_boot.md -/
def SEC_BOOT_SLOT : Row := ⟨0x0D0, 1, 0x040, 0, 1, 0, 2, .ro, 0, .commit, 0, 3, 0, true, 0, 0, []⟩
def SEC_BOOT_TRIAL : Row := ⟨0x0D0, 1, 0x040, 0, 1, 2, 1, .ro, 0, .commit, 0, 1, 0, true, 0, 0, []⟩
def SEC_BOOT_REVERTED : Row := ⟨0x0D0, 1, 0x040, 0, 1, 3, 1, .ro, 0, .commit, 0, 1, 0, true, 0, 0, []⟩
def SEC_BOOT_FALLBACK : Row := ⟨0x0D0, 1, 0x040, 0, 1, 4, 1, .ro, 0, .commit, 0, 1, 0, true, 0, 0, []⟩
def SEC_BOOT_FAIL_CAUSE : Row := ⟨0x0D0, 1, 0x040, 0, 1, 8, 4, .ro, 0, .commit, 0, 15, 0, true, 0, 0, []⟩
def SEC_BOOT_CNT : Row := ⟨0x0D0, 1, 0x044, 0, 1, 0, 32, .ro, 0, .commit, 0, 4294967295, 0, true, 0, 0, []⟩
def SEC_FW_SVN : Row := ⟨0x0D0, 1, 0x048, 0, 1, 0, 8, .ro, 0, .commit, 0, 255, 0, true, 0, 0, []⟩
def SEC_FUSE_CNT : Row := ⟨0x0D0, 1, 0x048, 0, 1, 8, 8, .ro, 0, .commit, 0, 255, 0, true, 0, 0, []⟩
def SEC_FW_BUILD : Row := ⟨0x0D0, 1, 0x04C, 0, 1, 0, 32, .ro, 0, .commit, 0, 4294967295, 0, true, 0, 0, []⟩
def SEC_DEVID_w : Row := ⟨0x0D0, 1, 0x050, 4, 4, 0, 32, .ro, 0, .commit, 0, 4294967295, 0, true, 0, 0, []⟩
def SEC_FW_MEAS_w : Row := ⟨0x0D0, 1, 0x060, 4, 8, 0, 32, .ro, 0, .commit, 0, 4294967295, 0, true, 0, 0, []⟩
def SEC_STAT_OWNER_SET : Row := ⟨0x0D0, 1, 0x080, 0, 1, 0, 1, .ro, 0, .commit, 0, 1, 0, true, 0, 0, []⟩
def SEC_STAT_FUSE_FAIL : Row := ⟨0x0D0, 1, 0x080, 0, 1, 1, 1, .w1c, 0, .commit, 0, 1, 0, false, 0, 0, []⟩
def SEC_STAT_ID_FAIL : Row := ⟨0x0D0, 1, 0x080, 0, 1, 2, 1, .ro, 0, .commit, 0, 1, 0, false, 0, 0, []⟩
def SEC_STAT_CERT_MISSING : Row := ⟨0x0D0, 1, 0x080, 0, 1, 3, 1, .ro, 0, .commit, 0, 1, 0, false, 0, 0, []⟩
def SEC_STAT_PAIR_LOST : Row := ⟨0x0D0, 1, 0x080, 0, 1, 4, 1, .w1c, 0, .commit, 0, 1, 0, false, 0, 0, []⟩
def SEC_UPD_CMD : Row := ⟨0x0D0, 1, 0x084, 0, 1, 0, 3, .wo, 0, .commit, 0, 7, 0, false, 0, 0, []⟩
def SEC_CMD_OWNER_PROV : Row := ⟨0x0D0, 1, 0x084, 0, 1, 8, 1, .wo, 0, .commit, 0, 1, 0, false, 0, 0, []⟩
def SEC_UPD_LEN : Row := ⟨0x0D0, 1, 0x088, 0, 1, 0, 24, .rw, 0, .commit, 0, 16777215, 0, false, 0, 0, []⟩
def SEC_UPD_DATA : Row := ⟨0x0D0, 1, 0x08C, 0, 1, 0, 32, .wo, 0, .commit, 0, 4294967295, 0, false, 0, 0, []⟩
def SEC_UPD_STAT : Row := ⟨0x0D0, 1, 0x090, 0, 1, 0, 3, .ro, 0, .commit, 0, 7, 0, false, 0, 0, []⟩
def SEC_UPD_CAUSE : Row := ⟨0x0D0, 1, 0x090, 0, 1, 4, 4, .ro, 0, .commit, 0, 15, 0, false, 0, 0, []⟩
def SEC_UPD_TARGET : Row := ⟨0x0D0, 1, 0x090, 0, 1, 8, 1, .ro, 0, .commit, 0, 1, 0, false, 0, 0, []⟩
def SEC_UPD_RCVD : Row := ⟨0x0D0, 1, 0x094, 0, 1, 0, 24, .ro, 0, .commit, 0, 16777215, 0, false, 0, 0, []⟩
def SEC_CTRL_AUTO_CONFIRM : Row := ⟨0x0D0, 1, 0x098, 0, 1, 0, 1, .rw, 0, .commit, 0, 1, 0, false, 0, 0, []⟩
def SEC_WIN_SEL : Row := ⟨0x0D0, 1, 0x0A0, 0, 1, 0, 2, .rw, 0, .commit, 0, 2, 0, false, 0, 0, []⟩
def SEC_WIN_OFS : Row := ⟨0x0D0, 1, 0x0A4, 0, 1, 0, 6, .rw, 0, .commit, 0, 32, 0, false, 0, 0, []⟩
def SEC_QUOTE_ID : Row := ⟨0x0D0, 1, 0x0A8, 0, 1, 0, 32, .ro, 0, .commit, 0, 4294967295, 0, false, 0, 0, []⟩
def SEC_DBG_CHALLENGE_w : Row := ⟨0x0D0, 1, 0x0B0, 4, 4, 0, 32, .ro, 0, .commit, 0, 4294967295, 0, true, 0, 0, []⟩
def SEC_DBG_CMD : Row := ⟨0x0D0, 1, 0x0C0, 0, 1, 0, 2, .wo, 0, .commit, 0, 3, 0, false, 0, 0, []⟩
def SEC_DBG_STAT_UNLOCKED : Row := ⟨0x0D0, 1, 0x0C4, 0, 1, 0, 1, .ro, 0, .commit, 0, 1, 0, false, 0, 0, []⟩
def SEC_DBG_STAT_PERM : Row := ⟨0x0D0, 1, 0x0C4, 0, 1, 1, 3, .ro, 0, .commit, 0, 7, 0, false, 0, 0, []⟩
def SEC_DBG_STAT_CAUSE : Row := ⟨0x0D0, 1, 0x0C4, 0, 1, 8, 4, .ro, 0, .commit, 0, 15, 0, false, 0, 0, []⟩
def SEC_DBG_UNLOCK_CNT : Row := ⟨0x0D0, 1, 0x0C8, 0, 1, 0, 32, .ro, 0, .commit, 0, 4294967295, 0, true, 0, 0, []⟩
def SEC_WIN : Row := ⟨0x0D0, 1, 0x400, 4, 256, 0, 32, .wo, 0, .commit, 0, 4294967295, 0, false, 0, 0, []⟩

/-! R502, 16_registers.md -/
def BLK_ID_TYPE : Row := ⟨0x000, 4096, 0x000, 0, 1, 16, 16, .ro, 0, .commit, 0, 65535, 0, false, 0, 0, []⟩
def BLK_ID_INST : Row := ⟨0x000, 4096, 0x000, 0, 1, 8, 8, .ro, 0, .commit, 0, 255, 0, false, 0, 0, []⟩
def BLK_ID_MAJOR : Row := ⟨0x000, 4096, 0x000, 0, 1, 4, 4, .ro, 1, .commit, 0, 15, 0, false, 0, 0, []⟩
def BLK_ID_MINOR : Row := ⟨0x000, 4096, 0x000, 0, 1, 0, 4, .ro, 0, .commit, 0, 15, 0, false, 0, 0, []⟩
def BLK_CAP_PRESENT : Row := ⟨0x000, 4096, 0x004, 0, 1, 31, 1, .ro, 1, .commit, 0, 1, 0, false, 0, 0, []⟩
def BLK_CAP_SHADOWED : Row := ⟨0x000, 4096, 0x004, 0, 1, 30, 1, .ro, 0, .commit, 0, 1, 0, false, 0, 0, []⟩
def BLK_CAP_IRQ_BITS : Row := ⟨0x000, 4096, 0x004, 0, 1, 16, 8, .ro, 0, .commit, 0, 255, 0, false, 0, 0, []⟩
def BLK_CTRL_ENABLE : Row := ⟨0x000, 4096, 0x008, 0, 1, 0, 1, .rws, 1, .idle, 0, 1, 0, false, 0, 0, []⟩
def BLK_CTRL_SOFT_RESET : Row := ⟨0x000, 4096, 0x008, 0, 1, 1, 1, .wo, 0, .commit, 0, 1, 0, false, 0, 0, []⟩
def BLK_CTRL_FREEZE : Row := ⟨0x000, 4096, 0x008, 0, 1, 2, 1, .rw, 0, .commit, 0, 1, 0, false, 0, 0, []⟩
def BLK_CTRL_CNT_CLEAR : Row := ⟨0x000, 4096, 0x008, 0, 1, 3, 1, .wo, 0, .commit, 0, 1, 0, false, 0, 0, []⟩
def BLK_CTRL_ERR_CLEAR : Row := ⟨0x000, 4096, 0x008, 0, 1, 4, 1, .wo, 0, .commit, 0, 1, 0, false, 0, 0, []⟩
def BLK_STAT_RESETTING : Row := ⟨0x000, 4096, 0x00C, 0, 1, 0, 1, .ro, 0, .commit, 0, 1, 0, false, 0, 0, []⟩
def BLK_STAT_ENABLED : Row := ⟨0x000, 4096, 0x00C, 0, 1, 1, 1, .ro, 1, .commit, 0, 1, 0, false, 0, 0, []⟩
def BLK_STAT_FROZEN : Row := ⟨0x000, 4096, 0x00C, 0, 1, 2, 1, .ro, 0, .commit, 0, 1, 0, false, 0, 0, []⟩
def BLK_STAT_POWERED : Row := ⟨0x000, 4096, 0x00C, 0, 1, 3, 1, .ro, 0, .commit, 0, 1, 0, false, 0, 0, []⟩
def BLK_STAT_ERR_OVW : Row := ⟨0x000, 4096, 0x00C, 0, 1, 4, 1, .ro, 0, .commit, 0, 1, 0, false, 0, 0, []⟩
def IRQ_RAW : Row := ⟨0x000, 4096, 0x010, 0, 1, 0, 32, .w1c, 0, .commit, 0, 4294967295, 0, false, 0, 0, []⟩
def IRQ_EN : Row := ⟨0x000, 4096, 0x014, 0, 1, 0, 32, .rw, 0, .commit, 0, 4294967295, 0, false, 0, 0, []⟩
def IRQ_STAT : Row := ⟨0x000, 4096, 0x018, 0, 1, 0, 32, .ro, 0, .commit, 0, 4294967295, 0, false, 0, 0, []⟩
def IRQ_SET : Row := ⟨0x000, 4096, 0x01C, 0, 1, 0, 32, .wo, 0, .commit, 0, 4294967295, 0, false, 0, 0, []⟩
def ERR_CODE : Row := ⟨0x000, 4096, 0x020, 0, 1, 0, 32, .ro, 0, .commit, 0, 4294967295, 0, false, 0, 0, []⟩
def ERR_INFO : Row := ⟨0x000, 4096, 0x024, 0, 1, 0, 32, .ro, 0, .commit, 0, 4294967295, 0, false, 0, 0, []⟩
def EVT_CNT : Row := ⟨0x000, 4096, 0x028, 0, 1, 0, 32, .ro, 0, .commit, 0, 4294967295, 0, false, 0, 0, []⟩
def SHADOW_CTRL_HOLD : Row := ⟨0x000, 4096, 0x02C, 0, 1, 0, 1, .rw, 0, .commit, 0, 1, 0, false, 0, 0, []⟩
def SHADOW_CTRL_COMMIT : Row := ⟨0x000, 4096, 0x02C, 0, 1, 1, 1, .wo, 0, .commit, 0, 1, 0, false, 0, 0, []⟩
def SHADOW_CTRL_DISCARD : Row := ⟨0x000, 4096, 0x02C, 0, 1, 2, 1, .wo, 0, .commit, 0, 1, 0, false, 0, 0, []⟩
def SHADOW_CTRL_SEL : Row := ⟨0x000, 4096, 0x02C, 0, 1, 4, 10, .rw, 16, .commit, 16, 1023, 0, false, 0, 0, []⟩
def SHADOW_STAT_PENDING : Row := ⟨0x000, 4096, 0x030, 0, 1, 0, 1, .ro, 0, .commit, 0, 1, 0, false, 0, 0, []⟩
def SHADOW_STAT_HELD : Row := ⟨0x000, 4096, 0x030, 0, 1, 1, 1, .ro, 0, .commit, 0, 1, 0, false, 0, 0, []⟩
def SHADOW_STAT_OVERFLOW : Row := ⟨0x000, 4096, 0x030, 0, 1, 2, 1, .w1c, 0, .commit, 0, 1, 0, false, 0, 0, []⟩
def SHADOW_STAT_NEXT : Row := ⟨0x000, 4096, 0x030, 0, 1, 4, 3, .ro, 7, .commit, 0, 7, 0, false, 0, 0, []⟩
def SHADOW_STAT_HELD_CNT : Row := ⟨0x000, 4096, 0x030, 0, 1, 8, 8, .ro, 0, .commit, 0, 255, 0, false, 0, 0, []⟩
def SHADOW_STAT_VAL : Row := ⟨0x000, 4096, 0x034, 0, 1, 0, 32, .ro, 0, .commit, 0, 4294967295, 0, false, 0, 0, []⟩

/-! R512, 16_registers.md -/
def IRQ_SUMw : Row := ⟨0x007, 1, 0x040, 4, 4, 0, 32, .ro, 0, .commit, 0, 4294967295, 0, false, 0, 0, []⟩
def IRQ_PIN_ENw : Row := ⟨0x007, 1, 0x050, 4, 4, 0, 32, .rw, 0, .commit, 0, 4294967295, 0, false, 0, 0, []⟩
def IRQ_EVT_ENw : Row := ⟨0x007, 1, 0x060, 4, 4, 0, 32, .rw, 0, .commit, 0, 4294967295, 0, false, 0, 0, []⟩
def IRQ_CTRL_PIN_EN : Row := ⟨0x007, 1, 0x070, 0, 1, 0, 1, .rw, 1, .commit, 0, 1, 0, false, 0, 0, []⟩
def IRQ_EVT_HOLDOFF : Row := ⟨0x007, 1, 0x070, 0, 1, 8, 8, .rw, 10, .commit, 0, 255, 0, false, 0, 0, []⟩
def IRQ_PIN_STAT : Row := ⟨0x007, 1, 0x074, 0, 1, 0, 1, .ro, 0, .commit, 0, 1, 0, false, 0, 0, []⟩
def IRQ_EVT_MERGED : Row := ⟨0x007, 1, 0x078, 0, 1, 0, 32, .ro, 0, .commit, 0, 4294967295, 0, false, 0, 0, []⟩

/-! R517, 16_registers.md -/
def LOCK_n : Row := ⟨0x006, 1, 0x040, 4, 32, 0, 32, .rw, 0, .commit, 0, 4294967295, 0, false, 0, 0, []⟩
def LOCK_STAT_n_OWNER : Row := ⟨0x006, 1, 0x0C0, 4, 32, 0, 3, .ro, 0, .commit, 0, 7, 0, false, 0, 0, []⟩
def LOCK_STAT_n_BROKEN : Row := ⟨0x006, 1, 0x0C0, 4, 32, 3, 1, .ro, 0, .commit, 0, 1, 0, false, 0, 0, []⟩
def LOCK_STAT_n_GEN : Row := ⟨0x006, 1, 0x0C0, 4, 32, 16, 16, .ro, 0, .commit, 0, 65535, 0, false, 0, 0, []⟩
def LOCK_HELD : Row := ⟨0x006, 1, 0x140, 0, 1, 0, 32, .ro, 0, .commit, 0, 4294967295, 0, false, 0, 0, []⟩
def LOCK_BROKEN_CNT : Row := ⟨0x006, 1, 0x144, 0, 1, 0, 32, .ro, 0, .commit, 0, 4294967295, 0, false, 0, 0, []⟩

/-! R522, 16_registers.md -/
def SYS_TBL_ADDR_LO : Row := ⟨0x000, 1, 0x060, 0, 1, 0, 32, .rw, 0, .commit, 0, 4294967295, 6, false, 0, 0, []⟩
def SYS_TBL_ADDR_HI : Row := ⟨0x000, 1, 0x064, 0, 1, 0, 32, .rw, 0, .commit, 0, 4294967295, 0, false, 0, 0, []⟩
def SYS_TBL_CMD : Row := ⟨0x000, 1, 0x068, 0, 1, 0, 1, .wo, 0, .commit, 0, 1, 0, false, 0, 0, []⟩
def SYS_MGMT_BAD_CNT : Row := ⟨0x000, 1, 0x070, 0, 1, 0, 16, .ro, 0, .commit, 0, 65535, 0, false, 0, 0, []⟩
def SYS_SECTION_CMD : Row := ⟨0x000, 1, 0x074, 0, 1, 0, 1, .wo, 0, .commit, 0, 1, 0, false, 0, 0, []⟩
def SYS_SECTION_PASSES : Row := ⟨0x000, 1, 0x078, 0, 1, 0, 16, .rws, 0, .idle, 0, 65535, 0, false, 0, 0, []⟩
def SYS_SECTION_CNT : Row := ⟨0x000, 1, 0x07C, 0, 1, 0, 32, .ro, 0, .commit, 0, 4294967295, 0, false, 0, 0, []⟩

/-! R523, 16_registers.md -/
def DBG_ADDR_LO : Row := ⟨0x0F0, 1, 0x040, 0, 1, 0, 32, .rw, 0, .commit, 0, 4294967295, 6, false, 0, 0, []⟩
def DBG_ADDR_HI : Row := ⟨0x0F0, 1, 0x044, 0, 1, 0, 32, .rw, 0, .commit, 0, 4294967295, 0, false, 0, 0, []⟩
def DBG_CMD : Row := ⟨0x0F0, 1, 0x048, 0, 1, 0, 2, .wo, 0, .commit, 0, 3, 0, false, 0, 0, []⟩
def DBG_STAT_BUSY : Row := ⟨0x0F0, 1, 0x04C, 0, 1, 0, 1, .ro, 0, .commit, 0, 1, 0, false, 0, 0, []⟩
def DBG_STAT_UE : Row := ⟨0x0F0, 1, 0x04C, 0, 1, 1, 1, .ro, 0, .commit, 0, 1, 0, false, 0, 0, []⟩
def DBG_STAT_ADDR_ERR : Row := ⟨0x0F0, 1, 0x04C, 0, 1, 2, 1, .ro, 0, .commit, 0, 1, 0, false, 0, 0, []⟩
def DBG_DATA_w : Row := ⟨0x0F0, 1, 0x080, 4, 16, 0, 32, .rw, 0, .commit, 0, 4294967295, 0, false, 0, 0, []⟩

/-! R551, 17_power_clocks_reset.md -/
def PWR_DOM_ON_0 : Row := ⟨0x001, 1, 0x040, 0, 1, 0, 32, .ro, 0, .commit, 0, 4294967295, 0, false, 0, 0, []⟩
def PWR_DOM_ON_1 : Row := ⟨0x001, 1, 0x044, 0, 1, 0, 32, .ro, 0, .commit, 0, 4294967295, 0, false, 0, 0, []⟩
def PWR_DOM_ON_2 : Row := ⟨0x001, 1, 0x048, 0, 1, 0, 16, .ro, 0, .commit, 0, 65535, 0, false, 0, 0, []⟩
def PWR_DOM_FAULT_w : Row := ⟨0x001, 1, 0x050, 4, 3, 0, 32, .w1c, 0, .commit, 0, 4294967295, 0, false, 0, 0, []⟩
def PWR_DOM_FORCE_w : Row := ⟨0x001, 1, 0x060, 4, 3, 0, 32, .rw, 0, .commit, 0, 4294967295, 0, false, 0, 0, []⟩
def PWR_RAIL_GOOD : Row := ⟨0x001, 1, 0x070, 0, 1, 0, 12, .ro, 0, .commit, 0, 4095, 0, false, 0, 0, []⟩
def PWR_BUS_GOOD : Row := ⟨0x001, 1, 0x070, 0, 1, 16, 1, .ro, 0, .commit, 0, 1, 0, false, 0, 0, []⟩
def PWR_SEG_STAGGER_MS : Row := ⟨0x001, 1, 0x074, 0, 1, 0, 8, .rws, 20, .idle, 0, 255, 0, false, 0, 0, []⟩
def PWR_DOM_SWITCH_CNT : Row := ⟨0x001, 1, 0x078, 0, 1, 0, 16, .ro, 0, .commit, 0, 65535, 0, false, 0, 0, []⟩

/-! R552, 17_power_clocks_reset.md -/
def CLK_LOCKED : Row := ⟨0x002, 1, 0x040, 0, 1, 0, 11, .ro, 0, .commit, 0, 2047, 0, false, 0, 0, []⟩
def CLK_AON_XTAL : Row := ⟨0x002, 1, 0x040, 0, 1, 11, 1, .ro, 0, .commit, 0, 1, 0, false, 0, 0, []⟩
def CLK_LOST : Row := ⟨0x002, 1, 0x044, 0, 1, 0, 11, .w1c, 0, .commit, 0, 2047, 0, false, 0, 0, []⟩
def CLK_AON_SRC : Row := ⟨0x002, 1, 0x048, 0, 1, 0, 1, .rw, 0, .idle, 0, 1, 0, true, 0, 0, []⟩
def CLK_PTP_FALLBACK : Row := ⟨0x002, 1, 0x048, 0, 1, 8, 1, .ro, 0, .commit, 0, 1, 0, false, 0, 0, []⟩
def CLK_PIX_KHZ : Row := ⟨0x002, 1, 0x04C, 0, 1, 0, 15, .ro, 25000, .commit, 0, 32767, 0, false, 0, 0, []⟩
def CLK_XING_OVR_CNT : Row := ⟨0x002, 1, 0x050, 0, 1, 0, 16, .ro, 0, .commit, 0, 65535, 0, false, 0, 0, []⟩
def CLK_XING_OVR_ID : Row := ⟨0x002, 1, 0x050, 0, 1, 16, 8, .ro, 0, .commit, 0, 255, 0, false, 0, 0, []⟩
def CLK_XING_OVR : Row := ⟨0x002, 1, 0x054, 0, 1, 0, 1, .w1c, 0, .commit, 0, 1, 0, false, 0, 0, []⟩

/-! R553, 17_power_clocks_reset.md -/
def RST_CAUSE : Row := ⟨0x003, 1, 0x040, 0, 1, 0, 4, .ro, 1, .commit, 0, 15, 0, true, 0, 0, []⟩
def RST_CAUSE_AON_LOST : Row := ⟨0x003, 1, 0x040, 0, 1, 8, 1, .ro, 0, .commit, 0, 1, 0, true, 0, 0, []⟩
def RST_FULL_CNT : Row := ⟨0x003, 1, 0x044, 0, 1, 0, 16, .ro, 0, .commit, 0, 65535, 0, true, 0, 0, []⟩
def RST_WDOG_CPU0_CNT : Row := ⟨0x003, 1, 0x048, 0, 1, 0, 16, .ro, 0, .commit, 0, 65535, 0, true, 0, 0, []⟩
def RST_WDOG_CPU1_CNT : Row := ⟨0x003, 1, 0x048, 0, 1, 16, 16, .ro, 0, .commit, 0, 65535, 0, true, 0, 0, []⟩
def RST_CTRL_HOLD_ON_RESET : Row := ⟨0x003, 1, 0x04C, 0, 1, 0, 1, .rw, 1, .commit, 0, 1, 0, true, 0, 0, []⟩
def RST_LAST_TIME_LO : Row := ⟨0x003, 1, 0x050, 0, 1, 0, 32, .ro, 0, .commit, 0, 4294967295, 0, true, 0, 0, []⟩
def RST_LAST_TIME_HI : Row := ⟨0x003, 1, 0x054, 0, 1, 0, 32, .ro, 0, .commit, 0, 4294967295, 0, true, 0, 0, []⟩

/-! R554, 17_power_clocks_reset.md -/
def POE_PD_STATE : Row := ⟨0x0B1, 1, 0x080, 0, 1, 0, 3, .ro, 0, .commit, 0, 7, 0, false, 0, 0, []⟩
def POE_PD_FAULT : Row := ⟨0x0B1, 1, 0x080, 0, 1, 8, 4, .ro, 0, .commit, 0, 15, 0, false, 0, 0, []⟩
def POE_BARRIER_OK : Row := ⟨0x0B1, 1, 0x080, 0, 1, 12, 1, .ro, 0, .commit, 0, 1, 0, false, 0, 0, []⟩
def POE_PD_VIN_MV : Row := ⟨0x0B1, 1, 0x084, 0, 1, 0, 16, .ro, 0, .commit, 0, 65535, 0, false, 0, 0, []⟩
def POE_PD_IIN_MA : Row := ⟨0x0B1, 1, 0x084, 0, 1, 16, 16, .ro, 0, .commit, 0, 65535, 0, false, 0, 0, []⟩
def POE_PD_FAULT_CNT : Row := ⟨0x0B1, 1, 0x088, 0, 1, 0, 16, .ro, 0, .commit, 0, 65535, 0, false, 0, 0, []⟩

/-! R571, 18_package_electrical.md -/
def AFE_SAMPLE_DLY : Row := ⟨0x100, 24, 0x064, 0, 1, 0, 8, .rws, 32, .idle, 0, 255, 0, false, 0, 0, []⟩

/-- The rows of the sys page, by offset. -/
def sysRows : List Row :=
  [SYS_VARIANT_LINK10G, SYS_VARIANT_INS, SYS_VARIANT_TRK, SYS_VARIANT_SPARE_GEN, SYS_VARIANT_AXES, SYS_VARIANT_CLUSTERS, SYS_VARIANT_SLICES, SYS_VARIANT_PART, SYS_MODE_REQ, SYS_MODE_FEED_OWNER, SYS_MODE_CUR, SYS_MODE_CUR_FO] ++
  [SYS_MODE_PENDING, SYS_MODE_ABORTED, SYS_TBL_ADDR_LO, SYS_TBL_ADDR_HI, SYS_TBL_CMD, SYS_MGMT_BAD_CNT, SYS_SECTION_CMD, SYS_SECTION_PASSES, SYS_SECTION_CNT]
/-- The rows of the timing page, by offset. -/
def timingRows : List Row :=
  [TIMING_PCLK_KHZ, TIMING_PB_COMMIT, TIMING_PB_LIVE_EDIT, TIMING_PB_STAT_ACTIVE, TIMING_PB_STAT_PENDING, TIMING_PB_STAT_DIRTY, TIMING_PB_REFUSED, TIMING_PB_STAT_WRITE_LOST, TIMING_LINE_CNT, TIMING_LINE_PERIOD, TIMING_SEG_BASE_LO, TIMING_SEG_BASE_HI] ++
  [TIMING_SEG_SYNC, TIMING_SYNC_FAIL, TIMING_FLOAT_PITCH, TIMING_FLOAT_AVG, TIMING_FLOAT_YAW, TIMING_FLOAT_REV_TOL, TIMING_FLOAT_STILL_CAP, TIMING_SHD_BASE_LO, TIMING_SHD_BASE_HI, TIMING_SHD_SYNC, TIMING_SHD_SYNC_FAIL, TIMING_PB_BANK0] ++
  [TIMING_PB_BANK1]
/-- The rows of the slc pages, by offset. -/
def slcRows : List Row :=
  [SLC_SEG_STAT_VALID, SLC_SEG_STAT_POWERED, SLC_SEG_STAT_LINK_UP, SLC_SEG_STAT_READY, SLC_SEG_STAT_BUDGET_DENIED, SLC_SEG_STAT_ID_MISMATCH, SLC_SEG_STAT_LINK_FAILED, SLC_SEG_STAT_REJECTED, SLC_LINK_RERUN, SLC_LINK_TEMP_POLL, SLC_LINK_RETRIES, SLC_LINK_FAILS] ++
  [SLC_LED_TEMP, SLC_LED_TEMP_VALID, SLC_SEG_MODEL, SLC_SEG_SERIAL, SLC_ILLUM_LINE, SLC_LINK_REJECT_STATUS, SLC_LINK_REJECT_OP, SLC_LINK_REJECT_CNT, SLC_LINK_REJECT_ADDR, SLC_SKIM_BYPASS, SLC_DEAD_LOADED, SLC_SAT_LINES] ++
  [SLC_FLOAT_REV_LINES, SLC_FLOAT_OVERSPEED, SLC_FLOAT_STILL_CAPPED, SLC_FLOAT_RENORM_BLK, SLC_FLOAT_REPAIRED_BLK, SLC_FLOAT_INVALID_BLK, SLC_FLOAT_OLINE, SLC_CHc_TAPM_OFS, SLC_CHc_TAPM_GAIN]
/-- The rows of the afe pages, by offset. -/
def afeRows : List Row :=
  [AFE_CLAMP_MODE, AFE_SPARE_EN, AFE_Z_OPEN_THR, AFE_Z_SHORT_THR, AFE_CLAMP_WIN, AFE_SUSPECT_CLEAR, AFE_SNS_RATIO, AFE_SUP_LO_HOLD, AFE_SUP_MV, AFE_SUP_OK, AFE_SUP_FAULT_LO, AFE_SUP_FAULT_HI] ++
  [AFE_SNS_OPEN, AFE_SUP_SHUTDOWN, AFE_SUP_DEV, AFE_SHADOW_LINES, AFE_DRIFT_OFS_TOL, AFE_DRIFT_GAIN_TOL, AFE_SPARE0_FOR, AFE_SPARE1_FOR, AFE_SPARE0_FAILED, AFE_SPARE1_FAILED, AFE_SPARE_STALE, AFE_SPARE_EXHAUSTED] ++
  [AFE_SHADOW_CH0, AFE_SHADOW_CH1, AFE_SUSPECT_CNT, AFE_SWAP_CNT, AFE_SAMPLE_DLY, AFE_CHc_PGA, AFE_CHc_EQ, AFE_CHc_OFS, AFE_CHc_ASSIGNED, AFE_CHc_TRIM, AFE_CHc_ZEST, AFE_CHc_STATE] ++
  [AFE_CHc_ADC, AFE_CHc_ZEST_VALID]
/-- The rows of the mc page, by offset. -/
def mcRows : List Row :=
  [MC_STAT_TRAINED, MC_STAT_RETRAIN_DUE, MC_STAT_RETRAIN_ACTIVE, MC_STAT_HOT, MC_ADDR_ERR, MC_ADDR_ERR_INPUT, MC_RETRAIN_REQ, MC_RETRAIN_CNT, MC_RETRAIN_DEFER, MC_SCRUB_INTERVAL, MC_SCRUB_EN, MC_SCRUB_ADDR_LO] ++
  [MC_SCRUB_ADDR_HI, MC_SCRUB_PASS_S, MC_SCRUB_PASSES, MC_ECC_CE_CNT, MC_ECC_UE_CNT, MC_ECC_LAST_ADDR_LO, MC_ECC_LAST_ADDR_HI, MC_ECC_LAST_INPUT, MC_ECC_LAST_UE, MC_SECT_RETIRED, MC_ADDR_ERR_ADDR_LO, MC_ADDR_ERR_ADDR_HI] ++
  [MC_RING_BASE_LO, MC_RING_BASE_HI, MC_RING_LINES, MC_RING_SLOT_BYTES, MC_RING_NEED, MC_RING_WAIT_CNT, MC_RING_OVERRUN, MC_RING_OVERRUN_CNT]
/-- The rows of the scrim page, by offset. -/
def scrimRows : List Row :=
  [SCRIM_CTRL_CORR_EN, SCRIM_CTRL_THERM_EN, SCRIM_CTRL_CORR_ROW, SCRIM_CTRL_CORR_CLEAR, SCRIM_CORR_LINES, SCRIM_CORR_MIN, SCRIM_CORR_GAIN, SCRIM_BAR_ALPHA, SCRIM_ANCHOR_NM_LO, SCRIM_ANCHOR_NM_HI, SCRIM_THERMi_SEL, SCRIM_THERMi_EN] ++
  [SCRIM_THERMi_X, SCRIM_STAT_LAG, SCRIM_STAT_THERM_STALE, SCRIM_STAT_SEAM_CLIPPED, SCRIM_STAT_SW_DEFAULT, SCRIM_GEN, SCRIM_OUT_PIXELS]
/-- The rows of the clu pages, by offset. -/
def cluRows : List Row :=
  [CLU_SEGj_ORIGIN_LO, CLU_SEGj_ORIGIN_HI, CLU_SEGj_SCALE, CLU_SEGj_TGT_DIST, CLU_SEAMj_RESID, CLU_SEAMj_CONF, CLU_SEAMj_AGE, CLU_SEAMj_CORR]
/-- The rows of the plumb page, by offset. -/
def plumbRows : List Row :=
  [PLUMB_CTRL_MODE, PLUMB_CTRL_ROW, PLUMB_CTRL_POLARITY, PLUMB_CTRL_LINE_REPORT, PLUMB_THR_HI, PLUMB_THR_LO, PLUMB_MIN_RUN, PLUMB_LINE_EVERY, PLUMB_GAP_MIN, PLUMB_WANDER_LINES, PLUMB_WANDER_LIMIT, PLUMB_SKEW_LIMIT] ++
  [PLUMB_SHEET_CNT, PLUMB_LAST_SKEW, PLUMB_STAT_SHEET_OPEN, PLUMB_STAT_EDGE_OVF, PLUMB_STAT_SKEW_UNDER, LAP_CTRL_EN, LAP_CTRL_STEP_EN, LAP_CTRL_LEN_EN, LAP_CTRL_DFIN_EN, LAP_CTRL_DFIN_POL, LAP_CTRL_HALT, LAP_DIST] ++
  [LAP_RUN, LAP_STEP, LAP_CONF_THR, LAP_SHEET_NM, LAP_LEN_TOL, LAP_DFIN_DEB, LAP_STAT_DF, LAP_STAT_CUES, LAP_STAT_CONF, LAP_SLICE_MASK, LAP_DF_CNT, LAP_SLCk_CONF] ++
  [LAP_SLCk_CUES]
/-- The rows of the trk page, by offset. -/
def trkRows : List Row :=
  [TRK_CTRL_EN, TRK_CTRL_FB_SRC, TRK_CTRL_REPORT_EN, TRK_CTRL_PASS_REPORT, TRK_CTRL_FLUSH, TRK_CTRL_SCALE_RESET, TRK_WIN_MIN, TRK_TEX_MIN, TRK_OUTLIER_NM, TRK_REACQ_LINES, TRK_VEL_LINES, TRK_XREF_PX] ++
  [TRK_SCALE_LINES, TRK_EVT_MIN_LINES, TRK_REPORT_EVERY, TRK_CREEP_VMAX, TRK_CAL_RUNS, TRK_CAL_SPACING_NM, TRK_CAL_BARS, TRK_POS_LO, TRK_POS_HI, TRK_VEL, TRK_LAT, TRK_YAW] ++
  [TRK_CONF, TRK_SRC, TRK_STAT_PRIMED, TRK_STAT_HELD, TRK_STAT_YAW_HELD, TRK_STAT_FALLBACK, TRK_GOOD_WIN, TRK_FB_LINES, TRK_FB_EPISODES, TRK_FB_SCALE, TRK_REACQ_STEP, TRK_FIT_RMS] ++
  [TRK_SCALE_REJ, TRK_REJ_FLAG, TRK_REJ_EDGE, TRK_REJ_AMBIG, TRK_REJ_LOWCONF, TRK_REJ_OUTLIER, TRK_BASE_k, TRK_SEGk_CONF, TRK_SEGk_GOOD, TRK_SEGk_STAT_HIST_VALID, TRK_SEGk_STAT_BASE_RANGE, TRK_SEGk_Y] ++
  [TRK_SEGk_CAL]
/-- The rows of the ins page, by offset. -/
def insRows : List Row :=
  [INS_CTRL_EN, INS_CTRL_LAT_FOLLOW, INS_CTRL_USE_REPAIRED, INS_CTRL_ATTRIB_EN, INS_CTRL_FOLD_EN, INS_CTRL_TRIM_APPLY, INS_CTRL_HEALTH_AT_PAGE, INS_CTRL_COLPROF, INS_CTRL_HEALTH_REQ, INS_CTRL_NOZ_CLEAR, INS_CTRL_FOLD_CLEAR, INS_CTRL_TRIM_CLEAR] ++
  [INS_CTRL_EVT_EN, INS_ROWPROF_EVERY, INS_FB_WEIGHT, INS_BAND_THR, INS_BAND_ZONES, INS_BAND_HALF, INS_BAND_MAXLEN, INS_COL_PX, INS_COL_LINES, INS_STREAK_THR, INS_SPOT_THR, INS_DRIFT_THR] ++
  [INS_DRIFT_LINES, INS_EVT_RATE, INS_CROP_EN, INS_CROP_SIZE, INS_CROP_BASE_LO, INS_CROP_BASE_HI, INS_NOZ_BASE_LO, INS_NOZ_BASE_HI, INS_NOZ_HEADS, INS_NOZ_PLANES, INS_NOZ_COUNT, INS_NOZ_MIN_D] ++
  [INS_NOZ_WIN_LOG2, INS_NOZ_MISS_THR, INS_NOZ_WEAK_THR, INS_NOZ_DEFL_THR, INS_NOZ_CONFIRM, INS_FOLD_HEAD_NM, INS_FOLD_DECAY, INS_FOLD_JOIN_W, INS_TRIM_GAIN, INS_TRIM_STEP_MAX, INS_TRIM_MAX, INS_TRIM_NM] ++
  [INS_STAT_MAP_VALID, INS_STAT_DROP_VALID, INS_STAT_CC_DEFAULT, INS_STAT_FOLD_ACTIVE, INS_STAT_DROP_STALE, INS_LINES_CHECKED, INS_LINES_NOREF, INS_EVT_SENT, INS_EVT_SUPPRESSED, INS_NOZ_MISSING, INS_NOZ_WEAK, INS_NOZ_DEFL] ++
  [INS_SPOT_OVF, INS_FOLD_ADV]
/-- The rows of the mot page, by offset. -/
def motRows : List Row :=
  [MOT_CTRL_ADV_CHAIN, MOT_CTRL_ADV_TRIG, MOT_CTRL_ADV_EXIT, MOT_CTRL_POS_SRC, MOT_STAT_TBL_HELD, MOT_FEED_SCALE, MOT_ENCe_SCALE, MOT_ENCe_INV, MOT_ENCe_FILT, MOT_ENCe_CNT_LO, MOT_ENCe_CNT_HI, MOT_ENC0_ERR] ++
  [MOT_ENC1_ERR, MOT_LIMi_AXIS, MOT_LIMi_ROLE, MOT_LIMi_POL, MOT_LIMi_DEB, MOT_LIM_QUAL, MOT_LIM_RAW, MOT_STAT_ESTOP, MOT_LIM_TRIP, MOT_ADV_LEN, MOT_ADV_CREEP, MOT_ADV_DEADLINE] ++
  [MOT_ADV_ID, MOT_ADV_PUSH, MOT_ADV_FLUSH, MOT_ADV_QUEUED, MOT_ADV_RUNNING, MOT_ADV_ACC_TBL, MOT_ADV_DEC_TBL, MOT_ADV_CRUISE_ENT, MOT_ADV_SETTLE_US, MOT_ADV_SETTLE_LINES, MOT_ADV_OVER_NM, MOT_ADV_LAST_ERR] ++
  [MOT_ADV_CNT, MOT_ADV_LATE_CNT, MOT_ADV_FB_CNT, MOT_GRPg_MEMBERS, MOT_GRPg_LEAD, MOT_GRPg_DDA_DEN, MOT_GRP_START, MOT_PASS_SYNC_POL, MOT_PASS_READY_POL, MOT_PASS_SYNC_DEB, MOT_HOLD_SW, MOT_HOLD_FAULT] ++
  [MOT_HOLD_RESERVE, MOT_HOLD_OUT, MOT_PASS_CNT, MOT_PASS_PROTO_ERR, MOT_AON_RETAIN_VALID]
/-- The rows of the axis pages, by offset. -/
def axisRows : List Row :=
  [MOT_AXa_CMD, MOT_AXa_CMD_TBL, MOT_AXa_CMD_USE_TBL, MOT_AXa_MOVE_DIR, MOT_AXa_MOVE_BUDGET_EN, MOT_AXa_MOVE_VELOCITY, MOT_AXa_EN, MOT_AXa_BUDGET, MOT_AXa_STOP_TBL, MOT_AXa_VEL_SEL_TBL, MOT_AXa_VEL_SEL_ENT, MOT_AXa_SS_INT] ++
  [MOT_AXa_STEP_HIGH, MOT_AXa_DIR_SETUP, MOT_AXa_STEP_POL, MOT_AXa_DIR_INV, MOT_AXa_USTEP_CYCLE, MOT_AXa_DRV_HOME_IDX, MOT_AXa_REPHASE_INT, MOT_AXa_LIM_STOP, MOT_AXa_HOME_IN, MOT_AXa_HOME_CFG_ADOPT, MOT_AXa_HOME_DIR, MOT_AXa_HOME_TBL] ++
  [MOT_AXa_HOME_ENT, MOT_AXa_HOME_MAX, MOT_AXa_HOME_BACKOFF, MOT_AXa_HOME_POS_LO, MOT_AXa_HOME_POS_HI, MOT_AXa_DDA_NUM, MOT_AXa_POS_LO, MOT_AXa_POS_HI, MOT_AXa_USTEP_IDX, MOT_AXa_STAT_BUSY, MOT_AXa_STAT_HOMED, MOT_AXa_STAT_PHASE_LOST] ++
  [MOT_AXa_STAT_HOME_FAULT, MOT_AXa_STAT_DRV_FAULT, MOT_AXa_STAT_HALTED, MOT_AXa_STAT_CLIPPED, MOT_AXa_STAT_DRV_LOST, MOT_AXa_STAT_SPARED, MOT_AXa_STAT_SUBSTITUTING, MOT_AXa_STAT_GEN_FAULT, MOT_AXa_STAT_BALL_FAULT, MOT_AXa_STAT_SEG, MOT_AXa_LATCH_LO, MOT_AXa_LATCH_HI] ++
  [MOT_AXa_LATCH_FRAC, MOT_AXa_CHATTER, MOT_AXa_SEL_LOST, MOT_AXa_SEGs_LO, MOT_AXa_SEGs_HI, MOT_AXa_SETPOS_LO, MOT_AXa_SETPOS_HI, MOT_AXa_SHADOW]
/-- The rows of the cap page, by offset. -/
def capRows : List Row :=
  [CAP_CTRL_PAGE_MODE, CAP_CTRL_RAW, CAP_CTRL_PACK8, CAP_CTRL_LUT_EN, CAP_CTRL_EXIT, CAP_CTRL_PREV_EN, CAP_CTRL_STOP_AT_END, CAP_CTRL_ROWS, CAP_BIN_X, CAP_PREV_BIN, CAP_X0, CAP_WIDTH] ++
  [CAP_LEAD_NM, CAP_TRAIL_NM, CAP_MAX_LEN_NM, CAP_CMD, CAP_BUF_PAGES, CAP_WM_LOW, CAP_WM_HIGH, CAP_WM_STOP, CAP_MARGIN, CAP_START_RUNG, CAP_TOP_RUNG, CAP_RUNG_HOLD] ++
  [CAP_HIGH_HOLD, CAP_UP_CREDIT, CAP_BACKUP_NM, CAP_BACKUP_TBL, CAP_BACKUP_ENT, CAP_LEADIN_LINES, CAP_PAUSE_LED_MAX, CAP_LED_STBY, CAP_TAB_L_PIX, CAP_TAB_R_PIX, CAP_TAB_W, CAP_TAB_TOL] ++
  [CAP_STAB_MAX, CAP_STALL_TO, CAP_C0_RESERVE, CAP_STATE, CAP_RUNG, CAP_STAT_PAGE_OPEN, CAP_STAT_STALL, CAP_STAT_LED_UNSTABLE, CAP_STAT_SHORT_LEADIN, CAP_PAUSE_CAUSE, CAP_FILL, CAP_DRAIN_EST] ++
  [CAP_LINE_BYTES, CAP_REENTRY_NM, CAP_PAGE_CNT, CAP_PAUSE_CNT, CAP_SEAM_FB_CNT, CAP_DROP_CNT]
/-- The rows of the arb page, by offset. -/
def arbRows : List Row :=
  [ARB_WIN_CAP, ARB_QUOTA_SUM, ARB_CNT_CLEAR, ARB_WDOG_CNT, ARB_WDOG_LAST, ARB_PREEMPT_REF, ARB_PREEMPT_DBG, ARB_QUOTA_i, ARB_QUOTA_INF_i, ARB_GRANTS_i, ARB_WAITS_i, ARB_MAXWAIT_i] ++
  [ARB_AGE_i]
/-- The rows of the dma page, by offset. -/
def dmaRows : List Row :=
  [DMA_ACTIVE, DMA_DESC_CNT, DMA_ERR_CNT, DMA_BYTES_MB]
/-- The rows of the dmaCh pages, by offset. -/
def dmaChRows : List Row :=
  [DMA_CHc_DESC_LO, DMA_CHc_DESC_HI, DMA_CHc_CMD, DMA_CHc_STATE, DMA_CHc_LAST_CODE, DMA_CHc_LAST_CAUSE, DMA_CHc_CUR_LO, DMA_CHc_CUR_HI, DMA_CHc_RES0, DMA_CHc_RES1, DMA_CHc_RES2, DMA_CHc_FAIL_LO] ++
  [DMA_CHc_FAIL_HI, DMA_CHc_DONE_CNT]
/-- The rows of the hod page, by offset. -/
def hodRows : List Row :=
  [HOD_CTRL_LEG_EN, HOD_CTRL_LEG_CLASS, HOD_SPILL_BASE_LO, HOD_SPILL_BASE_HI, HOD_Cn_PAGES, HOD_FLUSH, HOD_STAT_FALLBACK, HOD_STAT_OVERRUN, HOD_FB_CNT, HOD_Cn_NEXT_SEQ, HOD_Cn_OLDEST_SEQ, HOD_Cn_SEND_SEQ] ++
  [HOD_Cn_HELD_PAGES, HOD_Cn_FREE_PAGES, HOD_Cn_OVR_CNT, HOD_Cn_REWIND_CNT, HOD_Cn_GAP_CNT, HOD_LEG_DATA, HOD_LEG_AVAIL, HOD_LEG_CMD, HOD_LEG_MARK_VALID, HOD_LEG_EMPTY_READ]
/-- The rows of the link page, by offset. -/
def linkRows : List Row :=
  [LINK_ADV, LINK_CTRL_DOWNSHIFT, LINK_CTRL_JUMBO, LINK_CTRL_DHCP, LINK_CTRL_RENEG, LINK_STAT_UP, LINK_STAT_SPEED, LINK_STAT_DOWNSHIFTED, LINK_MAC_LO, LINK_MAC_HI, LINK_IP4, LINK_IP4_MASK] ++
  [LINK_IP4_GW, LINK_IP4_CUR, LINK_IP6_j, LINK_DOWN_CNT, LINK_LAST_DOWN_MS, LINK_RX_DROP]
/-- The rows of the poe page, by offset. -/
def poeRows : List Row :=
  [POE_CLASS_REQ, POE_CLASS_GRANT, POE_STAT_TYPE4, POE_STAT_ACLASS, POE_STAT_LLDP_AGREED, POE_STAT_AUX_PRESENT, POE_STAT_AUX_ACTIVE, POE_BUDGET_MW, POE_REQ_MW, POE_ALLOC_MW, POE_RESERVE_MW, POE_DEV_MW] ++
  [POE_EFF_PM, POE_AUX_MW, POE_CTRL_AUX_PRIO, POE_LLDP_WAIT, POE_CTRL_LLDP_EN, POE_SEG_POWERED, POE_FIRST_DENIED, POE_SHED_CNT, POE_PD_STATE, POE_PD_FAULT, POE_BARRIER_OK, POE_PD_VIN_MV] ++
  [POE_PD_IIN_MA, POE_PD_FAULT_CNT]
/-- The rows of the ptp page, by offset. -/
def ptpRows : List Row :=
  [PTP_CTRL_EN, PTP_CTRL_TRANSPORT, PTP_CTRL_P2P, PTP_DOMAIN, PTP_PORT_STATE, PTP_STAT_FREE, PTP_STAT_HOLDOVER, PTP_STAT_STEP_PENDING, PTP_OFFSET_NS, PTP_PATH_NS, PTP_RATE_PPB, PTP_LATCH] ++
  [PTP_TIME_LO, PTP_TIME_HI, PTP_PASS_RISE_TS_LO, PTP_PASS_RISE_TS_HI, PTP_PASS_FALL_TS_LO, PTP_PASS_FALL_TS_HI, PTP_SLEW_PPM, PTP_GM_ID_LO, PTP_GM_ID_HI]
/-- The rows of the tyrex page, by offset. -/
def tyrexRows : List Row :=
  [TYREX_CTL_PORT, TYREX_STREAM_PORT, TYREX_MAX_DGRAM, TYREX_RTO_MS, TYREX_CTRL_LOCKED, TYREX_PAIR_KEYj, TYREX_SESS_STATE, TYREX_SESS_ID, TYREX_EPOCH, TYREX_CREDIT_LIMIT, TYREX_SENT_UNITS, TYREX_CTL_NEXT] ++
  [TYREX_AUTH_FAIL, TYREX_DROP, TYREX_Cn_SENT, TYREX_Cn_RETX, TYREX_TABLE_STAT, TYREX_TABLE_TYPE]
/-- The rows of the cal page, by offset. -/
def calRows : List Row :=
  [CAL_CTRL_AUTO_EN, CAL_CTRL_SHUT_AUTO, CAL_CTRL_GAP_EN, CAL_REQ, CAL_CMD_TILE_READY, CAL_PENDING, CAL_PENDING_SLICES, CAL_DT, CAL_DT_DIE, CAL_OVERDUE_S, CAL_TILE_ROWr, CAL_TILE_ID] ++
  [CAL_RETICLE_ID, CAL_SHUT_CLOSED, CAL_SHUT_OPEN, CAL_SHUT_TBL, CAL_SHUT_ENT, CAL_AFE_TGT, CAL_AFE_MAXSTEP, CAL_GAIN_MIN, CAL_GAIN_MAX, CAL_DEAD_MAX, CAL_GAIN_DRIFT, CAL_SHD_RESID_MAX] ++
  [CAL_BASE_TOL, CAL_BASE_RESID_MAX, CAL_STITCH_MAX, CAL_STITCH_WIN, CAL_COLOUR_MAX, CAL_RUN_TBL, CAL_RUN_ENT, CAL_CHART_BASE_LO, CAL_CHART_BASE_HI, CAL_STAT_RUNNING, CAL_STAT_KIND, CAL_STAT_OVERDUE] ++
  [CAL_STAT_RECOVERY, CAL_STAT_UNSTORED, CAL_STAT_GAP, CAL_STAT_QF_VALID, CAL_STAT_LAST_FAIL, CAL_FAIL_INFO, CAL_COUNT, CAL_LAST_TIME_LO, CAL_LAST_TIME_HI, CAL_QF_SHD_k, CAL_QF_BASE_k, CAL_QF_STITCH_j] ++
  [CAL_QF_COLOUR_MAX, CAL_QF_COLOUR_MEAN, CAL_DIGEST_w, CAL_SLCk_T_SHD, CAL_SLCk_T_AFE]
/-- The rows of the mon page, by offset. -/
def monRows : List Row :=
  [MON_T_WARN, MON_T_CRIT, MON_V_WIN, MON_PM_MIN, MON_T_ALARM, MON_V_ALARM, MON_PM_ALARM, MON_T_FAILED, MON_T_PEAK, MON_Ti, MON_Ti_VALID, MON_Ti_SUBST] ++
  [MON_Vv, MON_Vv_NOM, MON_PMc]
/-- The rows of the hk page, by offset. -/
def hkRows : List Row :=
  [HK_CTRL_REF_EN, HK_CTRL_RUN, HK_REF_READY, HK_STAT_LUT_ZERO, HK_SEQ_PERIOD, HK_SEQ_EN, HK_URG_ENTRY, HK_URG_ON_PASS, HK_URG_CMD, HK_URG_RESULT, HK_URG_TS_LO, HK_URG_TS_HI] ++
  [HK_URG_LOST, HK_SEQ_LATE, HK_SEQe_SRC, HK_SEQe_SAMP, HK_SEQe_AVG, HK_SEQe_FMT, HK_RESe, HK_RESe_VALID, HK_RESe_OVR, HK_RESe_STALE, HK_BRb_GAIN, HK_BRb_EXC_5V] ++
  [HK_BRb_REVERSE, HK_BRb_EN, HK_BRb_DEC, HK_BRb_REV_MS, HK_BRb_RATIO, HK_BRb_STAT_VALID, HK_BRb_STAT_SETTLED, HK_BRb_STAT_NOSETTLE, HK_BRb_STAT_SUSPECT, HK_BRb_STAT_BROKEN, HK_BRb_STAT_NOSENSE, HK_BRb_STAT_WIRE] ++
  [HK_BRb_SNS_MV, HK_THERM_LUT_i]
/-- The rows of the spare page, by offset. -/
def spareRows : List Row :=
  [SPARE_CTRL_LANE_EN, SPARE_CTRL_RETIRE_EN, SPARE_CTRL_RETEST_EN, SPARE_LANE_VISIT, SPARE_DRAM_CE_THR, SPARE_LED_WARN_KH, SPARE_NOR_ERASE_MAX, SPARE_LANEc_STATE, SPARE_LANEc_SLICE, SPARE_LANEc_PENDING, SPARE_SLCk_LANE, SPARE_SLCk_ERRS] ++
  [SPARE_SLCk_SRAM_FAIL, SPARE_SRAM_REPAIRS, SPARE_SRAM_BANKS, SPARE_SRAM_CE, SPARE_DRAM_PPR, SPARE_DRAM_PPR_LEFT, SPARE_DRAM_SECT_LEFT, SPARE_NOR_SPARES_LEFT, SPARE_WEAR_IDX, SPARE_WEAR_VAL, SPARE_ADC_RETIRED, SPARE_WEAR_SAVE_MIN]
/-- The rows of the sec page, by offset. -/
def secRows : List Row :=
  [SEC_BOOT_SLOT, SEC_BOOT_TRIAL, SEC_BOOT_REVERTED, SEC_BOOT_FALLBACK, SEC_BOOT_FAIL_CAUSE, SEC_BOOT_CNT, SEC_FW_SVN, SEC_FUSE_CNT, SEC_FW_BUILD, SEC_DEVID_w, SEC_FW_MEAS_w, SEC_STAT_OWNER_SET] ++
  [SEC_STAT_FUSE_FAIL, SEC_STAT_ID_FAIL, SEC_STAT_CERT_MISSING, SEC_STAT_PAIR_LOST, SEC_UPD_CMD, SEC_CMD_OWNER_PROV, SEC_UPD_LEN, SEC_UPD_DATA, SEC_UPD_STAT, SEC_UPD_CAUSE, SEC_UPD_TARGET, SEC_UPD_RCVD] ++
  [SEC_CTRL_AUTO_CONFIRM, SEC_WIN_SEL, SEC_WIN_OFS, SEC_QUOTE_ID, SEC_DBG_CHALLENGE_w, SEC_DBG_CMD, SEC_DBG_STAT_UNLOCKED, SEC_DBG_STAT_PERM, SEC_DBG_STAT_CAUSE, SEC_DBG_UNLOCK_CNT, SEC_WIN]
/-- The rows of the header pages, by offset. -/
def headerRows : List Row :=
  [BLK_ID_MINOR, BLK_ID_MAJOR, BLK_ID_INST, BLK_ID_TYPE, BLK_CAP_IRQ_BITS, BLK_CAP_SHADOWED, BLK_CAP_PRESENT, BLK_CTRL_ENABLE, BLK_CTRL_SOFT_RESET, BLK_CTRL_FREEZE, BLK_CTRL_CNT_CLEAR, BLK_CTRL_ERR_CLEAR] ++
  [BLK_STAT_RESETTING, BLK_STAT_ENABLED, BLK_STAT_FROZEN, BLK_STAT_POWERED, BLK_STAT_ERR_OVW, IRQ_RAW, IRQ_EN, IRQ_STAT, IRQ_SET, ERR_CODE, ERR_INFO, EVT_CNT] ++
  [SHADOW_CTRL_HOLD, SHADOW_CTRL_COMMIT, SHADOW_CTRL_DISCARD, SHADOW_CTRL_SEL, SHADOW_STAT_PENDING, SHADOW_STAT_HELD, SHADOW_STAT_OVERFLOW, SHADOW_STAT_NEXT, SHADOW_STAT_HELD_CNT, SHADOW_STAT_VAL]
/-- The rows of the irq page, by offset. -/
def irqRows : List Row :=
  [IRQ_SUMw, IRQ_PIN_ENw, IRQ_EVT_ENw, IRQ_CTRL_PIN_EN, IRQ_EVT_HOLDOFF, IRQ_PIN_STAT, IRQ_EVT_MERGED]
/-- The rows of the lock page, by offset. -/
def lockRows : List Row :=
  [LOCK_n, LOCK_STAT_n_OWNER, LOCK_STAT_n_BROKEN, LOCK_STAT_n_GEN, LOCK_HELD, LOCK_BROKEN_CNT]
/-- The rows of the dbg page, by offset. -/
def dbgRows : List Row :=
  [DBG_ADDR_LO, DBG_ADDR_HI, DBG_CMD, DBG_STAT_BUSY, DBG_STAT_UE, DBG_STAT_ADDR_ERR, DBG_DATA_w]
/-- The rows of the pwr page, by offset. -/
def pwrRows : List Row :=
  [PWR_DOM_ON_0, PWR_DOM_ON_1, PWR_DOM_ON_2, PWR_DOM_FAULT_w, PWR_DOM_FORCE_w, PWR_RAIL_GOOD, PWR_BUS_GOOD, PWR_SEG_STAGGER_MS, PWR_DOM_SWITCH_CNT]
/-- The rows of the clk page, by offset. -/
def clkRows : List Row :=
  [CLK_LOCKED, CLK_AON_XTAL, CLK_LOST, CLK_AON_SRC, CLK_PTP_FALLBACK, CLK_PIX_KHZ, CLK_XING_OVR_CNT, CLK_XING_OVR_ID, CLK_XING_OVR]
/-- The rows of the rst page, by offset. -/
def rstRows : List Row :=
  [RST_CAUSE, RST_CAUSE_AON_LOST, RST_FULL_CNT, RST_WDOG_CPU0_CNT, RST_WDOG_CPU1_CNT, RST_CTRL_HOLD_ON_RESET, RST_LAST_TIME_LO, RST_LAST_TIME_HI]
/-- The _LO registers: a read of one latches its _HI partner, four bytes above it (R501). -/
def loRows : List Row :=
  [TIMING_SEG_BASE_LO, TIMING_SHD_BASE_LO, MC_RING_BASE_LO, SCRIM_ANCHOR_NM_LO, CLU_SEGj_ORIGIN_LO, TRK_POS_LO, INS_CROP_BASE_LO, INS_NOZ_BASE_LO, MOT_ENCe_CNT_LO, MOT_AXa_HOME_POS_LO] ++
  [MOT_AXa_POS_LO, MOT_AXa_LATCH_LO, MOT_AXa_SEGs_LO, MOT_AXa_SETPOS_LO, MC_SCRUB_ADDR_LO, MC_ECC_LAST_ADDR_LO, MC_ADDR_ERR_ADDR_LO, DMA_CHc_DESC_LO, DMA_CHc_CUR_LO, DMA_CHc_FAIL_LO] ++
  [HOD_SPILL_BASE_LO, LINK_MAC_LO, PTP_TIME_LO, PTP_PASS_RISE_TS_LO, PTP_PASS_FALL_TS_LO, PTP_GM_ID_LO, CAL_CHART_BASE_LO, CAL_LAST_TIME_LO, HK_URG_TS_LO, SYS_TBL_ADDR_LO] ++
  [DBG_ADDR_LO, RST_LAST_TIME_LO]

end Sys2Proof.R
end

