-- ==== Sys2Proof/Machine/Ops.lean ====
section
/-! DEFINITION. The named operations over the state that every family uses: sparse maps, DRAM bytes, register fields,
interrupt, error and event flags (Flags.lean builds on the last), time, free values and the producers' outbox. -/
namespace Sys2Proof.Machine
open Sys2Proof

/-! ## Sparse maps: lists of (key, value), keys strictly rising -/

def smFind {α : Type} : List (Nat × α) → Nat → Option α
  | [], _ => none
  | (a, x) :: m, k => if k = a then some x else if k < a then none else smFind m k

def smGet {α : Type} (d : α) (m : List (Nat × α)) (k : Nat) : α := (smFind m k).getD d

def smPut {α : Type} : List (Nat × α) → Nat → α → List (Nat × α)
  | [], k, v => [(k, v)]
  | (a, x) :: m, k, v =>
    if k = a then (k, v) :: m else if k < a then (k, v) :: (a, x) :: m else (a, x) :: smPut m k v

def smDel {α : Type} : List (Nat × α) → Nat → List (Nat × α)
  | [], _ => []
  | (a, x) :: m, k => if k = a then smDel m k else (a, x) :: smDel m k

/-- Keys strictly rising, all above the bound `b` (none: no bound). -/
def smSortedFrom {α : Type} : Option Nat → List (Nat × α) → Bool
  | _, [] => true
  | none, (a, _) :: m => smSortedFrom (some a) m
  | some b, (a, _) :: m => decide (b < a) && smSortedFrom (some a) m

def smSorted {α : Type} (m : List (Nat × α)) : Bool := smSortedFrom none m

/-- Apply `f` to the value at `k` (`d` where none is listed) and store the result. -/
def smMod {α : Type} (d : α) (m : List (Nat × α)) (k : Nat) (f : α → α) : List (Nat × α) :=
  smPut m k (f (smGet d m k))

/-! ## DRAM: bytes at addresses, one canonical form -/

/-- What a byte of DRAM that nothing has written reads as (log 3: the spec gives DRAM no contents at power-on). -/
def memDefault : BitVec 8 := 0

/-- The canonical form: addresses strictly rising, no entry equal to what an unlisted address reads as. -/
def Memory.wf (m : List Host.Cell) : Bool := smSorted m && m.all (fun c => c.2 != memDefault)

def memGet (m : List Host.Cell) (a : Nat) : BitVec 8 := smGet memDefault m a

/-- The first DRAM address that does not exist (R315). -/
def dramEnd : Nat := 0x3_C000_0000

/-- A byte is written; at an address that does not exist the write is dropped (R315). -/
def memPut (m : List Host.Cell) (a : Nat) (b : BitVec 8) : List Host.Cell :=
  if dramEnd ≤ a then m else if b = memDefault then smDel m a else smPut m a b

/-- Bytes `bs` stored from address `a` upward. -/
def memPutBytes : List Host.Cell → Nat → List (BitVec 8) → List Host.Cell
  | m, _, [] => m
  | m, a, b :: bs => memPutBytes (memPut m a b) (a + 1) bs

/-- `n` bytes read from address `a` upward. -/
def memBytes (m : List Host.Cell) : Nat → Nat → List (BitVec 8)
  | _, 0 => []
  | a, n + 1 => memGet m a :: memBytes m (a + 1) n

def bitOf (n i : Nat) : Bool := n / 2 ^ i % 2 == 1

/-- Do the bytes `a` to `a + n − 1` meet the 32-byte data block `b` (R315)? -/
def meetsBlock (a n b : Nat) : Bool := decide (a < 32 * (b + 1)) && decide (32 * b < a + n)

/-- The last read of some of the bytes `a` to `a + n − 1` by an input of the DRAM port was uncorrectable (R333), or they lie where no DRAM
is, and every read is (R315). -/
def dramBad (s : State) (input a n : Nat) : Bool :=
  decide (dramEnd < a + n) || s.mc.poison.any (fun p => bitOf p.2 input && meetsBlock a n p.1)

/-- Bytes are written anew, so that what an earlier read found there, or a mark copied with a chunk (R333), no longer stands. -/
def dramFresh (s : State) (a n : Nat) : State :=
  if s.mc.poison.isEmpty && s.mc.marks.isEmpty then s
  else { s with mc := { s.mc with poison := s.mc.poison.filter (fun p => !(meetsBlock a n p.1)), marks := s.mc.marks.filter (fun b => !(meetsBlock a n b)) } }

/-! ## Numbers and bytes -/

/-- Little-endian value of bytes (R16). -/
def leNat : List (BitVec 8) → Nat
  | [] => 0
  | b :: bs => b.toNat + 256 * leNat bs

/-- `n` bytes of `v`, least significant first (R16). -/
def leBytes : Nat → Nat → List (BitVec 8)
  | 0, _ => []
  | n + 1, v => BitVec.ofNat 8 v :: leBytes n (v / 256)

/-- `n` bytes of `v` in two's complement, least significant first (R16). -/
def leBytesI (n : Nat) (v : Int) : List (BitVec 8) := leBytes n (v % (2 ^ (8 * n) : Nat)).toNat

/-- The low `w` bits of `v` in two's complement. -/
def toTwos (w : Nat) (v : Int) : Nat := (v % (2 ^ w : Nat)).toNat

/-- The signed value of a `w`-bit field. -/
def ofTwos (w : Nat) (n : Nat) : Int := if n % 2 ^ w < 2 ^ (w - 1) then (n % 2 ^ w : Nat) else (n % 2 ^ w : Nat) - (2 ^ w : Nat)

def setBit (n i : Nat) (b : Bool) : Nat :=
  if bitOf n i == b then n else if b then n + 2 ^ i else n - 2 ^ i

def b2n (b : Bool) : Nat := if b then 1 else 0

/-- Bits `[lo + w - 1 : lo]` of `n`. -/
def bits (n lo w : Nat) : Nat := n / 2 ^ lo % 2 ^ w

/-- `n` divided by `d`, rounded up. -/
def ceilDiv (n d : Nat) : Nat := (n + d - 1) / d

/-- Round half away from zero of `n / d` (a quotient of integers, `d > 0`). -/
def roundDiv (n : Int) (d : Nat) : Int :=
  if n ≥ 0 then ((2 * n.toNat + d) / (2 * d) : Nat) else - ((2 * (-n).toNat + d) / (2 * d) : Nat)

def clampI (lo hi v : Int) : Int := if v < lo then lo else if v > hi then hi else v

/-- The set bit numbers of a mask below `n`, ascending. -/
def maskList (mask n : Nat) : List Nat := (List.range n).filter (bitOf mask)

/-- Nat square root, rounded down, by bisection from the top bit (R185 and others name a root). -/
def isqrtGo : Nat → Nat → Nat → Nat
  | 0, _, r => r
  | k + 1, n, r => let t := r + 2 ^ k; if t * t ≤ n then isqrtGo k n t else isqrtGo k n r

def isqrt (n : Nat) : Nat := isqrtGo 64 n 0

/-! ## Checks over bytes -/

/-- One byte into a reflected CRC-32C register (log 10: the spec names CRC-32C and gives no polynomial). -/
def crc32cStep : Nat → Nat → Nat
  | 0, c => c
  | k + 1, c => crc32cStep k (if c % 2 = 1 then Nat.xor (c / 2) 0x82F63B78 else c / 2)

/-- CRC-32C of bytes (log 10). -/
def crc32c (bs : List (BitVec 8)) : Nat :=
  Nat.xor (bs.foldl (fun c b => crc32cStep 8 (Nat.xor c b.toNat)) 0xFFFFFFFF) 0xFFFFFFFF

def crc16Step : Nat → Nat → Nat
  | 0, c => c
  | k + 1, c => crc16Step k (if 32768 ≤ c then Nat.xor (c * 2 % 65536) 0x1021 else c * 2 % 65536)

/-- CRC-16/CCITT-FALSE: polynomial 0x1021, initial value 0xFFFF, no reflection, no final XOR (R72). -/
def crc16 (bs : List (BitVec 8)) : Nat :=
  bs.foldl (fun c b => crc16Step 8 (Nat.xor c (b.toNat * 256))) 0xFFFF

/-- Bytes `o` to `o + n − 1` of `b` as a little-endian number. -/
def leAt (b : List (BitVec 8)) (o n : Nat) : Nat := leNat ((b.drop o).take n)

/-- The same as a two's complement number. -/
def leAtI (b : List (BitVec 8)) (o n : Nat) : Int := ofTwos (8 * n) (leAt b o n)

/-- Insert into a list kept ascending by a key. -/
def insertBy {α : Type} (key : α → Nat) (x : α) : List α → List α
  | [] => [x]
  | y :: l => if key x ≤ key y then x :: y :: l else y :: insertBy key x l

/-- Sort ascending by a key. -/
def sortBy {α : Type} (key : α → Nat) : List α → List α
  | [] => []
  | x :: l => insertBy key x (sortBy key l)

/-- The least and the greatest of a list. -/
def minI : List Int → Int
  | [] => 0
  | x :: l => l.foldl (fun m y => if y < m then y else m) x

def maxI : List Int → Int
  | [] => 0
  | x :: l => l.foldl (fun m y => if m < y then y else m) x

def sumN (l : List Nat) : Nat := l.foldl (· + ·) 0
def sumI (l : List Int) : Int := l.foldl (· + ·) 0

/-- Fold a state change over a list. -/
def State.each {α : Type} (s : State) (l : List α) (f : State → α → State) : State := l.foldl f s

/-! ## Register fields -/

/-- Where a field stands in the store: its address and its low bit, in one number. -/
def Row.code (r : Row) (p i : Nat) : Nat := ((r.page + p) * 0x1000 + r.off + r.stride * i) * 32 + r.lsb

/-- The value a field holds at reset (R582), which may differ by element, page instance or variant. -/
def Row.reset (r : Row) (v : Variant) (p i : Nat) : Nat :=
  match r.rstKind with
  | 1 => r.rsts.getD i 0
  | 2 => r.rsts.getD p 0
  | 3 => r.rsts.getD (match v with | .sq7260 => 0 | .sq7244 => 1 | .sq7212 => 2) 0
  | _ => r.rst + r.rstStep * i

/-- The value in force of field `r` of page instance `p`, element `i`. -/
def State.get (s : State) (r : Row) (p i : Nat := 0) : Nat :=
  (smFind s.regs (Row.code r p i)).getD (Row.reset r s.variant p i)

/-- Store a value (taken modulo the field's width) as the value in force. -/
def State.set (s : State) (r : Row) (v : Nat) (p i : Nat := 0) : State :=
  { s with regs := smPut s.regs (Row.code r p i) (v % 2 ^ r.width) }

/-- A one-bit field as a truth value. -/
def State.bit (s : State) (r : Row) (p i : Nat := 0) : Bool := s.get r p i != 0

/-- A field read as two's complement. -/
def State.getI (s : State) (r : Row) (p i : Nat := 0) : Int := ofTwos r.width (s.get r p i)

def State.setI (s : State) (r : Row) (v : Int) (p i : Nat := 0) : State := s.set r (toTwos r.width v) p i

def State.setB (s : State) (r : Row) (b : Bool) (p i : Nat := 0) : State := s.set r (b2n b) p i

/-- A 64-bit quantity held in a _LO and a _HI field. -/
def State.get64 (s : State) (lo hi : Row) (p i : Nat := 0) : Nat := s.get lo p i + s.get hi p i * 2 ^ 32

def State.set64 (s : State) (lo hi : Row) (v : Nat) (p i : Nat := 0) : State :=
  (s.set lo (v % 2 ^ 32) p i).set hi (v / 2 ^ 32) p i

/-- The greatest value a field holds. -/
def Row.max (r : Row) : Nat := 2 ^ r.width - 1

/-- Add `n` to a counter that saturates at its field's greatest value. -/
def State.incBy (s : State) (r : Row) (n : Nat) (p i : Nat := 0) : State :=
  s.set r (min (s.get r p i + n) (Row.max r)) p i

def State.inc (s : State) (r : Row) (p i : Nat := 0) : State := s.incBy r 1 p i

/-- Drop a field's stored value, so that it reads as at reset. -/
def State.unset (s : State) (r : Row) (p i : Nat := 0) : State :=
  { s with regs := smDel s.regs (Row.code r p i) }

/-! ## The outcome of a command -/

/-- A command has run from `s` and left `t`. The queue, the time and the variant are none of a command's effects: they stand as in
`s`. -/
def ran (s t : State) : Host.Outcome State Fault Refusal :=
  .next { t with pending := s.pending, now := s.now, variant := s.variant }

/-- A command that names a place of the block has run; any other is refused by name. -/
def ranIf (ok : Bool) (mnemonic : String) (s t : State) : Host.Outcome State Fault Refusal :=
  if ok then ran s t else .refused (.illFormed mnemonic)

/-! ## Free values -/

/-- Take the next draw number of the free values. -/
def State.draw (s : State) : Nat × State := (s.draws, { s with draws := s.draws + 1 })

/-! ## Time -/

/-- A time of the timebase as a timestamp (R393): [63] FREE, [62:30] seconds, [29:0] nanoseconds. -/
def tsOf (free : Bool) (ns : Nat) : Nat :=
  b2n free * 2 ^ 63 + (ns / 1000000000 % 2 ^ 33) * 2 ^ 30 + ns % 1000000000

/-- The timebase, ns: 8 ns ticks of the free-running clock (R392), and what the grandmaster and the rate have added to them (R394). -/
def State.timeAt (s : State) (ns : Int) : Int := ns / 8 * 8 + s.ptp.offset

/-- The PTP time at this moment (R393). -/
def State.ts (s : State) : Nat := tsOf (s.bit R.PTP_STAT_FREE) (s.timeAt s.now).toNat

/-! ## The producers' outbox -/

/-- A whole record handed to the producer's side of Hod: it waits there to be written and committed (R361). -/
def State.emit (s : State) (cls prod kind : Nat) (payload : List (BitVec 8)) (item : Option Nat := none) : State :=
  { s with outbox := s.outbox ++ [{ cls := cls, prod := prod, kind := kind, payload := payload, item := item }] }

/-- A datagram or frame that leaves on the cable. -/
def State.send (s : State) (t : Tx) : State := { s with tx := s.tx ++ [t] }

/-! ## Slices -/

def State.slice (s : State) (k : Nat) : Slice := smGet Slice.init s.slices k

def State.modSlice (s : State) (k : Nat) (f : Slice → Slice) : State := { s with slices := smMod Slice.init s.slices k f }

/-- What the machine is sampling with now (R33). -/
def State.contentNow (s : State) : Content := { regs := s.regs, slices := s.slices }

/-- The machine as a line was sampled with it: to read, never to go on from (R33). -/
def State.withContent (s : State) (x : Content) : State := { s with regs := x.regs, slices := x.slices }

end Sys2Proof.Machine
end

