-- ==== Sys2Proof/Machine/Pages.lean ====
section
/-! DEFINITION. The pages of the register space: which block a page holds, its type code, instance and summary index (R497),
whether it is present in the variant (R3, R4, R7, R10, R523), and the field rows that stand in it. -/
namespace Sys2Proof.Machine
open Sys2Proof

/-- Present slices, clusters, named axes of a variant (R2). -/
def Variant.slices : Variant → Nat | .sq7260 => 24 | .sq7244 => 16 | .sq7212 => 8
def Variant.clusters : Variant → Nat | .sq7260 => 6 | .sq7244 => 4 | .sq7212 => 2
def Variant.axes : Variant → Nat | .sq7260 => 4 | .sq7244 => 4 | .sq7212 => 2
def Variant.spareGens : Variant → Nat | .sq7260 => 2 | .sq7244 => 2 | .sq7212 => 1
def Variant.hasTrk : Variant → Bool | .sq7260 => true | .sq7244 => true | .sq7212 => false
def Variant.hasIns : Variant → Bool | .sq7260 => true | .sq7244 => false | .sq7212 => false
def Variant.has10g : Variant → Bool | .sq7260 => true | .sq7244 => true | .sq7212 => false
def Variant.part : Variant → Nat | .sq7260 => 0x7260 | .sq7244 => 0x7244 | .sq7212 => 0x7212

/-- The axis or generator pages present in a variant (R4, R10): FEED 0, EXIT 1, LIFT 2, SHUTTER 3, SPG0 4, SPG1 5. -/
def Variant.hasAxis (v : Variant) (a : Nat) : Bool :=
  match v with
  | .sq7212 => a == 0 || a == 3 || a == 4
  | _ => decide (a < 6)

/-- Page numbers of the blocks (R497). -/
def pgSYS := 0x000
def pgPWR := 0x001
def pgCLK := 0x002
def pgRST := 0x003
def pgMON := 0x004
def pgHK := 0x005
def pgLOCK := 0x006
def pgIRQ := 0x007
def pgTIMING := 0x040
def pgSCRIM := 0x048
def pgPLUMB := 0x049
def pgTRK := 0x050
def pgINS := 0x058
def pgMOT := 0x060
def pgAXIS (a : Nat) := 0x061 + a
def pgCAP := 0x070
def pgMC := 0x078
def pgARB := 0x079
def pgDMA := 0x080
def pgDMACH (c : Nat) := 0x081 + c
def pgHOD := 0x0A0
def pgLINK := 0x0B0
def pgPOE := 0x0B1
def pgPTP := 0x0B2
def pgTYREX := 0x0B3
def pgCAL := 0x0C0
def pgSPARE := 0x0C8
def pgSEC := 0x0D0
def pgDBG := 0x0F0
def pgAFE (k : Nat) := 0x100 + k
def pgSLC (k : Nat) := 0x120 + k
def pgCLU (c : Nat) := 0x140 + c

/-- One line of the page table of R497: first page, pages, block type, first summary index, rows. -/
structure PageLine where
  first : Nat
  n : Nat
  type : Nat
  summary : Nat
  rows : List Row

def pageTable : List PageLine :=
  [⟨0x000, 1, 0x01, 0, R.sysRows⟩, ⟨0x001, 1, 0x02, 1, R.pwrRows⟩, ⟨0x002, 1, 0x03, 2, R.clkRows⟩,
   ⟨0x003, 1, 0x04, 3, R.rstRows⟩, ⟨0x004, 1, 0x05, 4, R.monRows⟩, ⟨0x005, 1, 0x06, 5, R.hkRows⟩,
   ⟨0x006, 1, 0x07, 6, R.lockRows⟩, ⟨0x007, 1, 0x08, 7, R.irqRows⟩] ++
  [⟨0x040, 1, 0x10, 8, R.timingRows⟩, ⟨0x048, 1, 0x11, 9, R.scrimRows⟩, ⟨0x049, 1, 0x12, 10, R.plumbRows⟩,
   ⟨0x050, 1, 0x13, 11, R.trkRows⟩, ⟨0x058, 1, 0x14, 12, R.insRows⟩, ⟨0x060, 1, 0x15, 13, R.motRows⟩,
   ⟨0x061, 6, 0x16, 14, R.axisRows⟩, ⟨0x070, 1, 0x17, 20, R.capRows⟩, ⟨0x078, 1, 0x18, 21, R.mcRows⟩,
   ⟨0x079, 1, 0x19, 22, R.arbRows⟩, ⟨0x080, 1, 0x1A, 23, R.dmaRows⟩, ⟨0x081, 16, 0x1B, 24, R.dmaChRows⟩] ++
  [⟨0x0A0, 1, 0x1C, 40, R.hodRows⟩, ⟨0x0B0, 1, 0x1D, 41, R.linkRows⟩, ⟨0x0B1, 1, 0x1E, 42, R.poeRows⟩,
   ⟨0x0B2, 1, 0x1F, 43, R.ptpRows⟩, ⟨0x0B3, 1, 0x20, 44, R.tyrexRows⟩, ⟨0x0C0, 1, 0x21, 45, R.calRows⟩,
   ⟨0x0C8, 1, 0x22, 46, R.spareRows⟩, ⟨0x0D0, 1, 0x23, 47, R.secRows⟩, ⟨0x0F0, 1, 0x24, 48, R.dbgRows⟩,
   ⟨0x100, 24, 0x30, 49, R.afeRows⟩, ⟨0x120, 24, 0x31, 73, R.slcRows⟩, ⟨0x140, 6, 0x32, 97, R.cluRows⟩]

def pageLine (page : Nat) : Option PageLine :=
  pageTable.find? (fun l => decide (l.first ≤ page) && decide (page < l.first + l.n))

/-- The instance number of a page (R502, BLK_ID_INST). -/
def pageInst (page : Nat) : Nat := match pageLine page with | some l => page - l.first | none => 0

/-- The summary index of a page (R497). -/
def pageSummary (page : Nat) : Option Nat := (pageLine page).map (fun l => l.summary + (page - l.first))

/-- The page that has a summary index (R497). -/
def summaryPage (idx : Nat) : Option Nat :=
  (pageTable.find? (fun l => decide (l.summary ≤ idx) && decide (idx < l.summary + l.n))).map (fun l => l.first + (idx - l.summary))

/-- A page of R497 whose block the variant has, or for DBG whose permission is in force (R7, R523). -/
def pagePresent (s : State) (page : Nat) : Bool :=
  match pageLine page with
  | none => false
  | some l =>
    let i := page - l.first
    if l.type = 0x13 then Variant.hasTrk s.variant
    else if l.type = 0x14 then Variant.hasIns s.variant
    else if l.type = 0x16 then Variant.hasAxis s.variant i
    else if l.type = 0x24 then bitOf (s.get R.SEC_DBG_STAT_PERM) 0
    else if l.type = 0x30 || l.type = 0x31 then decide (i < Variant.slices s.variant)
    else if l.type = 0x32 then decide (i < Variant.clusters s.variant)
    else true

/-- Highest defined IRQ_RAW bit plus 1 of a block type (R502; each chapter defines its page's bits). -/
def irqBits (type : Nat) : Nat :=
  match type with
  | 0x02 => 4 | 0x03 => 3 | 0x04 => 1 | 0x05 => 5 | 0x06 => 7 | 0x07 => 1
  | 0x11 => 4 | 0x12 => 5 | 0x13 => 5 | 0x14 => 5 | 0x15 => 7 | 0x16 => 8
  | 0x17 => 9 | 0x18 => 6 | 0x19 => 2 | 0x1A => 16 | 0x1B => 5 | 0x1C => 5 | 0x1D => 3
  | 0x1E => 4 | 0x1F => 4 | 0x20 => 4 | 0x21 => 6 | 0x22 => 8 | 0x23 => 5
  | 0x30 => 7 | 0x31 => 21
  | _ => 0

/-- The defined IRQ_RAW bits of a page; every other is reserved (R17, R502). The SLC page's lie in one run, bits 16 to 20. -/
def irqMask (page : Nat) : Nat :=
  match pageLine page with
  | none => 0
  | some l => if l.type = 0x31 then 0x1F0000 else 2 ^ irqBits l.type - 1

/-- The page holds RWS fields at offset 0x040 or above (R502). -/
def pageShadowed (l : PageLine) : Bool := l.rows.any (fun r => r.acc == .rws && decide (0x40 ≤ r.off))

end Sys2Proof.Machine
end

