-- ==== Sys2Proof/Machine/Flags.lean ====
section
/-! DEFINITION. Interrupt flags, error codes, event counts and the IRQ event (R507 to R512), and the class 0 events' common
shape. -/
namespace Sys2Proof.Machine
open Sys2Proof

/-- IRQ_STAT of a page: IRQ_RAW AND IRQ_EN (R502). -/
def State.irqStat (s : State) (page : Nat) : Nat := s.get R.IRQ_RAW page &&& s.get R.IRQ_EN page

/-- The bit of a page in the summary words `r` of the IRQ page (R512). -/
def State.summaryBit (s : State) (r : Row) (page : Nat) : Bool :=
  match pageSummary page with
  | none => false
  | some i => bitOf (s.get r 0 (i / 32)) (i % 32)

/-- The 32 bytes of an IRQ event (R511). -/
def irqEventBytes (s : State) (page : Nat) : List (BitVec 8) :=
  leBytes 2 page ++ leBytes 1 ((pageSummary page).getD 0) ++ leBytes 1 0 ++ leBytes 4 (s.irqStat page) ++
  leBytes 4 (s.get R.IRQ_RAW page) ++ leBytes 4 (s.get R.EVT_CNT page) ++ leBytes 8 s.ts ++ leBytes 8 0

/-- Commit a page's IRQ event and start its hold-off (R511). -/
def State.irqEvent (s : State) (page : Nat) : State :=
  let s1 := s.emit 0 0x03 0x01 (irqEventBytes s page)
  if s.get R.IRQ_EVT_HOLDOFF = 0 then s1 else { s1 with irqHold := smPut s1.irqHold page { rose := false } }

/-- A page's IRQ_STAT has changed from 0 to non-zero (R511). -/
def State.irqRise (s : State) (page : Nat) : State :=
  if s.summaryBit R.IRQ_EVT_ENw page then
    match smFind s.irqHold page with
    | none => s.irqEvent page
    | some _ => ({ s with irqHold := smPut s.irqHold page { rose := true } }).inc R.IRQ_EVT_MERGED
  else s

/-- Carry out the rise rule after a change of a page's flags or enables (R511). -/
def State.irqAfter (s s' : State) (page : Nat) : State :=
  if s.irqStat page = 0 ∧ s'.irqStat page ≠ 0 then s'.irqRise page else s'

/-- How many bits of a mask are set. -/
def popcount (mask n : Nat) : Nat := (maskList mask n).length

/-- Hardware, or IRQ_SET, sets the IRQ_RAW bits of `mask`: each setting counts in EVT_CNT (R508). -/
def State.raiseMask (s : State) (page mask : Nat) : State :=
  s.irqAfter ((s.set R.IRQ_RAW (s.get R.IRQ_RAW page ||| mask) page).incBy R.EVT_CNT (popcount mask 32) page) page

/-- Set one IRQ_RAW bit of a page (R508). -/
def State.raise (s : State) (page bit : Nat) : State := s.raiseMask page (2 ^ bit)

/-- Record a refusal in a page: a later code overwrites an earlier one and sets ERR_OVW (R507). -/
def State.err (s : State) (page code : Nat) (info : Nat := 0) : State :=
  let s1 := if s.get R.ERR_CODE page = 0 then s else s.set R.BLK_STAT_ERR_OVW 1 page
  (s1.set R.ERR_CODE code page).set R.ERR_INFO info page

/-- IRQ_L asserted: PIN_EN is 1 and some page named in IRQ_PIN_ENw has a non-zero IRQ_STAT (R510). -/
def State.irqPin (s : State) : Bool :=
  s.bit R.IRQ_CTRL_PIN_EN && (List.range 103).any (fun i =>
    bitOf (s.get R.IRQ_PIN_ENw 0 (i / 32)) (i % 32) &&
      (match summaryPage i with | some p => s.irqStat p != 0 | none => false))

/-- A location code (R24). -/
def loc (level seg row tap pix : Nat) : Nat :=
  level * 2 ^ 29 + seg * 2 ^ 24 + row * 2 ^ 21 + tap * 2 ^ 20 + pix

/-- Location codes at segment, row, tap, pixel and cluster level (R24). -/
def locSeg (k : Nat) : Nat := loc 3 k 0 0 0
def locRow (k r : Nat) : Nat := loc 2 k r 0 0
def locTap (k r t : Nat) : Nat := loc 1 k r t 0
def locPix (k r t x : Nat) : Nat := loc 0 k r t x
def locCluster (c : Nat) : Nat := loc 4 (4 * c) 0 0 0
def locBar : Nat := loc 5 0 0 0 0

/-- The 32-byte class 0 event of a firmware service: code, detail, reserved, location, value, reserved, time, reserved (R470). -/
def State.event32 (s : State) (prod code detail location value : Nat) : State :=
  s.emit 0 prod 0x01 (leBytes 1 code ++ leBytes 1 detail ++ leBytes 2 0 ++ leBytes 4 location ++ leBytes 4 value ++
    leBytes 4 0 ++ leBytes 8 s.ts ++ leBytes 8 0)

/-- The 32-byte class 0 event of the host link (R415). -/
def State.linkEvent (s : State) (code detail value : Nat) : State :=
  s.emit 0 0x10 0x01 (leBytes 1 code ++ leBytes 1 detail ++ leBytes 2 0 ++ leBytes 4 value ++ leBytes 8 s.ts ++ leBytes 16 0)

/-- The mode in force (R34). -/
def State.mode (s : State) : Mode :=
  match s.get R.SYS_MODE_CUR with
  | 1 => .inspect | 2 => .capture | 3 => .calibrate | 4 => .service | _ => .idle

/-- A job is INSPECT or CAPTURE (R35). -/
def State.inJob (s : State) : Bool := s.mode == .inspect || s.mode == .capture

end Sys2Proof.Machine
end

