-- ==== Sys2Proof/Machine/Operands.lean ====
section
/-! DEFINITION. The forms in which a register is reached (R18, R496 to R501, R505, R506): which field stands at an address, which
values a field may store, what a read returns, where a write goes, and which shadows a boundary brings into force. -/
namespace Sys2Proof.Machine
open Sys2Proof

def Agent.code : Agent → Nat | .cpu0 => 2 | .cpu1 => 3 | .jtag => 4 | .spi => 0 | .host => 1

/-- Control processors: "device firmware" writes through either (R27). -/
def Agent.firmware : Agent → Bool | .cpu0 => true | .cpu1 => true | _ => false

/-- Index of the element of row `r` that stands at offset `off`, if one does. -/
def Row.at? (r : Row) (off : Nat) : Option Nat :=
  if r.stride = 0 then (if off = r.off then some 0 else none)
  else if r.off ≤ off ∧ (off - r.off) % r.stride = 0 ∧ (off - r.off) / r.stride < r.count then some ((off - r.off) / r.stride)
  else none

/-- The one element of the table that no page holds: seam 23 does not exist, so its fields read 0 and ignore writes (R174). -/
def seamAbsent (r : Row) (p i : Nat) : Bool :=
  p = 5 && i = 3 && (r = R.CLU_SEAMj_RESID || r = R.CLU_SEAMj_CONF || r = R.CLU_SEAMj_AGE || r = R.CLU_SEAMj_CORR)

/-- The rows that stand at an offset of a page, header included, with the page instance and element of each. -/
def fieldsAt (page off : Nat) : List (Row × Nat × Nat) :=
  if off < 0x40 then R.headerRows.filterMap (fun r => (Row.at? r off).map (fun i => (r, page, i)))
  else match pageLine page with
    | none => []
    | some l => (l.rows.filterMap (fun r => (Row.at? r off).map (fun i => (r, page - r.page, i)))).filter (fun x => !(seamAbsent x.1 x.2.1 x.2.2))

/-- Pages whose ENABLE always reads 1 (R503). -/
def enableFixed (page : Nat) : Bool :=
  page ∈ [pgSYS, pgPWR, pgCLK, pgRST, pgIRQ, pgLOCK, pgMC, pgARB, pgHOD, pgLINK, pgPOE, pgTYREX, pgPTP, pgSEC]

/-- The value an RWS field reads: its waiting shadow, or the value in force (R18). -/
def State.seen (s : State) (r : Row) (p i : Nat := 0) : Nat :=
  match smFind s.shadow (Row.code r p i) with
  | some x => x.value
  | none => s.get r p i

/-- First and one past the last field code of a page. -/
def pageLo (page : Nat) : Nat := page * 0x1000 * 32
def pageHi (page : Nat) : Nat := (page + 1) * 0x1000 * 32

/-- The two RW fields that take effect at IDLE, and so wait like a shadow without being one (R412, R552). -/
def waitingRw (code : Nat) : Bool := code = Row.code R.TYREX_CTRL_LOCKED 0 0 || code = Row.code R.CLK_AON_SRC 0 0

/-- The RWS shadows of a page that wait (R506). -/
def State.pageShadows (s : State) (page : Nat) : List (Nat × Shadow) :=
  s.shadow.filter (fun e => decide (pageLo page ≤ e.1) && decide (e.1 < pageHi page) && !(waitingRw e.1))

/-- The boundary that a waiting shadow waits for: in CAPTURE that of TIMING_FLOAT_AVG waits for IDLE (R295). -/
def State.waitsFor (s : State) (e : Nat × Shadow) : Boundary :=
  if e.1 = Row.code R.TIMING_FLOAT_AVG 0 0 ∧ s.mode = .capture then .idle else e.2.bnd

/-- Lowest boundary code among waiting shadows of a page; 7 = none (R502). -/
def State.shadowNext (s : State) (page : Nat) : Nat :=
  (s.pageShadows page).foldl (fun m e => min m (s.waitsFor e).code) 7

def State.heldOf (s : State) (page : Nat) : List HeldWrite := smGet [] s.held page

/-- Values some fields accept beyond one range (each field's Meaning column): the field's own list, or a relation to another
field as it would read. `w` is the whole word written. -/
def accepts (s : State) (r : Row) (p i v w : Nat) : Bool :=
  decide (r.lo ≤ v) && decide (v ≤ r.hi) &&
  (if r = R.AFE_CHc_TRIM then decide (-128 ≤ ofTwos 9 v) && decide (ofTwos 9 v ≤ 128)
   else if r = R.INS_COL_PX then decide (v ∈ [4, 8, 16, 32, 64])
   else if r = R.CAP_BIN_X then decide (v ∈ [1, 2, 3, 4, 6, 8, 12, 16])
   else if r = R.CAP_TAB_W then decide (v = 0) || decide (16 ≤ v)
   else if r = R.HOD_Cn_PAGES then decide (v = 0) || (decide (256 ≤ v) && decide (v ≤ 2097152))
   else if r = R.TRK_BASE_k then decide (v = 0) || (decide (338667 * 256 ≤ v) && decide (v ≤ 1016000 * 256))
   else if r = R.LINK_ADV then if s.variant = .sq7212 then v % 8 != 0 else v != 0
   else if r = R.POE_DEV_MW then decide ((match s.variant with | .sq7260 => 14500 | .sq7244 => 11000 | .sq7212 => 7000) ≤ v)
   else if r = R.TYREX_MAX_DGRAM then decide (v ≤ 1452) || s.seen R.LINK_CTRL_JUMBO == 1
   else if r = R.PLUMB_THR_HI ∨ r = R.PLUMB_THR_LO then decide (bits w 16 16 < bits w 0 16)
   else if r = R.CAP_WM_LOW ∨ r = R.CAP_WM_HIGH ∨ r = R.CAP_WM_STOP then
     decide (bits w 0 8 < bits w 8 8) && decide (bits w 8 8 < bits w 16 8)
   else if r = R.CAL_GAIN_MAX then decide (bits w 0 16 < v)
   else if r = R.MON_T_CRIT then
     decide ((if 60 ≤ bits w 0 8 ∧ bits w 0 8 ≤ 120 then bits w 0 8 else s.get R.MON_T_WARN) < v) && decide (v ≤ 124)
   else if r = R.TIMING_PB_LIVE_EDIT ∨ r = R.SLC_SKIM_BYPASS ∨ r = R.PWR_DOM_FORCE_w then s.mode == .service
   else if r = R.BLK_CTRL_ENABLE then !(enableFixed p)
   else if r = R.MOT_AXa_SHADOW then decide (4 ≤ p) && (decide (v ≤ 3) || decide (v = 7))
   else if r = R.ARB_QUOTA_i then decide (v = 0 ∧ 10 ≤ i) || decide (arbLargest i ≤ v)
   else true)
where
  /-- Largest transaction of an arbiter input, in 64-byte units, below which a quota write is ignored (R318, R338). -/
  arbLargest (i : Nat) : Nat := if i = 0 ∨ i = 2 then 1 else if i = 1 ∨ i = 4 ∨ i = 7 then 4 else 32

/-- Register write to one RWS field: into the shadow (R506). -/
def State.shadowWrite (s : State) (r : Row) (p i v : Nat) : State :=
  { s with shadow := smPut s.shadow (Row.code r p i) { value := v % 2 ^ r.width, width := r.width, bnd := r.bnd } }

/-- The bits of `v` that row `r` takes, low bits that are not stored cleared (R583). -/
def Row.field (r : Row) (w : Nat) : Nat := bits w r.lsb r.width / 2 ^ r.align * 2 ^ r.align

/-- Does a shadow that waits for boundary `b` come into force at an occurrence of boundary `at_`? LINE and OLINE writes also act
at PAGE, and every write acts at IDLE entry; PASS stands apart (R20). -/
def boundaryDue (b at_ : Boundary) : Bool :=
  match at_ with
  | .commit => b == .commit
  | .line => b == .line
  | .oline => b == .oline
  | .pass => b == .pass
  | .page => b == .page || b == .line || b == .oline
  | .idle => b != .commit

/-- Bring into force the shadows due at a boundary (R33, second). -/
def State.shadowsTakeEffect (s : State) (b : Boundary) : State :=
  { s with
    regs := s.shadow.foldl (fun m e => if boundaryDue (s.waitsFor e) b then smPut m e.1 (e.2.value % 2 ^ e.2.width) else m) s.regs
    shadow := s.shadow.filter (fun e => !(boundaryDue (s.waitsFor e) b)) }

/-- Bring into force the shadows of one page that are due at a boundary (R432). -/
def State.pageTakesEffect (s : State) (page : Nat) (b : Boundary) : State :=
  let due (e : Nat × Shadow) : Bool := decide (pageLo page ≤ e.1) && decide (e.1 < pageHi page) && boundaryDue e.2.bnd b
  { s with
    regs := s.shadow.foldl (fun m e => if due e then smPut m e.1 (e.2.value % 2 ^ e.2.width) else m) s.regs
    shadow := s.shadow.filter (fun e => !(due e)) }

/-- Drop the waiting shadow of one field. -/
def State.unshadow (s : State) (r : Row) (p i : Nat := 0) : State := { s with shadow := smDel s.shadow (Row.code r p i) }

/-- Fields whose reads a FREEZE never covers (R505). -/
def neverFrozen (r : Row) : Bool :=
  r.acc != .ro && r.acc != .w1c || r.off == 0x00C && r.page == 0 && r.pages == 4096 || r.off == 0x030 && r.pages == 4096 ||
  r = R.SHADOW_STAT_VAL || r = R.HOD_LEG_DATA

end Sys2Proof.Machine
end

