-- ==== Sys2Proof/Machine/Domains.lean ====
section
/-! DEFINITION. The switched power domains (R533 to R536): the condition under which each is on, and the switching that follows a
change of state. -/
namespace Sys2Proof.Machine
open Sys2Proof

/-- SEG_EN of the slice's segment is asserted, or is about to be (R61, R534). -/
def Slice.powered (x : Slice) : Bool := x.bring != .off && x.bring != .stagger

/-- The condition of R534 under which domain `d` is on. -/
def domWanted (s : State) (d : Nat) : Bool :=
  let slice (k : Nat) : Bool := decide (k < Variant.slices s.variant)
  let slcOn (k : Nat) : Bool :=
    slice k && ((s.slice k).powered || (s.slice k).contributing || (s.slice k).bring == .stagger || decide (k ∈ s.runSlices))
  let cluOn (c : Nat) : Bool := [0, 1, 2, 3].any (fun j => slcOn (4 * c + j))
  let present : Bool :=
    if d < 24 then slice d else if d < 48 then slice (d - 24) else if d < 54 then decide (d - 48 < Variant.clusters s.variant)
    else if d < 60 then decide (d - 54 < Variant.clusters s.variant)
    else if d < 62 then Variant.hasTrk s.variant else if d < 66 then Variant.hasIns s.variant else decide (d < 80)
  let forced : Bool := s.mode == .service && bitOf (s.get R.PWR_DOM_FORCE_w 0 (d / 32)) (d % 32)
  let cond : Bool :=
    if d < 24 then (s.slice d).powered || (s.slice d).bring == .stagger || decide (d ∈ s.runSlices)
    else if d < 48 then slcOn (d - 24)
    else if d < 54 then cluOn (d - 48)
    else if d < 60 then
      cluOn (d - 54) && s.bit R.SPARE_CTRL_LANE_EN && s.get R.SPARE_LANEc_STATE 0 (d - 54) != 2
    else if d < 62 then
      s.bit R.TRK_CTRL_EN && (s.inJob || s.mode == .calibrate) &&
        (List.range 12).any (fun i => (s.slice (12 * (d - 60) + i)).contributing)
    else if d < 66 then s.bit R.INS_CTRL_EN && s.mode == .inspect || s.runColour
    else if d = 66 then s.mode == .capture
    else if d = 79 then bitOf (s.get R.SEC_DBG_STAT_PERM) 0 || bitOf (s.get R.SEC_DBG_STAT_PERM) 1
    else s.domStart || d = 78 && s.pwr.boot == .recovery
  present && (cond || forced)

/-- The registers PWR_DOM_ON_0 to PWR_DOM_ON_2 (R551). -/
def domOnRow (d : Nat) : Row := if d < 32 then R.PWR_DOM_ON_0 else if d < 64 then R.PWR_DOM_ON_1 else R.PWR_DOM_ON_2

def domIsOn (s : State) (d : Nat) : Bool := bitOf (s.get (domOnRow d)) (d % 32)

def domSet (s : State) (d : Nat) (b : Bool) : State := s.set (domOnRow d) (setBit (s.get (domOnRow d)) (d % 32) b)

/-- A paired reset: transfers and pending events of every crossing of the clocks of `codes` are dropped and not counted (R542, R545). -/
def xingReset (s : State) (codes : List Nat) : State :=
  { s with pwr := { s.pwr with
      xings := s.pwr.xings.filter (fun e => !(decide (e.1 / 16 ∈ codes) || decide (e.1 % 16 ∈ codes))) } }

/-- Switch one domain as its condition now stands (R535). A cluster that goes off takes its crossings with it (R550). -/
def domSwitch (s : State) (d : Nat) : State :=
  if domWanted s d then
    if domIsOn s d || d ∈ s.domWait || d ∈ s.domFailed then s
    else ({ s with domWait := s.domWait ++ [d] }).inc R.PWR_DOM_SWITCH_CNT
  else
    let s1 := { s with domFailed := s.domFailed.filter (· != d) }
    if domIsOn s1 d || d ∈ s1.domWait then
      let s2 := (domSet { s1 with domWait := s1.domWait.filter (· != d) } d false).inc R.PWR_DOM_SWITCH_CNT
      if 48 ≤ d ∧ d < 54 then xingReset s2 [d - 40] else s2
    else s1

/-- Switch every domain as its condition now stands (R534). -/
def domSync (s : State) : State := s.each (List.range 80) domSwitch

end Sys2Proof.Machine
end

