-- ==== Sys2Proof/Machine/Pattern.lean ====
section
/-! DEFINITION. The pattern book (R62 to R69): slots, the checks at commit, the bank swap, and edits of the live bank. -/
namespace Sys2Proof.Machine
open Sys2Proof

/-- One slot of a bank (R62). -/
structure Slot where
  start : Nat
  len : Nat
  mask : Nat
  flags : Nat
deriving DecidableEq, Repr

def slotOf (lo hi : Nat) : Slot := { start := bits lo 0 16, len := bits lo 16 16, mask := bits hi 0 16, flags := bits hi 16 16 }

def Slot.isPeriod (t : Slot) : Bool := bitOf t.flags 0

/-- The slot acts in lines of this parity, true for odd (R62). -/
def Slot.acts (t : Slot) (odd : Bool) : Bool := if odd then !(bitOf t.flags 1) else !(bitOf t.flags 2)

def bankRow (b : Nat) : Row := if b = 0 then R.TIMING_PB_BANK0 else R.TIMING_PB_BANK1

def bankWord (s : State) (b w : Nat) : Nat := s.get (bankRow b) 0 w

/-- The 64 slots of bank `b`. -/
def bankSlots (s : State) (b : Nat) : List Slot :=
  (List.range 64).map (fun n => slotOf (bankWord s b (2 * n)) (bankWord s b (2 * n + 1)))

def liveBank (s : State) : Nat := s.get R.TIMING_PB_STAT_ACTIVE

/-- The slots in force in the line in progress: those of the live bank, but for slots whose old content still runs (R68). -/
def liveSlots (s : State) : List Slot :=
  (List.range 64).map (fun n =>
    match smFind s.timing.pbOld n with
    | some w => slotOf w.1 w.2
    | none => slotOf (bankWord s (liveBank s) (2 * n)) (bankWord s (liveBank s) (2 * n + 1)))

/-- The line period of a bank (R63). -/
def bankPeriod (ts : List Slot) : Nat :=
  match ts.find? Slot.isPeriod with
  | none => 65536
  | some t => if t.start = 0 then 65536 else t.start

/-- The union of an interval from `a` to `e` with intervals whose starts ascend from `a`. -/
def mergeFrom (a e : Nat) : List (Nat × Nat) → List (Nat × Nat)
  | [] => [(a, e)]
  | (a2, e2) :: l => if a2 ≤ e then mergeFrom a (max e e2) l else (a, e) :: mergeFrom a2 e2 l

/-- The union of intervals whose starts ascend: slots that touch or overlap make one interval (R62). -/
def mergeIv : List (Nat × Nat) → List (Nat × Nat)
  | [] => []
  | (a, e) :: l => mergeFrom a e l

/-- The intervals over which the signals that `want` picks are asserted in lines of one parity (R62). -/

def sigIv (ts : List Slot) (odd : Bool) (want : Nat → Bool) : List (Nat × Nat) :=
  mergeIv (sortBy (·.1) ((ts.filter (fun t => !t.isPeriod && t.acts odd && t.len != 0 && want t.mask)).map
    (fun t => (t.start, t.start + t.len))))

def ivLen (l : List (Nat × Nat)) : Nat := sumN (l.map (fun i => i.2 - i.1))

/-- Signals of the MASK field (R62). -/
def sgSP := 0
def sgCLKGATE := 1
def sgCLAMP := 2
def sgTONE := 3
def sgSAMPLE := 4
def sgMARK := 5
def sgTRK := 6

def iv (ts : List Slot) (odd : Bool) (b : Nat) : List (Nat × Nat) := sigIv ts odd (fun m => bitOf m b)

/-- An output signal at pixel-clock count `c` of the line in progress: the OR of its MASK bit over the slots active there (R62). -/
def sigAt (s : State) (b c : Nat) : Bool :=
  (liveSlots s).any (fun t => !t.isPeriod && t.acts (bitOf (s.get R.TIMING_LINE_CNT) 0) && bitOf t.mask b &&
    decide (t.start ≤ c) && decide (c < t.start + t.len))

/-- SEG_SP_P/N of segment `k` is driven high at count `c`: to every powered segment (R62). -/
def pinSegSp (s : State) (k c : Nat) : Bool := s.bit R.SLC_SEG_STAT_POWERED k && sigAt s sgSP c

/-- SEG_CLK_P/N is held low at count `c` (R62). -/
def clockGated (s : State) (c : Nat) : Bool := sigAt s sgCLKGATE c

/-- The input clamps are closed, and the test-tone burst is injected, at count `c` (R62). -/
def clampClosed (s : State) (c : Nat) : Bool := sigAt s sgCLAMP c
def toneInjected (s : State) (c : Nat) : Bool := sigAt s sgTONE c

/-- The live bank asserts SP somewhere (R75). -/
def assertsSP (s : State) : Bool := (iv (liveSlots s) false sgSP != []) || (iv (liveSlots s) true sgSP != [])

/-- Two lists of intervals share no clock. -/
def ivDisjoint (l m : List (Nat × Nat)) : Bool := l.all (fun i => m.all (fun j => decide (i.2 ≤ j.1) || decide (j.2 ≤ i.1)))

/-- Checks 0x203 to 0x208 look at the lines of each parity (R64). -/
def pbSampleOk (ts : List Slot) (need : Nat) (odd : Bool) : Bool :=
  match iv ts odd sgSAMPLE with
  | [(a, e)] => decide (need ≤ e - a)
  | _ => false

def pbBlankOk (ts : List Slot) (odd : Bool) : Bool :=
  let p := bankPeriod ts
  let sm := iv ts odd sgSAMPLE
  let cl := iv ts odd sgCLAMP
  let tn := iv ts odd sgTONE
  decide (96 ≤ p - ivLen sm) && cl.all (fun i => decide (16 ≤ i.2 - i.1)) && decide (tn.map (fun i => i.2 - i.1) = [48]) &&
  decide (32 ≤ p - ivLen (sigIv ts odd (fun m => bitOf m sgCLAMP || bitOf m sgTONE || bitOf m sgSAMPLE))) &&
  ivDisjoint cl tn && ivDisjoint cl sm && ivDisjoint tn sm

/-- Check 0x208: after SAMPLE, round the LINE boundary: CLAMP starts before TONE, then 16 guard clocks before SAMPLE (R64). -/
def pbOrderOk (ts : List Slot) (odd : Bool) : Bool :=
  let p := bankPeriod ts
  match iv ts odd sgSAMPLE, iv ts odd sgTONE with
  | (a, e) :: _, (t, te) :: _ =>
    let o (x : Nat) : Nat := (x + p - e) % p
    let blank := p - (e - a)
    let ts' := o t
    let tend := ts' + (te - t)
    let cl := (iv ts odd sgCLAMP).map (fun i => (o i.1, o i.1 + (i.2 - i.1)))
    cl.any (fun i => decide (i.1 < ts')) &&
      decide (16 ≤ (blank - tend) - sumN (cl.map (fun i => min i.2 blank - max i.1 tend)))
  | _, _ => false

/-- The checks of R64 at commit, in the table's order; `need` is LEAD_DUMMY + PIX_PER_TAP of the longest enabled segment. -/
def pbCheck (ts : List Slot) (need : Nat) : Option Nat :=
  let par := [false, true]
  let p := bankPeriod ts
  if (ts.filter Slot.isPeriod).length ≠ 1 ∨ p < 1024 ∨ 65535 < p then some 0x201
  else if ts.any (fun t => decide (8 ≤ t.flags) || (bitOf t.flags 1 && bitOf t.flags 2) ||
      (!t.isPeriod && (decide (p < t.start + t.len) || decide (128 ≤ t.mask)))) then some 0x202
  else if par.any (fun q => !(pbSampleOk ts need q)) then some 0x203
  else if par.any (fun q => !(pbBlankOk ts q)) then some 0x204
  else if [sgMARK, sgTRK].any (fun b => par.all (fun q => decide (iv ts q b = []))) then some 0x205
  else if ts.any (fun t => !t.isPeriod && t.len != 0 && (bitOf t.flags 1 || bitOf t.flags 2) &&
      (bitOf t.mask sgSAMPLE || bitOf t.mask sgCLAMP || bitOf t.mask sgTONE)) then some 0x206
  else if par.any (fun q => !(pbOrderOk ts q)) then some 0x208
  else none

/-- A write to a slot word that is no live edit: the inactive bank takes it unless a commit is pending (R64, R65); the live bank
takes none (R68). -/
def pbSlotWrite (s : State) (bank word v : Nat) : State :=
  if bank = liveBank s then s
  else if s.bit R.TIMING_PB_STAT_PENDING then s.set R.TIMING_PB_STAT_WRITE_LOST 1
  else s.set (bankRow bank) v 0 word

/-- A write to the live bank under TIMING_PB_LIVE_EDIT at pixel-clock count `count` (R68, R69). DESIGN CHOICE (log 125): a held lower word is kept by
its slot number when LIVE_EDIT clears or the banks swap, and the next live edit of that slot uses it. -/
def pbLiveEdit (s : State) (slot : Nat) (upper : Bool) (v count : Nat) : State :=
  if !(s.bit R.TIMING_PB_LIVE_EDIT) || s.mode != .service then pbSlotWrite s (liveBank s) (2 * slot + b2n upper) v
  else
    let b := liveBank s
    let s1 := s.set R.TIMING_PB_STAT_DIRTY 1
    if !upper then { s1 with timing := { s1.timing with pbHeld := smPut s1.timing.pbHeld slot v } }
    else
      let oldLo := bankWord s b (2 * slot)
      let oldHi := bankWord s b (2 * slot + 1)
      let run := (smFind s.timing.pbOld slot).getD (oldLo, oldHi)
      let old := slotOf run.1 run.2
      let lo := (smFind s.timing.pbHeld slot).getD oldLo
      let new := slotOf lo v
      let keep := decide (old.start ≤ count) || old.isPeriod || new.isPeriod
      let s2 := (s1.set (bankRow b) lo 0 (2 * slot)).set (bankRow b) v 0 (2 * slot + 1)
      { s2 with timing := { s2.timing with
          pbHeld := smDel s2.timing.pbHeld slot
          pbOld := if keep then smPut s2.timing.pbOld slot run else s2.timing.pbOld } }

/-- The write of 1 to TIMING_PB_COMMIT (R64, R65, R68, R69, R295): `longest` is the longest period allowed, in CAPTURE. DESIGN CHOICE (log 125): DIRTY
clears as the commit passes its checks, before the banks swap. -/
def pbCommit (s : State) (need : Nat) (longest : Option Nat) : State :=
  if s.bit R.TIMING_PB_LIVE_EDIT || s.bit R.TIMING_PB_STAT_PENDING then s
  else
    let ts := bankSlots s (1 - liveBank s)
    let code := match pbCheck ts need, longest with
      | some c, _ => some c
      | none, some p => if p < bankPeriod ts then some 0x207 else none
      | none, none => none
    match code with
    | some c => (s.set R.TIMING_PB_REFUSED 1).err pgTIMING c
    | none => (s.set R.TIMING_PB_STAT_PENDING 1).set R.TIMING_PB_STAT_DIRTY 0

/-- The bank swap at a LINE boundary (R64). DESIGN CHOICE (log 125): a PAGE or IDLE boundary before it does not swap the banks. -/
def pbSwap (s : State) : State :=
  if s.bit R.TIMING_PB_STAT_PENDING then (s.set R.TIMING_PB_STAT_ACTIVE (1 - liveBank s)).set R.TIMING_PB_STAT_PENDING 0 else s

/-- A new line begins: edits come into force whole and the period is taken (R63, R68). -/
def pbNewLine (s : State) : State :=
  let s1 := { s with timing := { s.timing with pbOld := [], content := none } }
  s1.set R.TIMING_LINE_PERIOD (bankPeriod (liveSlots s1))

/-- Capture line `a` lies before capture line `b`, counted modulo 2³² (R75). -/
def lineBefore (a b : Nat) : Bool := a != b && decide ((b + 2 ^ 32 - a) % 2 ^ 32 < 2 ^ 31)

/-- TIMING_LINE_CNT restarts at 0 at an exit from IDLE; the line in progress is line 0 of the new count (R75, R81; log 106). -/
def lineRestart (s : State) : State :=
  { s.set R.TIMING_LINE_CNT 0 with
    timing := { s.timing with lineLatch := [], restarted := true, content := none, contentWas := none }
    scrim := { s.scrim with stamps := [] } }

/-- Count of encoder `e`, signed 48 bits (R255). -/
def encCount (s : State) (e : Nat) : Int := ofTwos 48 (s.get64 R.MOT_ENCe_CNT_LO R.MOT_ENCe_CNT_HI 0 e)

/-- Position of axis or generator `a` in microsteps, signed 48 bits (R240). -/
def axPos (s : State) (a : Nat) : Int := ofTwos 48 (s.get64 R.MOT_AXa_POS_LO R.MOT_AXa_POS_HI a)

/-- PATTERN_SLOT_START: the first MARK interval takes the PTP time of the line, the first TRK interval the encoder counts
and the count of the FEED generator (R62, R188, R255). A slot that is not in force, or acts in the other parity, starts nothing. -/
def patternStart (s : State) (slot : Nat) : State :=
  match (liveSlots s)[slot]? with
  | none => s
  | some t =>
    if t.isPeriod || t.len = 0 || !(t.acts (bitOf (s.get R.TIMING_LINE_CNT) 0)) then s
    else
      let s1 := if bitOf t.mask sgMARK && s.timing.mark = none then { s with timing := { s.timing with mark := some s.ts } } else s
      if bitOf t.mask sgTRK && s1.timing.trk = none then
        { s1 with timing := { s1.timing with trk := some ([encCount s 0, encCount s 1], axPos s 0) } }
      else s1

end Sys2Proof.Machine
end

