-- ==== Sys2Proof/Machine/Seg.lean ====
section
/-! DEFINITION. The segment table (R45 to R61, R121): the fields of an entry, its checks, its reload at a boundary, the power each
segment claims, bring-up and switching off. -/
namespace Sys2Proof.Machine
open Sys2Proof

/-- A segment table entry: 256 bytes (R52). -/
abbrev Entry := List (BitVec 8)

def segFlags (e : Entry) : Nat := leAt e 0 4
def segEnabled (e : Entry) : Bool := bitOf (segFlags e) 0
def segRows (e : Entry) : Nat := bits (segFlags e) 1 3
def segTaps (e : Entry) : Nat := 1 + bits (segFlags e) 4 1
def segTapDir (e : Entry) (t : Nat) : Bool := bitOf (segFlags e) (5 + t)
def segPpt (e : Entry) : Nat := leAt e 4 2
def segLead (e : Entry) : Nat := leAt e 6 2
def segRowPx (e : Entry) : Nat := segTaps e * segPpt e
def segDesc (e : Entry) (i : Nat) : Nat := leAt e (8 + 4 * i) 4
/-- Row descriptor i: role, offset in 1/16 line, input of tap t (R53). -/
def descRole (d : Nat) : Nat := bits d 0 3
def descOfs (d : Nat) : Nat := bits d 4 11
def descInput (d t : Nat) : Nat := bits d (16 + 4 * t) 4
def segOvlL (e : Entry) : Nat := leAt e 0x1C 2
def segOvlR (e : Entry) : Nat := leAt e 0x1E 2
def segX (e : Entry) : Int := leAtI e 0x20 8
def segStagger (e : Entry) : Nat := leAt e 0x28 4
def segAlpha (e : Entry) : Nat := leAt e 0x2C 2
def segTRef (e : Entry) : Int := leAtI e 0x2E 2
def segAfe (e : Entry) (c : Nat) : Nat := leAt e (0x30 + 4 * c) 4
def segIllum (e : Entry) : List Nat := (List.range 4).map (fun i => leAt e (0x58 + 2 * i) 2)
def segIllumMax (e : Entry) : Nat := leAt e 0x60 2
def segPowerMw (e : Entry) : Nat := leAt e 0x62 2
def segSupSet (e : Entry) : Nat := leAt e 0x64 2
def segSupLo (e : Entry) : Nat := leAt e 0x66 2
def segSupHi (e : Entry) : Nat := leAt e 0x68 2
def segMode (e : Entry) (i : Nat) : Nat := leAt e (0x6C + 4 * i) 4
def segWinCount (e : Entry) : Nat := leAt e 0x7C 1
/-- Tracker window w: first pixel and width. -/
def segWin (e : Entry) (w : Nat) : Nat × Nat := (bits (leAt e (0x80 + 4 * w) 4) 0 14, bits (leAt e (0x80 + 4 * w) 4) 16 11)
def segDeadPtr (e : Entry) : Nat := leAt e 0xC0 8
def segDeadCount (e : Entry) : Nat := leAt e 0xC8 2
def segModel (e : Entry) : Nat := leAt e 0xCC 4

/-- The used row descriptors. -/
def segDescs (e : Entry) : List Nat := (List.range (segRows e)).map (segDesc e)

/-- Descriptor of a row code, if the segment has the row. -/
def segRow? (e : Entry) (role : Nat) : Option Nat := (segDescs e).find? (fun d => descRole d = role)

/-- Inputs a used row assigns, with the row code and tap of each (R50). -/
def segInputs (e : Entry) : List (Nat × Nat × Nat) :=
  (segDescs e).flatMap (fun d => (List.range (segTaps e)).map (fun t => (descInput d t, descRole d, t)))

def segInput? (e : Entry) (c : Nat) : Option (Nat × Nat) := ((segInputs e).find? (fun x => x.1 = c)).map (·.2)

def segAssigned (e : Entry) (c : Nat) : Bool := (segInput? e c).isSome

/-- The slice's AFE, SLC and CLU pages all have ENABLE = 1 (R503). -/
def slicePagesOn (s : State) (k : Nat) : Bool :=
  s.bit R.BLK_CTRL_ENABLE (pgAFE k) && s.bit R.BLK_CTRL_ENABLE (pgSLC k) && s.bit R.BLK_CTRL_ENABLE (pgCLU (k / 4))

/-- An entry of a present slice that is enabled, its pages' ENABLE bits included (R9, R503). -/
def entryEn (s : State) (k : Nat) (e : Option Entry) : Bool :=
  decide (k < Variant.slices s.variant) && slicePagesOn s k && (match e with | some b => segEnabled b | none => false)

def segEn (s : State) (k : Nat) : Bool := entryEn s k (s.slice k).entry

/-- BUDGET_DENIED of a slice (R59). -/
def segDenied (s : State) (k : Nat) : Bool := s.bit R.SLC_SEG_STAT_BUDGET_DENIED k

/-- Slice k's entry in force, where it is enabled and contributes (R60). -/
def contribEntry (s : State) (k : Nat) : Option Entry :=
  if (s.slice k).contributing then (s.slice k).entry else none

/-- POE_FIRST_DENIED: the lowest segment that is denied or shed now, 31 where none is (log 109). -/
def deniedFirst (s : State) : State :=
  s.set R.POE_FIRST_DENIED (((List.range 24).find? (segDenied s)).getD 31)

/-- Contributing segments, ascending. -/
def contribs (s : State) : List Nat := (List.range 24).filter (fun k => (s.slice k).contributing)

/-- Contributing segments with their entries. -/
def contribPairs (s : State) : List (Nat × Entry) := (contribs s).filterMap (fun k => ((s.slice k).entry).map (fun e => (k, e)))

/-! ## Checks of an entry (R55, R66, R121) -/

def dupBefore : List Nat → List Nat → Nat → Option Nat
  | _, [], _ => none
  | seen, x :: l, i => if x ∈ seen then some i else dupBefore (seen ++ [x]) l (i + 1)

/-- Lines in nm: 286,720 lines × 21,166 2/3 nm, rounded down (R55 check 7; log 11). -/
def barNm : Int := 286720 * 63500 / 3

/-- Three times `px` pixels in nm: one pixel is 63,500 / 3 nm (R15). -/
def px3 (n : Int) : Int := n * 63500

/-- The first failing check of entry `e` of slice `k`, as ERR_CODE and byte offset; `l` and `r` are the neighbours' entries where they
are enabled, neither absent nor denied (R49, R55). What the rules set no limit to is decided as log 114 says. -/
def segCheck (e : Entry) (l r : Option Entry) : Option (Nat × Nat) :=
  if leAt e 0xFC 4 ≠ crc32c (e.take 0xFC) then some (0x108, 0xFC)
  else if !(segEnabled e) then none
  else
    let n := segRows e
    if n < 1 ∨ 5 < n then some (0x101, 0x00)
    else
      let roles := (segDescs e).map descRole
      let badRole := roles.findIdx? (fun x => decide (4 < x))
      let dup := dupBefore [] roles 0
      let first := match badRole, dup with
        | some a, some b => some (min a b) | some a, none => some a | none, b => b
      match first with
      | some i => some (0x101, 8 + 4 * i)
      | none =>
        let lim := if segTaps e = 2 then 6144 else 12288
        if segPpt e < 256 ∨ lim < segPpt e then some (0x103, 0x04)
        else
          let ins := (segDescs e).flatMap (fun d => (List.range (segTaps e)).map (descInput d))
          let bad := ins.findIdx? (fun x => decide (9 < x))
          let dup := dupBefore [] ins 0
          let first := match bad, dup with
            | some a, some b => some (min a b) | some a, none => some a | none, b => b
          match first with
          | some j => some (0x103, 8 + 4 * (j / segTaps e))
          | none =>
            let badAfe := ((List.range 10).filter (segAssigned e)).find? (fun c =>
              let w := segAfe e c
              bits w 5 11 != 0 || bits w 25 7 != 0 || decide (ofTwos 9 (bits w 16 9) < -128) || decide (128 < ofTwos 9 (bits w 16 9)))
            let badIl := (segIllum e).findIdx? (fun x => decide (segIllumMax e < x))
            match badAfe, badIl with
            | some c, _ => some (0x106, 0x30 + 4 * c)
            | none, some i => some (0x106, 0x58 + 2 * i)
            | none, none =>
              if !(decide (segSupLo e < segSupSet e) && decide (segSupSet e < segSupHi e)) then some (0x109, 0x64)
              else
                let rng (v : Nat) : Bool := decide (256 ≤ v) && decide (v ≤ 1024)
                let okL := match l with
                  | some b => rng (segOvlL e) && segOvlL e = segOvlR b
                  | none => decide (segOvlL e = 0) || rng (segOvlL e)
                let okR := match r with
                  | some b => rng (segOvlR e) && segOvlR e = segOvlL b
                  | none => decide (segOvlR e = 0) || rng (segOvlR e)
                if !okL then some (0x104, 0x1C) else if !okR then some (0x104, 0x1E)
                else
                  let okX := match l with
                    | some b =>
                      decide (segX b < segX e) &&
                      (let d := 3 * (segX e - segX b) - px3 ((segRowPx b : Int) - segOvlR b)
                       decide (-(px3 32) ≤ d) && decide (d ≤ px3 32))
                    | none => true
                  if !(okX && decide (0 ≤ segX e) && decide (3 * segX e + px3 (segRowPx e) ≤ px3 286720)) then some (0x105, 0x20)
                  else
                    let wc := segWinCount e
                    let hasN := (segRow? e 3).isSome && (segRow? e 4).isSome
                    if 16 < wc ∨ (wc ≠ 0 ∧ hasN = false) then some (0x107, 0x7C)
                    else
                      match (List.range wc).find? (fun w =>
                          let x := segWin e w
                          decide (x.2 < 256) || decide (1024 < x.2) || decide (segRowPx e < x.1 + x.2)) with
                      | some w => some (0x107, 0x80 + 4 * w)
                      | none =>
                        match segRow? e 3, segRow? e 4 with
                        | some a, some b =>
                          if descOfs b ≤ descOfs a then
                            some (0x102, 8 + 4 * ((segDescs e).findIdx? (fun d => descRole d = 4)).getD 0)
                          else none
                        | _, _ => none

/-- Entry k as the DRAM copy of the table stands (R51, R57). -/
def segDram (s : State) (k : Nat) : Entry :=
  memBytes s.mem (s.get64 R.TIMING_SEG_BASE_LO R.TIMING_SEG_BASE_HI + 256 * k) 256

/-- Key of a pixel of a row in the shading table: 12,288 × row code + LOC_PIX (R119). -/
def pxKey (role p : Nat) : Nat := role * 12288 + p

/-- Shading words start at unity: dark 0, gain 0x4000 (log 12: the spec gives none before a table is loaded). -/
def shadeUnity : Nat := 0x40000000

def shadeWord (sh : List (Nat × Nat)) (role p : Nat) : Nat := smGet shadeUnity sh (pxKey role p)

/-- The dead pixels of a list: (row code, pixel, all rows). -/
def deadList (s : State) (e : Entry) : List (Nat × Nat × Bool) :=
  if segDeadPtr e = 0 then [] else
  (List.range (segDeadCount e)).map (fun i =>
    let w := leNat (memBytes s.mem (segDeadPtr e + 4 * i) 4)
    (bits w 16 3, bits w 0 14, bitOf w 19))

/-- Entries ascend by row code and pixel without a duplicate (R121). -/
def deadSorted : List (Nat × Nat × Bool) → Bool
  | a :: b :: l =>
    let key (x : Nat × Nat × Bool) : Nat := (if x.2.2 then 0 else x.1) * 16384 + x.2.1
    decide (key a < key b) && deadSorted (b :: l)
  | _ => true

/-- Keys the list marks dead in the rows the segment has. -/
def deadKeys (e : Entry) (l : List (Nat × Nat × Bool)) : List Nat :=
  let roles := (segDescs e).map descRole
  l.flatMap (fun x => if x.2.2 then roles.map (fun r => pxKey r x.2.1) else if x.1 ∈ roles then [pxKey x.1 x.2.1] else [])

/-- Longest run of trues. -/
def longestRun : List Bool → Nat → Nat → Nat
  | [], _, best => best
  | b :: l, run, best => let r := if b then run + 1 else 0; longestRun l r (max best r)

/-- A pixel is dead by the list or by a gain of 0 (R118, R121). -/
def isDead (sh : List (Nat × Nat)) (dead : List Nat) (role p : Nat) : Bool :=
  decide (pxKey role p ∈ dead) || decide (shadeWord sh role p / 65536 = 0)

/-- No row of the entry has a run of more than 16 dead pixels (R121). -/
def deadRunsOk (e : Entry) (sh : List (Nat × Nat)) (dead : List Nat) : Bool :=
  ((segDescs e).map descRole).all (fun r =>
    decide (longestRun ((List.range (segRowPx e)).map (isDead sh dead r)) 0 0 ≤ 16))

/-- The dead-pixel list check of R121: an entry of a row that the segment lacks counts for the order only; a list or an entry that the loader could not read fails it
(R333). DESIGN CHOICE (log 125): a DEAD_COUNT above 4,096 and a DEAD_PTR that is no multiple of 8 fail it as well. -/
def deadOk (s : State) (k : Nat) (e : Entry) : Bool :=
  let l := deadList s e
  !(dramBad s 5 (s.get64 R.TIMING_SEG_BASE_LO R.TIMING_SEG_BASE_HI + 256 * k) 256) && !(dramBad s 5 (segDeadPtr e) (4 * segDeadCount e)) &&
  decide (segDeadCount e ≤ 4096) && decide (segDeadPtr e % 8 = 0) && deadSorted l &&
  l.all (fun x => (x.2.2 || decide (x.1 ≤ 4)) && (decide (x.2.1 < segRowPx e) || (!x.2.2 && (segRow? e x.1).isNone))) &&
  deadRunsOk e (s.slice k).shading (deadKeys e l)

/-! ## The ring depth (R137) -/

/-- D_need = ceil(L / F) + 2 with L over every row of the given segments, in units of 1/(3 × 16 × 63,500 / 3) line:
STAGGER / 21,166.67 + offset = (48 × STAGGER + 63,500 × offset16) / (16 × 63,500) lines. -/
def ringNeed (f : Nat) (es : List Entry) : Nat :=
  let ls : List Int := es.flatMap (fun e => (segDescs e).map (fun d => ((48 * segStagger e + 63500 * descOfs d : Nat) : Int)))
  ceilDiv (maxI ls - minI ls).toNat (16 * 63500 * f) + 2

/-- MC_RING_NEED reads 2,047 for any depth above 2,046 (R137). -/
def ringNeedSet (s : State) (n : Nat) : State := s.set R.MC_RING_NEED (min n 2047)

/-! ## The budget (R388) -/

def availPower (s : State) : Nat := s.get R.POE_BUDGET_MW - s.get R.POE_RESERVE_MW

def needPower (s : State) (claim : Nat) : Nat := ceilDiv ((s.get R.POE_DEV_MW + claim) * 1000) (s.get R.POE_EFF_PM)

def segClaim (s : State) (k : Nat) : Nat := match (s.slice k).entry with | some e => segPowerMw e | none => 0

/-- Segments powered or admitted to be (R59, R549). -/
def segsPowered (s : State) : List Nat := (List.range 24).filter (fun k => (s.slice k).bring != .off)

def claimOf (s : State) (l : List Nat) : Nat := sumN (l.map (segClaim s))

/-- Largest prefix of `l` that fits beside the set already powered (R388): admitted, turned away. -/
def admits (s : State) : Nat → List Nat → List Nat × List Nat
  | _, [] => ([], [])
  | c, k :: l =>
    if needPower s (c + segClaim s k) ≤ availPower s then
      let r := admits s (c + segClaim s k) l
      (k :: r.1, r.2)
    else ([], k :: l)

/-! ## Events and power -/

/-- The 32-byte class 0 event of segments and front end (R112). -/
def State.segEvent (s : State) (code detail location value : Nat) : State :=
  s.emit 0 0x02 0x01 (leBytes 1 code ++ leBytes 1 detail ++ leBytes 2 0 ++ leBytes 4 location ++ leBytes 4 value ++
    leBytes 4 (s.get R.TIMING_LINE_CNT) ++ leBytes 8 s.ts ++ leBytes 8 0)

def powerCount (s : State) : State := s.set R.POE_SEG_POWERED (segsPowered s).length

/-- SEG_EN deasserts (R60, R61, R79, R92, R390): the link's transactions end with it. -/
def segOff (s : State) (k : Nat) : State :=
  domSync (powerCount (((((s.set R.SLC_SEG_STAT_POWERED 0 k).set R.SLC_SEG_STAT_READY 0 k).modSlice k (fun x =>
    { x with bring := .off, cur := none, queue := [], heldTx := none, supChecks := false, loRun := 0, loSince := none })).set
      R.AFE_SUP_OK 0 k).set R.AFE_SNS_OPEN 0 k))

/-- Restart the running impedance estimate of an input (R96, R99). -/
def zestRestart (s : State) (k c : Nat) : State :=
  ((s.modSlice k (fun x => { x with chans := smMod Chan.init x.chans c (fun ch => { ch with est := [] }) })).set R.AFE_CHc_ZEST_VALID
    0 k c)

/-- SEG_EN asserts: step 1 of bring-up (R61). -/
def segOn (s : State) (k : Nat) : State :=
  let s1 := ((((s.set R.SLC_SEG_STAT_POWERED 1 k).set R.SLC_SEG_STAT_LINK_UP 0 k).set R.SLC_SEG_STAT_READY 0 k).set
    R.SLC_SEG_STAT_LINK_FAILED 0 k).set R.SLC_LINK_REJECT_STATUS 0 k
  let s2 := s1.modSlice k (fun x => { x with
    bring := .supply, cur := none, queue := [], heldTx := none, tempMisses := 0, supChecks := false, loRun := 0, loSince := none, identity := [] })
  domSync (powerCount (s2.each (List.range 10) (fun t c => zestRestart t k c)))

/-- Segments admitted at a boundary, ascending: all at once, or the first now and the rest in turn (R549). -/
def segAdmit (s : State) (l : List Nat) : State :=
  let s1 := powerCount (s.each l (fun t k => t.modSlice k (fun x => { x with bring := .stagger })))
  if s.get R.PWR_SEG_STAGGER_MS = 0 then s1.each l segOn
  else if s1.staggerQ = [] then
    match l with
    | [] => s1
    | k :: m => segOn { s1 with staggerQ := m } k
  else { s1 with staggerQ := s1.staggerQ ++ l }

/-- SEG_POWER_GRANT: power the segments `l` against the budget (R59, R388). -/
def segGrantNow (s : State) (l : List Nat) : State :=
  let r := admits s (claimOf s (segsPowered s)) l
  let s1 := s.each l (fun t k => (t.set R.SLC_SEG_STAT_BUDGET_DENIED 0 k).set R.AFE_SUP_SHUTDOWN 0 k)
  let s2 := s1.each r.2 (fun t k => t.set R.SLC_SEG_STAT_BUDGET_DENIED 1 k)
  let s3 := match r.2 with
    | [] => deniedFirst s2
    | k :: _ => ((deniedFirst s2).raise pgPOE 1).linkEvent 4 k (sumN (r.2.map (fun j => 2 ^ j)))
  segAdmit s3 r.1

/-- The grant, or its wait for the PSE's answer at start-up (R389). -/
def segGrant (s : State) (l : List Nat) : State :=
  if s.poe.wait then { s with poe := { s.poe with waiting := sortBy id (s.poe.waiting ++ l.filter (fun k => decide (k ∉ s.poe.waiting))) } }
  else segGrantNow s l

/-- The next segment in turn: SEG_EN_STAGGER (R549). -/
def segStaggerNext (s : State) : State :=
  match s.staggerQ with
  | [] => s
  | k :: m => let s1 := { s with staggerQ := m }; if (s1.slice k).bring = .stagger then segOn s1 k else s1

end Sys2Proof.Machine
end

