-- ==== Sys2Proof/Machine/Link.lean ====
section
/-! DEFINITION. The segment link (R71 to R81), bring-up over it (R61), switching a segment off (R60) and its supply checks (R89 to
R94). -/
namespace Sys2Proof.Machine
open Sys2Proof

def linkFailed (s : State) (k : Nat) : Bool := s.bit R.SLC_SEG_STAT_LINK_FAILED k

/-- Opcodes (R72). -/
def opPING := 0
def opREAD := 1
def opWRITE := 2
def opRESET := 7

def LinkPurpose.illumination : LinkPurpose → Bool
  | .illumBring => true | .illum => true | .illumOff => true
  | .ping => false | .reset => false | .ident _ => false | .mode _ => false | .temp => false | .poll => false

/-- Preamble, CMD, ADDR, LEN, payload and CRC of a request (R72). -/
def linkFrame (op addr tag : Nat) (data : List (BitVec 8)) : List (BitVec 8) :=
  let body := leBytes 1 (op * 16 + tag) ++ leBytes 2 addr ++ leBytes 1 data.length ++ data
  let crc := crc16 body
  leBytes 1 0xA5 ++ body ++ leBytes 1 (crc / 256) ++ leBytes 1 (crc % 256)

/-- The request frame goes onto the line (R72, R76). -/
def linkSend (s : State) (k : Nat) (c : LinkCur) : State :=
  (s.modSlice k (fun x => { x with cur := some { c with wait := .answer } })).send
    (.seg k (linkFrame c.txn.op c.txn.addr c.tag c.txn.data))

/-- A transaction is due for the line now: an illumination WRITE waits for room before the next SP where the live bank asserts one
(R75). -/
def linkDue (s : State) (k : Nat) (c : LinkCur) : State :=
  if c.txn.purpose.illumination && assertsSP s then s.modSlice k (fun x => { x with cur := some { c with wait := .room } })
  else linkSend (if c.txn.purpose.illumination then s.modSlice k (fun x => { x with spLine := none }) else s) k c

/-- Begin a transaction on a free line: it takes the next tag (R77). -/
def linkBegin (s : State) (k : Nat) (t : LinkTxn) : State :=
  let tag := (s.slice k).nextTag % 16
  linkDue (s.modSlice k (fun x => { x with nextTag := (tag + 1) % 16 })) k { txn := t, tag := tag, attempts := 1, wait := .answer }

/-- A failed LED temperature read (R81). -/
def tempMiss (s : State) (k : Nat) : State :=
  let s1 := s.modSlice k (fun x => { x with tempMisses := min 3 (x.tempMisses + 1) })
  if 3 ≤ (s1.slice k).tempMisses then s1.set R.SLC_LED_TEMP_VALID 0 k else s1

/-- A transaction falls due while the link has failed: a WRITE replaces the held one, a temperature read counts as failed (R80). -/
def linkHold (s : State) (k : Nat) (t : LinkTxn) : State :=
  if t.purpose = .temp then tempMiss s k else s.modSlice k (fun x => { x with heldTx := some t })

/-- A transaction falls due. -/
def linkStart (s : State) (k : Nat) (t : LinkTxn) : State :=
  if linkFailed s k then linkHold s k t
  else match (s.slice k).cur with
    | none => linkBegin s k t
    | some _ => s.modSlice k (fun x => { x with queue := x.queue ++ [t] })

/-- The line is free: the next transaction in the queue begins. -/
def linkNext (s : State) (k : Nat) : State :=
  match (s.slice k).queue with
  | [] => s.modSlice k (fun x => { x with cur := none })
  | t :: q => linkBegin (s.modSlice k (fun x => { x with cur := none, queue := q })) k t

def txnPing : LinkTxn := { purpose := .ping, op := opPING, addr := 0, data := [] }
def txnReset : LinkTxn := { purpose := .reset, op := opRESET, addr := 0, data := [] }
def txnIdent (h : Nat) : LinkTxn := { purpose := .ident h, op := opREAD, addr := 0x100 + 32 * h, data := [32] }
def txnTemp : LinkTxn := { purpose := .temp, op := opREAD, addr := 0x300, data := [2] }
def txnPoll : LinkTxn := { purpose := .poll, op := opPING, addr := 0, data := [] }
def txnMode (i w : Nat) : LinkTxn := { purpose := .mode i, op := opWRITE, addr := bits w 0 8, data := leBytes 2 (bits w 16 16) }
def txnIllum (p : LinkPurpose) (vals : List Nat) : LinkTxn :=
  { purpose := p, op := opWRITE, addr := 0x200, data := vals.flatMap (leBytes 2) }

/-- Write illumination setpoints (R75): bring-up, Primer, standby. -/
def illumWrite (s : State) (k : Nat) (p : LinkPurpose) (vals : List Nat) : State :=
  linkStart (s.modSlice k (fun x => { x with illumSet := vals })) k (txnIllum p vals)

/-- Next MODE_REG from index `i` that is used, then the illumination (R52, R61 step 5). -/
def bringModes (s : State) (k : Nat) (e : Entry) : List Nat → State
  | [] => illumWrite s k .illumBring (segIllum e)
  | i :: l =>
    let w := segMode e i
    if bits w 0 8 = 0 ∧ bits w 16 16 = 0 then bringModes s k e l else linkStart s k (txnMode i w)

/-- Bring-up stops with SEG_EN deasserted; the identity did not match (R61 step 4, R79). -/
def idMismatch (s : State) (k : Nat) : State := segOff (s.set R.SLC_SEG_STAT_ID_MISMATCH 1 k) k

/-- SEG_ID_CHECK: magic, CRC and model of the 64 identity bytes (R61, R74). -/
def idCheck (s : State) (k : Nat) (e : Entry) (b : List (BitVec 8)) : State :=
  let model := leAt b 4 4
  let s1 := (s.set R.SLC_SEG_MODEL model k).set R.SLC_SEG_SERIAL (leAt b 8 4) k
  let bad (d : Nat) : State := idMismatch (s1.segEvent 9 d (locSeg k) model) k
  if leAt b 0 4 ≠ 0x5345474D then bad 1
  else if leAt b 0x3C 4 ≠ crc32c (b.take 0x3C) then bad 2
  else if model = 0 ∨ (segModel e ≠ 0 ∧ segModel e ≠ model) then bad 3
  else bringModes (s1.set R.SLC_SEG_STAT_ID_MISMATCH 0 k) k e [0, 1, 2, 3]

/-- The acknowledged setpoints, and the line from which they apply (R75). -/
def illumAcked (s : State) (k : Nat) (data : List (BitVec 8)) : State :=
  let line := (s.slice k).spLine.getD (s.get R.TIMING_LINE_CNT)
  (s.set R.SLC_ILLUM_LINE line k).modSlice k (fun x => { x with illumAck := (List.range 4).map (fun i => leAt data (2 * i) 2) })

/-- SEG_LINK_RECOVER: the first PING answered while the link had failed (R80). -/
def linkRecover (s : State) (k : Nat) : State :=
  let s1 := (s.set R.SLC_SEG_STAT_LINK_FAILED 0 k).segEvent 8 2 (locSeg k) (s.get R.SLC_LINK_FAILS k)
  match (s1.slice k).heldTx with
  | none => linkNext s1 k
  | some t => linkBegin (s1.modSlice k (fun x => { x with heldTx := none, cur := none })) k t

/-- The light is off, or cannot be turned off, and SEG_EN deasserts; a segment enabled again meanwhile then goes through bring-up (R60; log 114). -/
def turnedOff (s : State) (k : Nat) : State :=
  let s1 := segOff s k
  if segEn s1 k then segGrant s1 [k] else s1

/-- A request was answered with status 0 (R61, R75, R80, R81). The bring-up goes on only while it is under way. -/
def linkAccept (s : State) (k : Nat) (t : LinkTxn) (data : List (BitVec 8)) : State :=
  let s0 := s.modSlice k (fun x => { x with cur := none })
  let going := (s.slice k).bring == .link
  let s1 := match t.purpose with
    | .ping => let u := s0.set R.SLC_SEG_STAT_LINK_UP 1 k; if going then linkStart u k txnReset else u
    | .reset => if going then linkStart (s0.modSlice k (fun x => { x with identity := [] })) k (txnIdent 0) else s0
    | .ident h =>
      if !going then s0
      else
        let u := s0.modSlice k (fun x => { x with identity := x.identity ++ data })
        if h = 0 then linkStart u k (txnIdent 1)
        else match (u.slice k).entry with
          | none => u
          | some e => idCheck u k e (u.slice k).identity
    | .mode i =>
      match going, (s0.slice k).entry with
      | true, some e => bringModes s0 k e ([0, 1, 2, 3].filter (fun j => decide (i < j)))
      | _, _ => s0
    | .illumBring => let u := illumAcked s0 k t.data; if going then u.modSlice k (fun x => { x with bring := .led }) else u
    | .illum => let u := illumAcked s0 k t.data; if going then u.modSlice k (fun x => { x with bring := .led }) else u
    | .illumOff => (illumAcked s0 k t.data).modSlice k (fun x => if x.bring = BringUp.offWrite then { x with bring := BringUp.offDelay } else x)
    | .temp => ((s0.set R.SLC_LED_TEMP (leAt data 0 2) k).set R.SLC_LED_TEMP_VALID 1 k).modSlice k (fun x => { x with tempMisses := 0 })
    | .poll => linkRecover s0 k
  match (s1.slice k).cur with
  | some _ => s1
  | none => if linkFailed s1 k then s1 else linkNext s1 k

/-- SEG_LINK_REJECT: a response with status 2, 3, 5 or a reserved one (R79); a rejected PING of R80 leaves the link failed (log 114). -/
def linkReject (s : State) (k : Nat) (t : LinkTxn) (status : Nat) : State :=
  let s1 := ((((s.set R.SLC_LINK_REJECT_STATUS status k).set R.SLC_LINK_REJECT_OP t.op k).set R.SLC_LINK_REJECT_ADDR t.addr k).inc
    R.SLC_LINK_REJECT_CNT k).segEvent 10 status (locSeg k) (t.addr + t.op * 65536)
  let s2 := s1.modSlice k (fun x => { x with cur := none })
  match t.purpose with
  | .ping => idMismatch s2 k
  | .reset => idMismatch s2 k
  | .ident _ => idMismatch s2 k
  | .mode _ => segOff (s2.set R.SLC_SEG_STAT_REJECTED 1 k) k
  | .illumBring => segOff (s2.set R.SLC_SEG_STAT_REJECTED 1 k) k
  | .illum =>
    if (s2.slice k).bring = .link then segOff (s2.set R.SLC_SEG_STAT_REJECTED 1 k) k
    else linkNext (s2.set R.SLC_SEG_STAT_REJECTED 1 k) k
  | .illumOff => turnedOff (s2.set R.SLC_SEG_STAT_REJECTED 1 k) k
  | .temp => linkNext (tempMiss s2 k) k
  | .poll => s2

/-- SEG_LINK_FAIL: the fourth attempt was lost (R80, R60). -/
def linkFail (s : State) (k : Nat) (t : LinkTxn) : State :=
  let s1 := ((s.set R.SLC_SEG_STAT_LINK_FAILED 1 k).inc R.SLC_LINK_FAILS k)
  let s2 := s1.segEvent 8 1 (locSeg k) (s1.get R.SLC_LINK_FAILS k)
  let s3 := if t.purpose = .temp then tempMiss s2 k else s2
  let q := (s3.slice k).queue
  let s4 := (s3.modSlice k (fun x => { x with cur := none, queue := [], heldTx := some t })).each q (fun u x => linkHold u k x)
  if t.purpose = .illumOff ∨ q.any (fun x => x.purpose = .illumOff) then turnedOff s4 k else s4

/-- An attempt is lost: no valid response, or status 4 (R77). A PING of R80 is a single attempt. -/
def linkLost (s : State) (k : Nat) (c : LinkCur) : State :=
  if c.txn.purpose = .poll then s.modSlice k (fun x => { x with cur := none })
  else if c.attempts < 4 then s.modSlice k (fun x => { x with cur := some { c with wait := .resend } })
  else linkFail s k c.txn

/-- A frame received on the link of segment `k` (R72, R77, R79); of a response of status 0 the LEN is not held to the request (log 114). -/
def linkResponse (s : State) (k : Nat) (frame : List (BitVec 8)) : State :=
  match (s.slice k).cur with
  | none => s
  | some c =>
    if c.wait ≠ .answer then s
    else
      let n := frame.length
      let len := leAt frame 2 1
      let st := leAt frame 1 1 / 16
      let tag := leAt frame 1 1 % 16
      let body := (frame.drop 1).take (n - 3)
      let crc := leAt frame (n - 2) 1 * 256 + leAt frame (n - 1) 1
      if n < 5 ∨ leAt frame 0 1 ≠ 0x5A ∨ 32 < len ∨ n ≠ len + 5 ∨ crc16 body ≠ crc ∨ tag ≠ c.tag ∨ st = 4 then linkLost s k c
      else if st = 0 then linkAccept s k c.txn ((frame.drop 3).take len)
      else linkReject s k c.txn st

/-- 40 µs without a valid response (R76). -/
def linkTimeout (s : State) (k : Nat) : State :=
  match (s.slice k).cur with
  | none => s
  | some c => if c.wait = .answer then linkLost s k c else s

/-- The 10 µs after a lost attempt have passed: the same request with the same tag (R77). -/
def linkResend (s : State) (k : Nat) : State :=
  match (s.slice k).cur with
  | none => s
  | some c =>
    if c.wait = .resend then linkDue (s.inc R.SLC_LINK_RETRIES k) k { c with attempts := c.attempts + 1 } else s

/-- An illumination WRITE that waited for room starts; the next SP begins `ahead` lines on from the line in progress (R75). -/
def linkIllumStart (s : State) (k ahead : Nat) : State :=
  match (s.slice k).cur with
  | none => s
  | some c =>
    if c.wait = .room then
      linkSend (s.modSlice k (fun x => { x with spLine := some ((s.get R.TIMING_LINE_CNT + ahead) % 2 ^ 32) })) k c
    else s

/-- A PING every 100 ms while the link has failed and SEG_EN is asserted (R80). -/
def linkPoll (s : State) (k : Nat) : State :=
  if linkFailed s k && (s.slice k).powered && (s.slice k).cur = none then linkBegin s k txnPoll else s

/-- The LED temperature poll (R81), of a powered segment whose link is up (log 114). -/
def ledTempPoll (s : State) (k : Nat) : State :=
  if s.get R.SLC_LINK_TEMP_POLL k = 0 || !((s.slice k).powered) || !(s.bit R.SLC_SEG_STAT_LINK_UP k) then s
  else linkStart s k txnTemp

/-- Step 3 of bring-up: PING (R61). -/
def bringPing (s : State) (k : Nat) : State :=
  linkStart (s.modSlice k (fun x => { x with bring := .link })) k txnPing

/-- SLC_LINK_RERUN: bring-up again from step 3 (R81, R94). -/
def linkRerun (s : State) (k : Nat) : State :=
  if ((s.slice k).contributing && s.mode != .idle) || !((s.slice k).powered) || !(segEn s k) then s
  else
    bringPing ((((s.set R.SLC_SEG_STAT_READY 0 k).set R.SLC_SEG_STAT_LINK_UP 0 k).modSlice k (fun x => { x with cur := none, queue := [] })))
      k

/-- Step 6 of bring-up: READY (R61, R79). -/
def ledStable (s : State) (k : Nat) : State :=
  if (s.slice k).bring = .led then
    (((s.set R.SLC_SEG_STAT_READY 1 k).set R.SLC_SEG_STAT_REJECTED 0 k).modSlice k (fun x => { x with bring := .ready, readyOnce := true }))
  else s

/-- The segment's entry has turned disabled: its light is written to 0 and SEG_EN follows (R60). -/
def segDisable (s : State) (k : Nat) : State :=
  let s1 := (deniedFirst (s.set R.SLC_SEG_STAT_BUDGET_DENIED 0 k)).modSlice k (fun x => { x with readyOnce := false })
  match (s1.slice k).bring with
  | .off => s1
  | .stagger => powerCount (domSync (({ s1 with staggerQ := s1.staggerQ.filter (· != k) }).modSlice k (fun x => { x with bring := .off })))
  | _ =>
    if linkFailed s1 k then segOff s1 k
    else illumWrite ((s1.set R.SLC_SEG_STAT_READY 0 k).modSlice k (fun x => { x with bring := .offWrite })) k .illumOff [0, 0, 0, 0]

/-- 1 ms after the zero setpoints were acknowledged (R60). -/
def segDeassert (s : State) (k : Nat) : State := if (s.slice k).bring = .offDelay then turnedOff s k else s

/-! ## Supplies (R89 to R94) -/

/-- SEG_EN deasserts on a supply fault (R92). -/
def supShutdown (s : State) (k : Nat) : State :=
  let t := (segOff ((s.set R.AFE_SUP_SHUTDOWN 1 k).raise (pgAFE k) 4) k).modSlice k (fun x => { x with lineSup := true })
  { t with trk := { t.trk with segs := smMod TrkSeg.init t.trk.segs k (fun g => { g with shut := true }) } }

/-- One averaged value, in mV at the segment, is checked against the window (R92): each two consecutive low values set AFE_SUP_FAULT_LO where it does not stand. -/
def supJudge (s : State) (k : Nat) (e : Entry) (mv : Nat) : State :=
  if segSupHi e < mv then
    supShutdown (((s.set R.AFE_SUP_FAULT_HI 1 k).set R.AFE_SNS_OPEN 0 k).segEvent 1 1 (locSeg k) mv) k
  else if mv < segSupLo e then
    let openSns := decide (mv * 100 < 5 * segSupSet e)
    let s1 := ((s.setB R.AFE_SNS_OPEN openSns k).set R.AFE_SUP_OK 0 k).modSlice k (fun x => { x with
      loRun := min 2 (x.loRun + 1), loSince := some (x.loSince.getD s.now) })
    if (s.slice k).loRun = 1 ∨ ((s.slice k).loRun = 2 ∧ s.bit R.AFE_SUP_FAULT_LO k = false) then
      let s2 := (((s1.set R.AFE_SUP_FAULT_LO 1 k).raise (pgAFE k) 4).segEvent 1 (if openSns then 4 else 2) (locSeg k) mv).modSlice k
        (fun x => { x with lineSup := true })
      if s2.get R.AFE_SUP_LO_HOLD k = 0 then supShutdown (s2.segEvent 1 3 (locSeg k) mv) k else s2
    else s1
  else
    ((s.set R.AFE_SNS_OPEN 0 k).set R.AFE_SUP_OK 1 k).modSlice k (fun x => { x with loRun := 0, loSince := none })

/-- A new averaged value: 8 samples of the sense pair in µV, times the ratio (R90, R91). DESIGN CHOICE (log 125): rounded down to mV. -/
def supAverage (s : State) (k : Nat) (uv : List Nat) : State :=
  match (s.slice k).powered, (s.slice k).entry with
  | true, some e =>
    let mv := min 65535 (sumN uv * s.get R.AFE_SNS_RATIO k / (8 * 4096 * 1000))
    let s1 := (s.set R.AFE_SUP_MV mv k).setI R.AFE_SUP_DEV ((mv : Int) - segSupSet e) k
    if (s1.slice k).supChecks then supJudge s1 k e mv else s1
  | _, _ => s

/-- 20 ms after SEG_EN: the checks start with the value that stands (R61 step 2, R91). -/
def supWindow (s : State) (k : Nat) : State :=
  match (s.slice k).powered, (s.slice k).supChecks, (s.slice k).entry with
  | true, false, some e => supJudge (s.modSlice k (fun x => { x with supChecks := true })) k e (s.get R.AFE_SUP_MV k)
  | _, _, _ => s

/-- The under-voltage has lasted AFE_SUP_LO_HOLD (R92). -/
def supLoExpire (s : State) (k : Nat) : State :=
  if (s.slice k).loRun = 0 then s
  else supShutdown (s.segEvent 1 3 (locSeg k) (s.get R.AFE_SUP_MV k)) k

end Sys2Proof.Machine
end

