-- ==== Sys2Proof/Machine/Afe.lean ====
section
/-! DEFINITION. The video front end (R82 to R112): what an entry puts into force, the fast check, SUSPECT, OPEN and SHORT, and the
spare ADCs. -/
namespace Sys2Proof.Machine
open Sys2Proof

def State.chan (s : State) (k c : Nat) : Chan := smGet Chan.init (s.slice k).chans c

def State.modChan (s : State) (k c : Nat) (f : Chan → Chan) : State :=
  s.modSlice k (fun x => { x with chans := smMod Chan.init x.chans c f })

def State.spare (s : State) (k p : Nat) : SpareAdc := smGet SpareAdc.init (s.slice k).spares p

def State.modSpare (s : State) (k p : Nat) (f : SpareAdc → SpareAdc) : State :=
  s.modSlice k (fun x => { x with spares := smMod SpareAdc.init x.spares p f })

/-- Channel states (R110). -/
def chOK := 0
def chSUSPECT := 1
def chOPEN := 2
def chSHORT := 3
def chLOST := 4
def chUNUSED := 7

def spForRow (p : Nat) : Row := if p = 0 then R.AFE_SPARE0_FOR else R.AFE_SPARE1_FOR
def spFailRow (p : Nat) : Row := if p = 0 then R.AFE_SPARE0_FAILED else R.AFE_SPARE1_FAILED
def spVisitRow (p : Nat) : Row := if p = 0 then R.AFE_SHADOW_CH0 else R.AFE_SHADOW_CH1

/-- Spare `p` is in rotation: powered, not failed, standing in for no input (R103, R106). -/
def inRotation (s : State) (k p : Nat) : Bool :=
  s.bit R.AFE_SPARE_EN k && s.get (spForRow p) k = 15 && !(s.bit (spFailRow p) k)

/-- The first spare free to take over an input (R106). -/
def spareFree (s : State) (k : Nat) : Option Nat := [0, 1].find? (inRotation s k)

/-- Assigned inputs of a slice, ascending. -/
def assignedOf (s : State) (k : Nat) : List Nat := (List.range 10).filter (fun c => s.bit R.AFE_CHc_ASSIGNED k c)

/-- The converter that serves at spare place `p` (R103, R463). -/
def spareAdc (s : State) (k p : Nat) : Nat := ((s.spare k p).adc).getD (10 + p)

/-- A converter goes out of service; place 2 stands for an input that no spare took over (R106, R108, R463). -/
def State.adcOutAdd (s : State) (k n p : Nat) : State :=
  { s with fil := { s.fil with adcOut := smMod [] s.fil.adcOut k (fun l => smPut l n p) } }

/-- Begin the visit at the spare's place of the list; five places along a shorter list go round it (R103; log 122). -/
def visitBegin (s : State) (k p : Nat) : State :=
  let l := assignedOf s k
  if !(inRotation s k p) || l = [] then s.set (spVisitRow p) 15 k
  else
    let i := (s.spare k p).place % l.length
    (s.set (spVisitRow p) (l.getD i 15) k).modSpare k p (fun x => { x with
      place := i, lines := 0, len := s.get R.AFE_SHADOW_LINES k, abandoned := false })

/-- Go on to the next input; a whole round of the list is one rotation (R103, R107). -/
def visitNext (s : State) (k p : Nat) : State :=
  let n := (assignedOf s k).length
  let i := (s.spare k p).place + 1
  visitBegin (s.modSpare k p (fun x => if n ≤ i then { x with place := 0, turns := x.turns + 1 } else { x with place := i })) k p

/-- A spare enters the rotation, or leaves it: spare 0 begins at the lowest assigned input, spare 1 five places along (R103). A change of the assigned
inputs begins both rotations anew (log 122). -/
def visitEnter (s : State) (k p : Nat) : State :=
  visitBegin (s.modSpare k p (fun x => { x with place := 5 * p })) k p

/-- AFE_SPARE_EN has come into force at IDLE: spares that it powers begin to rotate, and those that it switches off visit no input (R103, R110);
`b` is the state before. -/
def sparesSwitch (b s : State) : State :=
  s.each ((List.range 24).filter (fun k => b.bit R.AFE_SPARE_EN k != s.bit R.AFE_SPARE_EN k)) (fun t k => visitEnter (visitEnter t k 0) k 1)

/-- The fits of an input are discarded (R109). -/
def fitsDrop (s : State) (k c : Nat) : State :=
  s.modSlice k (fun x => { x with fits := x.fits.filter (fun f => f.1 % 16 != c) })

/-- Every pair of the slice drops its baseline and keeps its last fit, at an AFE offset trim (R106, R423). -/
def baselinesDrop (s : State) (k : Nat) : State :=
  s.modSlice k (fun x => { x with fits := x.fits.map (fun f => (f.1, { f.2 with base := none })) })

/-- The ADC that spare `p` stood in for no longer waits for a spare's place: no spare stands in for it (R109, R463). -/
def adcOutFreed (s : State) (k p : Nat) : State :=
  { s with fil := { s.fil with adcOut := smMod [] s.fil.adcOut k (fun l => l.map (fun (x : Nat × Nat) => if x.2 = p then (x.1, 2) else x)) } }

/-- The ADC is out of service until Filler's retest (R106, R463). -/
def adcIsOut (s : State) (k n : Nat) : Bool := (smFind (smGet [] s.fil.adcOut k) n).isSome

/-- A spare stops standing in for input `c` and rejoins the rotation (R109); the ADC it stood in for stays out of service (R106). -/
def spareRelease (s : State) (k c : Nat) : State :=
  match [0, 1].find? (fun p => s.get (spForRow p) k = c) with
  | none => s
  | some p =>
    visitEnter ((((adcOutFreed s k p).set (spForRow p) 15 k).set R.AFE_CHc_ADC c k c).modChan k c (fun x => { x with map := none })) k p

/-- Offset in force: table value plus trim, limited (R87). -/
def afeOffset (s : State) (k c : Nat) (w : Nat) : Int :=
  clampI (-128) 128 (ofTwos 9 (bits w 16 9) + s.getI R.AFE_CHc_TRIM k c)

/-- One input as entry `e` and the trim set it (R82, R87, R88, R109). Where the input's own ADC is out of service, a spare takes it over as
R106 lays down at the LINE boundary that comes with the entry or next after it (log 122). DESIGN CHOICE (log 125): a visit in progress when the input's fits
are discarded goes on, and its fit is the new baseline (R109). -/
def afeApplyInput (e : Entry) (s : State) (k c : Nat) : State :=
  if segAssigned e c then
    let w := segAfe e c
    let ofs := afeOffset s k c w
    let changed := s.bit R.AFE_CHc_ASSIGNED k c && (s.get R.AFE_CHc_PGA k c != bits w 0 2 || s.getI R.AFE_CHc_OFS k c != ofs)
    let s1 := if changed then fitsDrop s k c else s
    let s2 := if s1.bit R.AFE_CHc_ASSIGNED k c then s1
      else zestRestart (((s1.set R.AFE_CHc_ASSIGNED 1 k c).set R.AFE_CHc_STATE chOK k c).modChan k c
        (fun _ => { Chan.init with swap := b2n (adcIsOut s1 k c) })) k c
    ((s2.set R.AFE_CHc_PGA (bits w 0 2) k c).set R.AFE_CHc_EQ (bits w 2 3) k c).setI R.AFE_CHc_OFS ofs k c
  else
    ((((spareRelease s k c).set R.AFE_CHc_ASSIGNED 0 k c).set R.AFE_CHc_STATE chUNUSED k c).modChan k c (fun _ => Chan.init)).set
      R.AFE_CHc_ZEST_VALID 0 k c

/-- Everything in the front end that entry `e` of slice `k` puts into force (R82). -/
def afeApply (s : State) (k : Nat) (e : Entry) : State :=
  let before := assignedOf s k
  let s1 := s.each (List.range 10) (fun t c => afeApplyInput e t k c)
  if assignedOf s1 k = before then s1 else visitEnter (visitEnter s1 k 0) k 1

/-- A new trim comes into force at PAGE (R87). -/
def afeTrims (s : State) : State :=
  s.each (List.range 24) (fun t k =>
    match (t.slice k).entry with
    | none => t
    | some e => t.each (List.range 10) (fun u c =>
        if segAssigned e c then u.setI R.AFE_CHc_OFS (afeOffset u k c (segAfe e c)) k c else u))

/-! ## Judging (R97 to R100) -/

/-- What AFE_CLAMP_MODE has a sample less of: the reference value of the CLAMP interval before the SAMPLE interval of `line`. Where that interval brought none
it has no stated value (R85, R97; log 8). -/
def refOf (s : State) (k c mode line : Nat) : Option Int × State :=
  if mode = 0 then (none, s)
  else
    let ch := s.chan k c
    match ch.refs with
    | r :: _ => if ch.refLine = some line then (some r, s) else let d := s.draw; (some ((Config.unstated 30 d.1).toNat % 16384 : Nat), d.2)
    | [] => let d := s.draw; (some ((Config.unstated 30 d.1).toNat % 16384 : Nat), d.2)

/-- R85: mean reference of the previous 16 lines, times 16; free where fewer lines have been (log 8). -/
def refSum (s : State) (refs : List Int) : Int × State :=
  if refs.length = 16 then (sumI refs, s) else let d := s.draw; (Config.unstated 1 d.1, d.2)

/-- A spare's code through the pair's fit: gain Q2.14, rounded as R114 rounds, then the offset (R106; log 13). -/
def mapCode (m : Option (Int × Int)) (code : Int) : Int :=
  match m with
  | none => code
  | some (g, o) => clampI 0 16383 ((code * g + 8192) / 16384 + o)

/-- Clamp error of the CLAMP interval after the SAMPLE interval of `line`, times 16, and the loop's or the references' next state (R85).
A spare's codes come here mapped, as the line's samples do (R106). -/
def clampError (s : State) (k c mode line : Nat) (code : Int) : Int × State :=
  if mode = 0 then
    let err := code - 512
    (16 * err, s.modChan k c (fun x => { x with corr := clampI (-32768) 32768 (x.corr - err) }))
  else
    let r := refSum s (s.chan k c).refs
    (16 * code - r.1, r.2.modChan k c (fun x => { x with refs := (code :: x.refs).take 16, refLine := some ((line + 1) % 2 ^ 32) }))

/-- The running estimate takes one line's (R96). -/
def zestAdd (s : State) (k c : Nat) (z : Nat) : State :=
  let est := (min 4095 z :: (s.chan k c).est).take 64
  let s1 := (s.modChan k c (fun x => { x with est := est })).set R.AFE_CHc_ZEST (sumN est / est.length) k c
  if est.length = 64 then s1.set R.AFE_CHc_ZEST_VALID 1 k c else s1

/-- An input becomes ADC_LOST (R108). -/
def adcLost (s : State) (k c role tap : Nat) : State :=
  (((((s.set R.AFE_CHc_STATE chLOST k c).set R.AFE_SPARE_EXHAUSTED 1 k).raise (pgAFE k) 5).segEvent 6 c (locTap k role tap) 0).modChan
    k c (fun x => { x with swap := 0, adcBad := true })).adcOutAdd k (s.get R.AFE_CHc_ADC k c) 2

/-- The active ADC of an input is declared FAILED (R104, R106, R108). -/
def adcFailed (s : State) (k c role tap : Nat) : State :=
  let ch := s.chan k c
  let st := s.get R.AFE_CHc_STATE k c
  if ch.swap = 1 ∨ ch.adcBad ∨ st = chLOST then s
  else
    let s1 := s.raise (pgAFE k) 2
    if st = chOPEN ∨ st = chSHORT then s1
    else match spareFree s1 k with
      | some _ => s1.modChan k c (fun x => { x with swap := 1 })
      | none => adcLost s1 k c role tap

/-- The active ADC drifts and no spare can take over: it stays in service, and ADC_DRIFT alone reports it (R108). DESIGN CHOICE (log 125): AFE_SPARE_EXHAUSTED and
its event stay for an ADC that is lost. -/
def driftReport (s : State) (k c role tap : Nat) (g o : Int) : State := s.segEvent 5 c (locTap k role tap) (toTwos 16 g + toTwos 16 o * 65536)

/-- An input's entry into SUSPECT (R98, R99, R109). -/
def toSuspect (s : State) (k c : Nat) : State :=
  let s1 := ((zestRestart (s.set R.AFE_CHc_STATE chSUSPECT k c) k c).inc R.AFE_SUSPECT_CNT k).raise (pgAFE k) 0
  let s2 := s1.modChan k c (fun x => { x with groups := 0, passes := [] })
  s2.each [0, 1] (fun t p =>
    if inRotation t k p && t.get (spVisitRow p) k = c then visitNext t k p else t)

/-- Judge one tap of `line`: the fast check, the estimate, the state (R98). The answer says whether the tap is valid in the line. -/
def judgeTap (s : State) (k c role tap mode line : Nat) (i : TapIn) : Bool × State :=
  let st := s.get R.AFE_CHc_STATE k c
  let s1 := match i.zest with | none => s | some z => zestAdd s k c z
  let win := s.get R.AFE_CLAMP_WIN k
  let r : Bool × State := match i.clamp with
    | none => (false, s1)
    | some code => let e := clampError s1 k c mode line (mapCode (s1.chan k c).map code); (win != 16383 && decide (16 * win < e.1.natAbs), e.2)
  let zBad := match i.zest with
    | none => false
    | some z => decide (s.get R.AFE_Z_OPEN_THR k ≤ min 4095 z) || decide (min 4095 z ≤ s.get R.AFE_Z_SHORT_THR k)
  let selfBad := match i.selfCheck with
    | none => false
    | some d => decide (64 < d.1.natAbs) || decide (64 < d.2.natAbs)
  let pass := !(r.1 || zBad || selfBad)
  let s2 := if selfBad then adcFailed r.2 k c role tap else r.2
  let s3 :=
    if st = chOK ∧ pass = false ∧ s2.get R.AFE_CHc_STATE k c = chOK then toSuspect s2 k c
    else if st = chSUSPECT ∨ st = chOPEN ∨ st = chSHORT then
      s2.modChan k c (fun x => { x with groups := min 64 (x.groups + 1), passes := (pass :: x.passes).take 64 })
    else s2
  (pass && (st = chOK || st = chSUSPECT), s3)

/-- SUSPECT resolves after 64 judging groups (R99, R102). -/
def suspectResolve (s : State) (k c : Nat) : State :=
  let ch := s.chan k c
  match (s.slice k).entry.bind (fun e => segInput? e c) with
  | none => s
  | some (role, tap) =>
    if s.get R.AFE_CHc_STATE k c ≠ chSUSPECT ∨ ch.groups < 64 then s
    else
      let z := s.get R.AFE_CHc_ZEST k c
      let fresh (t : State) : State := t.modChan k c (fun x => { x with groups := 0, passes := [] })
      let broken (st d : Nat) : State :=
        (fresh (((s.set R.AFE_CHc_STATE st k c).raise (pgAFE k) 1).segEvent 2 d (locTap k role tap) z)).modChan k c
          (fun x => { x with swap := 0 })
      if s.get R.AFE_Z_OPEN_THR k ≤ z then broken chOPEN 1
      else if z ≤ s.get R.AFE_Z_SHORT_THR k then broken chSHORT 2
      else if (ch.passes.take (s.get R.AFE_SUSPECT_CLEAR k)).all id then fresh (s.set R.AFE_CHc_STATE chOK k c)
      else fresh (zestRestart s k c)

/-- OPEN and SHORT are re-examined every 64 lines (R100). -/
def openShortReexam (s : State) (k c : Nat) : State :=
  let ch := s.chan k c
  let st := s.get R.AFE_CHc_STATE k c
  match (s.slice k).entry.bind (fun e => segInput? e c) with
  | none => s
  | some (role, tap) =>
    if (st ≠ chOPEN ∧ st ≠ chSHORT) ∨ ch.groups < 64 then s
    else
      let z := s.get R.AFE_CHc_ZEST k c
      let s1 := s.modChan k c (fun x => { x with groups := 0, passes := [] })
      if ch.passes.all id && decide (s.get R.AFE_Z_SHORT_THR k < z) && decide (z < s.get R.AFE_Z_OPEN_THR k) then
        ((s1.set R.AFE_CHc_STATE chOK k c).raise (pgAFE k) 1).segEvent 3 0 (locTap k role tap) z
      else s1

/-! ## Spare ADCs (R103 to R109) -/

/-- The ADC of input `c` goes out of service as the converter of spare place `p` takes over: its own, or that of a spare that stood in, whose place then holds
no working converter (R106; log 122). -/
def adcReplaced (s : State) (k c p : Nat) : State :=
  let old := s.get R.AFE_CHc_ADC k c
  match [0, 1].find? (fun q => q != p && s.get (spForRow q) k = c) with
  | none => if old = spareAdc s k p then s else s.adcOutAdd k old p
  | some q =>
    let s1 := (s.set (spForRow q) 15 k).set (spFailRow q) 1 k
    let s2 := { s1 with fil := { s1.fil with adcOut := smMod [] s1.fil.adcOut k (fun l => l.map (fun (x : Nat × Nat) => if x.2 = q then (x.1, p) else x)) } }
    s2.adcOutAdd k old q

/-- A fit older than 16 complete rotations of its spare's own list, or none (R107; log 122). -/
def fitStale (s : State) (k p c : Nat) : Bool :=
  match smFind (s.slice k).fits (16 * p + c) with
  | none => true
  | some f => decide (f.turn + 16 < (s.spare k p).turns)

/-- ADC_SWAP at a LINE boundary for one input (R106 to R109). -/
def adcSwap (s : State) (k c : Nat) : State :=
  let ch := s.chan k c
  let st := s.get R.AFE_CHc_STATE k c
  match (s.slice k).entry.bind (fun e => segInput? e c) with
  | none => s
  | some (role, tap) =>
    if ch.swap = 0 then s
    else if st = chOPEN ∨ st = chSHORT then s.modChan k c (fun x => { x with swap := 0 })
    else if ch.swap = 2 ∧ st = chSUSPECT then s
    else match spareFree s k with
      | none =>
        if ch.swap = 1 then adcLost s k c role tap
        else driftReport (s.modChan k c (fun x => { x with swap := 0 })) k c role tap ch.dev.1 ch.dev.2
      | some p =>
        let m := match smFind (s.slice k).fits (16 * p + c) with | none => (16384, 0) | some f => (f.gain, f.ofs)
        let adc := spareAdc s k p
        let s0 := if st = chLOST then zestRestart (s.set R.AFE_CHc_STATE chOK k c) k c else s
        let s1 := ((((adcReplaced s0 k c p).set (spForRow p) c k).set (spVisitRow p) 15 k).set R.AFE_CHc_ADC adc k c).modChan k c
          (fun x => { x with swap := 0, adcBad := false, map := some m })
        let s2 := ((s1.inc R.AFE_SWAP_CNT k).raise (pgAFE k) 3).segEvent 4 (c + 16 * adc) (locTap k role tap) ch.swap
        if fitStale s k p c then (s2.set R.AFE_SPARE_STALE 1 k).raise (pgAFE k) 6 else s2

/-- Every pending swap at a LINE boundary, by slice and input. -/
def adcSwaps (s : State) : State :=
  s.each (List.range 24) (fun t k => t.each ((t.slice k).chans.filter (fun x => x.2.swap != 0)) (fun u x => adcSwap u k x.1))

/-- A capture line of every visit has passed (R103). -/
def visitLines (s : State) : State :=
  s.each (s.slices.map (·.1)) (fun t k => t.modSlice k (fun x => { x with
    spares := x.spares.map (fun e => (e.1, { e.2 with lines := e.2.lines + 1 })) }))

/-- The active ADC is declared drifting (R105, R106, R108). -/
def adcDrifts (s : State) (k c role tap : Nat) (g o : Int) : State :=
  let st := s.get R.AFE_CHc_STATE k c
  if st = chOPEN ∨ st = chSHORT ∨ st = chLOST then s
  else match spareFree s k with
    | some _ => if (s.chan k c).swap = 0 then s.modChan k c (fun x => { x with swap := 2, dev := (g, o) }) else s
    | none => driftReport s k c role tap g o

def signI (v : Int) : Int := if v < 0 then -1 else if 0 < v then 1 else 0

/-- A spare is declared FAILED and leaves the rotation (R105); ADC_FAILED of R111 stays for active converters (log 122). -/
def spareFails (s : State) (k p role tap : Nat) : State :=
  (((s.set (spFailRow p) 1 k).set (spVisitRow p) 15 k).adcOutAdd k (spareAdc s k p) p).segEvent 7 (spareAdc s k p) (locTap k role tap) 0

/-- Compare a visit's fit with its baseline (R105): deviations of the gain in 0.01 % and of the offset in codes, each 0 within its
tolerance. -/
def fitDrift (s : State) (k : Nat) (f : Fit) : Int × Int :=
  match f.base with
  | none => (0, 0)
  | some b =>
    let g := f.gain - b.1
    let o := f.ofs - b.2
    (if (s.get R.AFE_DRIFT_GAIN_TOL k : Int) * b.1.natAbs < 10000 * g.natAbs then g else 0,
     if s.get R.AFE_DRIFT_OFS_TOL k < o.natAbs then o else 0)

/-- The visit of spare `p` ends with a fit (R103, R105, R107). DESIGN CHOICE (log 125): a visit that finds no baseline has deviation 0, which contradicts an
observation of the other spare; an observation outlives a trim; and the gain deviation of ADC_DRIFT is rounded down to 0.01 % (R112). -/
def shadowVisitEnd (s : State) (k p : Nat) (gain ofs : Int) : State :=
  let sp := s.spare k p
  let c := s.get (spVisitRow p) k
  match (s.slice k).entry.bind (fun e => segInput? e c) with
  | none => s
  | some (role, tap) =>
    if !(inRotation s k p) || decide (sp.lines < sp.len) then s
    else if sp.abandoned then visitNext s k p
    else
      let key := 16 * p + c
      let base := ((smFind (s.slice k).fits key).bind (·.base)).getD (gain, ofs)
      let fit : Fit := { gain := gain, ofs := ofs, base := some base, turn := sp.turns }
      let s1 := s.modSlice k (fun x => { x with fits := smPut x.fits key fit })
      let d := fitDrift s1 k fit
      let drift := d.1 ≠ 0 ∨ d.2 ≠ 0
      let gPct : Int := if base.1 = 0 then 0 else (gain - base.1) * 10000 / base.1
      let oDev := ofs - base.2
      let q := 1 - p
      let s2 := match (s1.chan k c).obs with
        | some (o, gs, os) =>
          if o = q ∧ inRotation s1 k q then
            let t := s1.modChan k c (fun x => { x with obs := none })
            if (gs ≠ 0 ∧ signI d.1 = gs) ∨ (os ≠ 0 ∧ signI d.2 = os) then adcDrifts t k c role tap gPct oDev
            else
              let u := spareFails t k q role tap
              if drift then adcDrifts u k c role tap gPct oDev else u
          else if inRotation s1 k q then s1
          else if drift then adcDrifts (s1.modChan k c (fun x => { x with obs := none })) k c role tap gPct oDev else s1
        | none =>
          if !drift then s1
          else if inRotation s1 k q then s1.modChan k c (fun x => { x with obs := some (p, signI d.1, signI d.2) })
          else adcDrifts s1 k c role tap gPct oDev
      visitNext s2 k p

end Sys2Proof.Machine
end

