-- ==== Sys2Proof/Machine/Skim.lean ====
section
/-! DEFINITION. From ADC code to corrected pixel (R113 to R124): ordering, tap match, Skim's correction, dead pixels, flag blocks; and
the loading of shading (R119, R120). -/
namespace Sys2Proof.Machine
open Sys2Proof

/-- Flag bits of a block (R116). -/
def flINVALID := 1
def flSAT := 2
def flDEAD := 4
def flPARTNER := 8
def flSPARE := 16
def flRENORM := 32
def flREPAIRED := 64
/-- The bits an output block takes from its contributing capture lines (R116). -/
def flCarry := 30

/-- Reference-sample mode: code − reference + 512, limited (R85). -/
def refCode (ref : Option Int) (code : Int) : Int :=
  match ref with | none => code | some r => clampI 0 16383 (code - r + 512)

/-- Tap match of one code: value, and whether it was limited (R114, R115). -/
def tapMatch (ofs gain : Nat) (code : Int) : Nat × Bool :=
  let m := ((4 * code - ofs) * gain + 8192) / 16384
  ((clampI 0 65535 m).toNat, decide (m < 0) || decide (65535 < m))

/-- A pixel on its way through Skim: value, saturated, dead. -/
structure Px where
  v : Nat
  sat : Bool
  dead : Bool
deriving DecidableEq, Repr

/-- Skim's correction of one pixel (R118, R115). -/
def skimPx (w : Nat) (dead : Bool) (p : Nat × Bool) : Px :=
  let out := (((p.1 : Int) - (w % 65536 : Nat)) * (w / 65536 : Nat) + 8192) / 16384
  { v := (clampI 0 65535 out).toNat, sat := p.2 || decide (65535 < out), dead := dead }

/-- Nearest non-dead pixel at or before each place: distance, value, saturated. -/
def nearest : List Px → Option (Nat × Nat × Bool) → List (Option (Nat × Nat × Bool))
  | [], _ => []
  | p :: l, prev =>
    let prev' := prev.map (fun x => (x.1 + 1, x.2))
    if p.dead then prev' :: nearest l prev' else some (0, p.v, p.sat) :: nearest l (some (0, p.v, p.sat))

/-- Replacement of a dead pixel by its neighbours (R122): the value, and whether a neighbour used was saturated. -/
def deadValue (l r : Option (Nat × Nat × Bool)) : Nat × Bool :=
  match l, r with
  | some (dl, vl, sl), some (dr, vr, sr) => ((2 * (vl * dr + vr * dl) + (dl + dr)) / (2 * (dl + dr)), sl || sr)
  | some (_, v, t), none => (v, t)
  | none, some (_, v, t) => (v, t)
  | none, none => (0, false)

/-- The row after replacement: value, SAT contribution, dead. -/
def replaceDead (ps : List Px) : List (Nat × Bool × Bool) :=
  let ls := nearest ps none
  let rs := (nearest ps.reverse none).reverse
  (ps.zip (ls.zip rs)).map (fun x =>
    if x.1.dead then let d := deadValue x.2.1 x.2.2; (d.1, d.2, true) else (x.1.v, x.1.sat, false))

/-- One flag byte for each 256 pixels, from a flag byte for each pixel (R116). -/
def flagBlocks : Nat → List Nat → List Nat
  | 0, _ => []
  | n + 1, l => ((l.take 256).foldl (fun a b => a ||| b) 0) :: flagBlocks n (l.drop 256)

def blocksOf (px : Nat) : Nat := ceilDiv px 256

/-- The pixels of one tap in LOC_PIX order, with their over-range marks (R113); a sample the line does not hold is a free value
(log 8). -/
def tapPixels (e : Entry) (t : Nat) (fill : Nat) (codes : List (Nat × Bool)) : List (Nat × Bool) :=
  let l := (codes.drop (segLead e)).take (segPpt e)
  let l := l ++ List.replicate (segPpt e - l.length) (fill, false)
  if segTapDir e t then l.reverse else l

/-- A place lies in an overlap with a contributing neighbour (R123). -/
def inOverlap (s : State) (k : Nat) (e : Entry) (p : Nat) : Bool :=
  (decide (p < segOvlL e) && decide (0 < k) && (s.slice (k - 1)).contributing) ||
  (decide (segRowPx e - segOvlR e ≤ p) && decide (p < segRowPx e) && (s.slice (k + 1)).contributing)

/-- How an input stood in a judged line: valid, and the reference its samples are less of (R85, R98). -/
structure TapJudged where
  input : Nat
  valid : Bool
  ref : Option Int
deriving DecidableEq, Repr

/-- The judgement of input `c`, of those of the line. -/
def tapJudged (js : List TapJudged) (c : Nat) : TapJudged := (js.find? (fun j => j.input = c)).getD { input := c, valid := false, ref := none }

/-- The code of a sample that the tap match takes: less its reference, and mapped where a spare converted it (R85, R106). -/
def tapCode (s : State) (k : Nat) (j : TapJudged) (code : Int) : Int :=
  refCode j.ref (mapCode (s.chan k j.input).map code)

/-- The channel stage's pixels of one row in LOC_PIX order: m, saturated, flag bits of the tap (R113 to R116). `taps` gives, for each
tap, its input's judgement and the samples of its SAMPLE interval. -/
def matchedRow (s : State) (k : Nat) (e : Entry) (taps : List (TapJudged × List (Nat × Bool))) (fill : Nat) : List (Nat × Bool × Nat) :=
  (taps.zip (List.range taps.length)).flatMap (fun x =>
    let j := x.1.1
    let f := (if j.valid then 0 else flINVALID) + (if (s.chan k j.input).map.isSome then flSPARE else 0)
    (tapPixels e x.2 fill x.1.2).map (fun y =>
      let m := tapMatch (s.get R.SLC_CHc_TAPM_OFS k j.input) (s.get R.SLC_CHc_TAPM_GAIN k j.input) (tapCode s k j y.1)
      (m.1, y.2 || m.2, f)))

/-- One row of a released line through Skim (R116, R118, R122 to R124). -/
def skimRow (s : State) (k : Nat) (e : Entry) (role : Nat) (matched : List (Nat × Bool × Nat)) : RowData :=
  let sl := s.slice k
  if s.bit R.SLC_SKIM_BYPASS k then
    { role := role, px := matched.map (·.1)
      flags := flagBlocks (blocksOf (segRowPx e)) (matched.map (fun y => y.2.2 + (if y.2.1 then flSAT else 0))) }
  else
    let ps := (matched.zip (List.range matched.length)).map (fun y =>
      skimPx (shadeWord sl.shading role y.2) (isDead sl.shading sl.dead role y.2) (y.1.1, y.1.2.1))
    let rs := replaceDead ps
    { role := role, px := rs.map (·.1)
      flags := flagBlocks (blocksOf (segRowPx e)) ((rs.zip (matched.zip (List.range matched.length))).map (fun y =>
        y.2.1.2.2 + (if y.1.2.1 then flSAT else 0) +
          (if y.1.2.2 then flDEAD + (if inOverlap s k e y.2.2 then flPARTNER else 0) else 0))) }

/-! ## What Plumb takes from a row (R157, R160, R166) -/

/-- One pixel of the edge detector: state, previous m, transitions so far (newest first), position. -/
structure EdgeScan where
  on : Option Bool
  prev : Option Nat
  out : List (Nat × Bool)
  p : Nat
  ons : List Bool
deriving DecidableEq, Repr

/-- Place between pixels p − 1 and p where the threshold lies, in 1/16 px (R157; log 15: halves up). -/
def edgePlace (p : Nat) (prev : Option Nat) (m thr : Nat) : Nat :=
  match prev with
  | none => 16 * p
  | some a =>
    let d := (a - m) + (m - a)
    let x := (a - thr) + (thr - a)
    if d = 0 ∨ d < x ∨ p = 0 then 16 * p else 16 * (p - 1) + (32 * x + d) / (2 * d)

/-- A transition joins the list; a run shorter than `min` 1/16 px goes with both its transitions (R157). -/
def edgePush (min : Nat) (out : List (Nat × Bool)) (x : Nat × Bool) : List (Nat × Bool) :=
  match out with
  | [] => [x]
  | y :: l => if x.1 < y.1 + min then l else x :: y :: l

def edgeStep (hi lo pol minRun : Nat) (a : EdgeScan) (x : Nat × Bool) : EdgeScan :=
  let m := x.1
  if x.2 then { a with prev := none, p := a.p + 1, ons := a.ons ++ [a.on.getD false] }
  else
    let enters := if pol = 0 then decide (hi ≤ m) else decide (m ≤ hi)
    let leaves := if pol = 0 then decide (m ≤ lo) else decide (lo ≤ m)
    match a.on with
    | none => { a with on := some enters, prev := some m, p := a.p + 1, ons := a.ons ++ [enters] }
    | some false =>
      { a with on := some enters, prev := some m, p := a.p + 1, ons := a.ons ++ [enters]
               out := if enters then edgePush (16 * minRun) a.out (edgePlace a.p a.prev m hi, true) else a.out }
    | some true =>
      { a with on := some !leaves, prev := some m, p := a.p + 1, ons := a.ons ++ [!leaves]
               out := if leaves then edgePush (16 * minRun) a.out (edgePlace a.p a.prev m lo, false) else a.out }

/-- The detector over one row, in LOC_PIX order, its four sheet columns, and its centre window over Skim's output. -/
def plumbScan (s : State) (matched : List (Nat × Bool × Nat)) (row : RowData) : PlumbData :=
  let n := matched.length
  let bad (i : Nat) : Bool := bitOf (row.flags.getD (i / 256) 0) 0
  let px := (matched.zip (List.range n)).map (fun y => (y.1.1, bad y.2))
  let a := px.foldl (edgeStep (s.get R.PLUMB_THR_HI) (s.get R.PLUMB_THR_LO) (s.get R.PLUMB_CTRL_POLARITY) (s.get R.PLUMB_MIN_RUN))
    { on := none, prev := none, out := [], p := 0, ons := [] }
  let lo := n / 2 - 512
  let w := min 1024 (n - lo)
  { edges := a.out.reverse
    startOn := a.ons.headD false
    endOn := a.on.getD false
    cols := [0, 1, 2, 3].map (fun i =>
      let p := n * (2 * i + 1) / 8
      if bad p then none else (px[p]?).map (·.1))
    win := if n != 0 && ((a.ons.drop lo).take w).all id then some (sumN ((row.px.drop lo).take w)) else none }

/-- The monitor of the slice's AFE rail is in alarm (R446). -/
def railAlarm (s : State) (k : Nat) : Bool := bitOf (s.get R.MON_V_ALARM) (if k < 12 then 4 else 5)

/-- A capture line of slice `k` that ended now would be invalid for every tap: R93, R446 and R537. -/
def lineEndBad (s : State) (k : Nat) : Bool :=
  (decide (2 ≤ (s.slice k).loRun) && s.bit R.AFE_SUP_FAULT_LO k) || s.bit R.AFE_SUP_SHUTDOWN k || railAlarm s k || bitOf s.pwr.pixBad (k / 4)

/-- The line being judged is invalid for every tap of slice `k`: as it stood when the line ended, which for a line whose group
reaches into the next one is the last LINE boundary, or by an alarm before its samples are released (R93, R446, R537). -/
def sliceLineBad (s : State) (k : Nat) (wrapped : Bool) : Bool :=
  railAlarm s k || (if wrapped then (s.slice k).lineSup else lineEndBad s k)

/-- The line being judged: the one in progress, or the one before it where its group ended after the LINE boundary (R97). -/
def lineJudgedNo (s : State) (wrapped : Bool) : Nat := (s.get R.TIMING_LINE_CNT + 2 ^ 32 - b2n wrapped) % 2 ^ 32

/-- The content that line was sampled with: no line runs with a mixture of old and new content (R33). -/
def sampledWith (s : State) (wrapped : Bool) : Content :=
  ((if wrapped then s.timing.contentWas else s.timing.content)).getD s.contentNow

/-- A boundary is about to bring new content: the lines sampled until now keep the old (R33). -/
def contentKeep (s : State) : State :=
  let c := s.contentNow
  { s with timing := { s.timing with content := some (s.timing.content.getD c), contentWas := some (s.timing.contentWas.getD c) } }

/-- Judge one input of the line (R85, R97, R98, R106); `c` is what the line was sampled with. An input that no row uses any more is judged as it stood then,
and nothing of it changes. -/
def judgeInput (c s : State) (k : Nat) (wrapped bad : Bool) (i : Nat × Nat × Nat) (x : TapIn) : TapJudged × State :=
  let mode := s.get R.AFE_CLAMP_MODE k   -- the CLAMP lies in the line in progress, after the content it came with (R33)
  let line := lineJudgedNo s wrapped
  let ref := refOf s k i.1 (c.get R.AFE_CLAMP_MODE k) line
  let spoilt := bad || (wrapped && (ref.2.chan k i.1).lineBad)
  if ref.2.bit R.AFE_CHc_ASSIGNED k i.1 then
    let r := judgeTap ref.2 k i.1 i.2.1 i.2.2 mode line x
    ({ input := i.1, valid := r.1 && !spoilt, ref := ref.1 }, r.2)
  else ({ input := i.1, valid := (judgeTap c k i.1 i.2.1 i.2.2 mode line x).1 && !spoilt, ref := ref.1 }, ref.2)

def TapIn.none_ : TapIn := { clamp := none, zest := none, selfCheck := none, codes := [] }

/-- Judge every tap of one slice and form its rows of the line, with the judgement of each input (R97 to R124). -/
def judgeSlice (s : State) (k : Nat) (wrapped : Bool) (taps : List TapIn) : List RowData × Option PlumbData × List TapJudged × State :=
  let c := s.withContent (sampledWith s wrapped)
  match (c.slice k).entry with
  | none => ([], none, [], s)
  | some e =>
    let bad := sliceLineBad s k wrapped
    let step (a : List TapJudged × State) (i : Nat × Nat × Nat) : List TapJudged × State :=
      let r := judgeInput c a.2 k wrapped bad i (taps.getD i.1 TapIn.none_)
      (a.1 ++ [r.1], r.2)
    let r := (segInputs e).foldl step ([], s)
    let d := r.2.draw
    let fill := (Config.unstated 3 d.1).toNat % 16384
    let matched := (segDescs e).map (fun ds =>
      (descRole ds, matchedRow c k e ((List.range (segTaps e)).map (fun t =>
        (tapJudged r.1 (descInput ds t), (taps.getD (descInput ds t) TapIn.none_).codes))) fill))
    let rows := matched.map (fun m => skimRow c k e m.1 m.2)
    let role := c.get R.PLUMB_CTRL_ROW
    let plumb := ((matched.zip rows).find? (fun m => m.1.1 = role)).map (fun m => plumbScan c m.1.2 m.2)
    let s2 := if rows.any (fun w => w.flags.any (fun f => bitOf f 1)) then d.2.inc R.SLC_SAT_LINES k else d.2
    (rows, plumb, r.1, s2)

/-! ## Shading (R119, R120) -/

/-- The shading block of slice `k` in DRAM. -/
def shadeBase (s : State) (k : Nat) : Nat := s.get64 R.TIMING_SHD_BASE_LO R.TIMING_SHD_BASE_HI + k * 245824

/-- Shading words of the block that differ from unity (R119). -/
def shadeLoad (s : State) (k : Nat) : List (Nat × Nat) :=
  (List.range 61440).filterMap (fun j =>
    let w := leNat (memBytes s.mem (shadeBase s k + 4 * j) 4)
    if w = shadeUnity then none else some (j, w))

/-- CRC of the block, and the dead-run check with the list in force (R120, R121); a block that could not be read fails (R333). -/
def shadeOk (s : State) (k : Nat) : Bool :=
  let b := shadeBase s k
  !(dramBad s 5 b 245824) && leNat (memBytes s.mem (b + 0x3C000) 4) = crc32c (memBytes s.mem b 0x3C000) &&
  (match (s.slice k).entry with
   | none => true
   | some e => if segEnabled e then deadRunsOk e (shadeLoad s k) (s.slice k).dead else true)

/-- Count of the pixels dead in force over the rows the segment has. -/
def deadCount (s : State) (k : Nat) : Nat :=
  let sl := s.slice k
  match sl.entry with
  | none => 0
  | some e => sumN ((segDescs e).map (fun d => ((List.range (segRowPx e)).filter (isDead sl.shading sl.dead (descRole d))).length))

/-- SLC_DEAD_LOADED follows the lists in force (R121). DESIGN CHOICE (log 125): beyond its 13 bits it shows the low ones. -/
def deadRefresh (s : State) (k : Nat) : State := s.set R.SLC_DEAD_LOADED (deadCount s k) k

/-- SHD_SYNC_LOAD at a PAGE or IDLE boundary, of the slices of `mask` (R120). -/
def shdSync (s : State) (mask : Nat) : State :=
  let m := s.get R.TIMING_SHD_SYNC
  let ks := (maskList (m &&& mask) 24).filter (fun k => decide (k < Variant.slices s.variant))
  let s0 := { (s.set R.TIMING_SHD_SYNC ((m - (m &&& mask)) ||| s.timing.shdLate)) with timing := { s.timing with shdLate := 0 } }
  match ks.filter (fun k => !(shadeOk s k)) with
  | k :: l => ((s0.set R.TIMING_SHD_SYNC_FAIL 1).err pgTIMING 0x10B k).each (k :: l) (fun t j => t.raise (pgSLC j) 20)
  | [] => s0.each ks (fun t k => deadRefresh (t.modSlice k (fun x => { x with
      shading := shadeLoad s k, shaded := true, shdTgt := leNat (memBytes s.mem (shadeBase s k + 0x3C004) 2)
      shdAt := leNat (memBytes s.mem (shadeBase s k + 0x3C008) 8) })) k)

end Sys2Proof.Machine
end

