-- ==== Sys2Proof/Machine/Float.lean ====
section
/-! DEFINITION. Float and the assembly ring (R125 to R138, R584, R585): positions, bins, closing, repair, and the ring's slots in
DRAM. -/
namespace Sys2Proof.Machine
open Sys2Proof

def rowKey (k role : Nat) : Nat := 8 * k + role

def floatRow (s : State) (k role : Nat) : Option FloatRow := smFind s.flt.rows (rowKey k role)

def putRow (s : State) (k role : Nat) (r : FloatRow) : State :=
  { s with flt := { s.flt with rows := smPut s.flt.rows (rowKey k role) r } }

/-- U(d): nm to grid units of 1/256 line, halves away from 0 (R125). -/
def gridU (d : Int) : Int := roundDiv (d * 768) 63500

/-- Units of a bin: 256 × F (R127). -/
def binUnits (s : State) : Int := 256 * (s.get R.TIMING_FLOAT_PITCH : Int)

/-- The averaging in force: the rung's in CAPTURE, else TIMING_FLOAT_AVG (R134, R295). -/
def floatAvg (s : State) : Nat :=
  if s.mode = .capture then s.flt.rungAvg.getD (s.get R.TIMING_FLOAT_AVG) else s.get R.TIMING_FLOAT_AVG

/-! ## The ring (R135, R136, R138) -/

def ringLines (s : State) : Nat := s.get R.MC_RING_LINES

/-- First byte of the slot of line `n` (R135). -/
def slotAddr (s : State) (n : Nat) : Nat :=
  s.get64 R.MC_RING_BASE_LO R.MC_RING_BASE_HI + (n % ringLines s) * s.get R.MC_RING_SLOT_BYTES

def slotFlags (s : State) (n k role : Nat) : Nat := slotAddr s n + 0x600 + (5 * k + role) * 48
def slotPixels (s : State) (n k role : Nat) : Nat := slotAddr s n + 0x2000 + (5 * k + role) * 24576

/-- The slot of line `n` is released: Scrim has read the line that held it before (R138). -/
def slotFree (s : State) (n : Nat) : Bool := decide (n < s.flt.scrimNext + ringLines s)

def RingHdr.init : RingHdr :=
  { closed := 0, complete := 0, src := 0, conf := 255, tracked := false, first := none, last := 0, counts := [], flags := 0 }

def hdrKey (n k : Nat) : Nat := 32 * n + k

def ringHdr (s : State) (n k : Nat) : RingHdr := smGet RingHdr.init s.flt.hdrs (hdrKey n k)

/-- The 64 bytes of a slice header (R136). -/
def hdrBytes (s : State) (n : Nat) (h : RingHdr) : List (BitVec 8) :=
  leBytes 4 n ++ leBytes 1 h.closed ++ leBytes 1 h.complete ++ leBytes 1 h.src ++ leBytes 1 (if h.tracked then h.conf else 0) ++
  leBytes 4 (h.first.getD 0) ++ leBytes 4 h.last ++ (List.range 5).flatMap (fun r => leBytes 2 (smGet 0 h.counts r)) ++
  leBytes 2 h.flags ++ leBytes 4 0 ++
  leBytesI 8 (roundDiv ((n * s.get R.TIMING_FLOAT_PITCH * 63500 : Nat) : Int) 3) ++ leBytes 24 0

/-- Update a header, in its slot too where the slot is free (R136). -/
def hdrPut (s : State) (n k : Nat) (h : RingHdr) : State :=
  let s1 := { s with flt := { s.flt with hdrs := smPut s.flt.hdrs (hdrKey n k) h } }
  if slotFree s n then dramFresh { s1 with mem := memPutBytes s1.mem (slotAddr s n + 64 * k) (hdrBytes s n h) } (slotAddr s n + 64 * k) 64
  else s1

/-- Flag bytes and pixels of a row of line `n` go into its slot. -/
def slotWrite (s : State) (n k role : Nat) (px fl : List Nat) : State :=
  let m := memPutBytes s.mem (slotFlags s n k role) (fl.flatMap (leBytes 1))
  let s1 := { s with mem := memPutBytes m (slotPixels s n k role) (px.flatMap (leBytes 2)) }
  dramFresh (dramFresh s1 (slotFlags s n k role) fl.length) (slotPixels s n k role) (2 * px.length)

/-- Block `i` of a ring row, its flag byte or its slice's header was uncorrectable when read (R333). -/
def ringBad (s : State) (n k role i : Nat) : Bool :=
  dramBad s 11 (slotPixels s n k role + 512 * i) 512 || dramBad s 11 (slotFlags s n k role + i) 1 || dramBad s 11 (slotAddr s n + 64 * k) 64

/-- Bytes of pixels in a slice's ring write FIFO, which has room for 196,608 (R327). -/
def fifoBytes (s : State) (k : Nat) : Nat := sumN ((s.flt.held.filter (fun w => w.k = k)).map (fun w => 2 * w.px.length))

/-- RING_OVERRUN: writes stay unplaced while the FIFO of slice `k` is full (R138). -/
def ringOverrun (s : State) (k : Nat) : State :=
  if k ∉ s.flt.overrun ∧ 196608 ≤ fifoBytes s k then
    (({ s with flt := { s.flt with overrun := s.flt.overrun ++ [k] } }).set R.MC_RING_OVERRUN 1).raise pgMC 5
  else s

/-- A row of line `n` is written to the ring, or held in the FIFO until its slot is released (R138). -/
def ringWrite (s : State) (n k role : Nat) (px fl : List Nat) : State :=
  if s.flt.held.any (fun w => w.k = k && w.role = role && w.n = n) then
    let hs : List RingWrite := s.flt.held.map (fun w =>
      if w.k = k && w.role = role && w.n = n then { w with px := px, fl := fl } else w)
    { s with flt := { s.flt with held := hs } }
  else if slotFree s n then slotWrite s n k role px fl
  else
    let w : RingWrite := { k := k, role := role, n := n, px := px, fl := fl }
    ringOverrun (State.inc { s with flt := { s.flt with held := s.flt.held ++ [w] } } R.MC_RING_WAIT_CNT) k

/-- Flags and pixels of a row of line `n` as the ring, or its FIFO, holds them. -/
def ringRow (s : State) (n k role px : Nat) : List Nat × List Nat :=
  match s.flt.held.find? (fun w => w.k = k && w.role = role && w.n = n) with
  | some w => (w.fl, w.px)
  | none =>
    (((memBytes s.mem (slotFlags s n k role) (blocksOf px)).zip (List.range (blocksOf px))).map (fun (x : BitVec 8 × Nat) =>
        if ringBad s n k role x.2 then x.1.toNat ||| flINVALID else x.1.toNat),
     (List.range px).map (fun p => leNat (memBytes s.mem (slotPixels s n k role + 2 * p) 2)))

/-- RING_WRITE_PLACE: held writes of slice `k` whose slots are released go to the ring, oldest first; an emptied FIFO ends the
overrun (R138). -/
def ringPlace (s : State) (k : Nat) : State :=
  let go := s.flt.held.filter (fun w => w.k = k && slotFree s w.n)
  let rest := s.flt.held.filter (fun w => !(w.k = k && slotFree s w.n))
  let s1 := { s with flt := { s.flt with held := rest } }
  let s2 := s1.each go (fun t w => hdrPut (slotWrite t w.n k w.role w.px w.fl) w.n k (ringHdr t w.n k))
  if rest.any (fun w => w.k = k) then s2 else { s2 with flt := { s2.flt with overrun := s2.flt.overrun.filter (· != k) } }

/-! ## Closing and repair (R130 to R132) -/

/-- Count an output row that is complete, raise its flags, and mark it in the header (R136). -/
def rowComplete (s : State) (n k role : Nat) (fl : List Nat) : State :=
  let cnt (b : Nat) : Nat := (fl.filter (fun f => bitOf f b)).length
  let s1 := ((s.incBy R.SLC_FLOAT_RENORM_BLK (cnt 5) k).incBy R.SLC_FLOAT_REPAIRED_BLK (cnt 6) k).incBy R.SLC_FLOAT_INVALID_BLK (cnt 0) k
  let s2 := if cnt 6 = 0 then s1 else s1.raise (pgSLC k) 18
  let s3 := if cnt 0 = 0 then s2 else s2.raise (pgSLC k) 19
  let h := ringHdr s3 n k
  let mark := (if cnt 5 = 0 then 0 else 8) + (if cnt 6 = 0 then 0 else 16) + (if cnt 0 = 0 then 0 else 32) + (if cnt 3 = 0 then 0 else 64)
  hdrPut s3 n k { h with complete := h.complete ||| 2 ^ role, flags := h.flags ||| mark }

/-- Highest line every row of the slice has completed (R138, SLC_FLOAT_OLINE). -/
def olineRefresh (s : State) (k : Nat) : State :=
  let rs := (s.flt.rows.filter (fun r => r.1 / 8 = k && r.2.on)).map (fun r => match r.2.pend with | some p => p.n | none => r.2.next)
  match rs with
  | [] => s
  | x :: l => let m := l.foldl min x; if m = 0 then s else s.set R.SLC_FLOAT_OLINE (m - 1) k

/-- Blocks `i` of a pixel list. -/
def blockOf (px : List Nat) (i : Nat) : List Nat := (px.drop (256 * i)).take 256

/-- Resolve the blocks of `p` that wait for repair, from line n − 1 in the ring and line n + 1 as it closes; without one of them the
block is INVALID (R117, R132). -/
def repairRow (p : FloatPend) (prev next : Option (List Nat × List Nat × List Bool)) : List Nat × List Nat :=
  let r := (List.range p.fl.length).map (fun i =>
    if !(p.wait.getD i false) then (blockOf p.px i, p.fl.getD i 0)
    else match prev, next with
      | some (pf, pp, _), some (nf, np, nw) =>
        if (pf.getD i 1) &&& (flINVALID + flREPAIRED) = 0 ∧ nw.getD i true = false then
          (((blockOf pp i).zip (blockOf np i)).map (fun x => (x.1 + x.2 + 1) / 2),
           flREPAIRED + ((pf.getD i 0 ||| nf.getD i 0) &&& flCarry))
        else ((blockOf p.px i).map (fun _ => 0), flINVALID)
      | _, _ => ((blockOf p.px i).map (fun _ => 0), flINVALID))
  (r.flatMap (·.1), r.map (·.2))

/-- BIN_REPAIR: finish the row's pending line (R132). A line below the bin in which the row started has every block INVALID (R584). -/
def resolvePend (s : State) (k role : Nat) (r : FloatRow) (next : Option (List Nat × List Nat × List Bool)) : State :=
  match r.pend with
  | none => s
  | some p =>
    let prev := if p.n ≤ r.base then none else let x := ringRow s (p.n - 1) k role r.px; some (x.1, x.2, [])
    let o := repairRow p prev next
    rowComplete (ringWrite s p.n k role o.1 o.2) p.n k role o.2

/-- BIN_CLOSE (R130 to R132, R136): the row with bin `b` closed, written to the ring. -/
def binClose (s : State) (k role : Nat) (r : FloatRow) (b : FloatBin) : State × FloatRow :=
  let avg1 := decide (s.mode = .capture) && floatAvg s = 1
  let n := b.n
  let wait := (b.w.zip b.drop).map (fun x => x.1 == 0 || (avg1 && x.2))
  let fl := ((b.fl.zip b.drop).zip wait).map (fun x => if x.2 then x.1.1 &&& flCarry else (x.1.1 &&& flCarry) + (if x.1.2 then flRENORM else 0))
  let px := (b.acc.zip (List.range b.acc.length)).map (fun x =>
    let w := b.w.getD (x.2 / 256) 0
    if wait.getD (x.2 / 256) true then 0 else (x.1 + w / 2) / w)
  let h := ringHdr s n k
  let h1 : RingHdr := { h with
    closed := h.closed ||| 2 ^ role
    counts := smPut h.counts role (min b.lines 65535)
    flags := h.flags ||| b.marks
    src := if b.lines = 0 then h.src else max h.src b.src
    conf := if b.lines = 0 then h.conf else min h.conf b.conf
    tracked := h.tracked || b.tracked
    first := if b.lines = 0 then h.first else some (match h.first with | some f => if lineBefore f b.first then f else b.first | none => b.first)
    last := if b.lines = 0 || h.first.isSome && lineBefore b.last h.last then h.last else b.last }
  let s1 := hdrPut s n k h1
  let s2 := if bitOf b.marks 0 then (s1.inc R.SLC_FLOAT_OVERSPEED k).raise (pgSLC k) 17 else s1
  let s3 := if bitOf b.marks 1 then s2.inc R.SLC_FLOAT_STILL_CAPPED k else s2
  let s4 := resolvePend s3 k role r (match r.pend with
    | some p => if p.n + 1 = n then some (fl, px, wait) else none
    | none => none)
  let s5 := ringWrite s4 n k role px ((fl.zip wait).map (fun x => if x.2 then flINVALID else x.1))
  let r1 : FloatRow := { r with bins := r.bins.filter (fun x => x.n != n), next := max r.next (n + 1), pend := none }
  if wait.any id && n != 0 then (s5, { r1 with pend := some { n := n, px := px, fl := fl, wait := wait } })
  else
    let o := repairRow { n := n, px := px, fl := fl, wait := wait } none none
    (rowComplete (ringWrite s5 n k role o.1 o.2) n k role o.2, r1)

/-- Bins from `r.next` to below `c` count as closed with every block INVALID (R584); of those that Scrim has read, only `base` tells. -/
def fillClosed (s : State) (k role : Nat) (r : FloatRow) (c : Nat) : State × FloatRow :=
  let lo := max r.next s.flt.scrimNext
  let s0 := resolvePend s k role r none
  let blk := List.replicate (blocksOf r.px) flINVALID
  let s1 := s0.each ((List.range (c - lo)).map (· + lo)) (fun t n =>
    let h := ringHdr t n k
    rowComplete (ringWrite (hdrPut t n k { h with closed := h.closed ||| 2 ^ role }) n k role (List.replicate r.px 0) blk) n k role blk)
  (s1, { r with next := max r.next c, base := if r.next < c then c else r.base, pend := none })

/-! ## One capture line (R128) -/

/-- add(b, line, w): per block not INVALID (R128, R131). -/
def binAdd (b : FloatBin) (w line : Nat) (pos : LinePos) (d : RowData) : FloatBin :=
  { b with
    acc := (b.acc.zip (d.px.zip (List.range d.px.length))).map (fun x =>
      if bitOf (d.flags.getD (x.2.2 / 256) 1) 0 then x.1 else x.1 + w * x.2.1)
    w := (b.w.zip d.flags).map (fun x => if bitOf x.2 0 then x.1 else x.1 + w)
    fl := (b.fl.zip d.flags).map (fun x => if bitOf x.2 0 then x.1 else x.1 ||| (x.2 &&& flCarry))
    drop := (b.drop.zip d.flags).map (fun x => x.1 || bitOf x.2 0)
    lines := b.lines + 1
    first := if b.lines = 0 then line else b.first
    last := line
    src := max b.src pos.src
    conf := min b.conf pos.conf
    tracked := b.tracked || pos.src = 0 }

def binNew (n px : Nat) : FloatBin :=
  { n := n, acc := List.replicate px 0, w := List.replicate (blocksOf px) 0, fl := List.replicate (blocksOf px) 0,
    drop := List.replicate (blocksOf px) false, marks := 0, lines := 0, first := 0, last := 0, src := 0, conf := 255,
    tracked := false, still := 0 }

/-- One bin of the loop of R128. -/
def binTake (u lo x : Int) (line : Nat) (pos : LinePos) (d : RowData) (k role : Nat) (a : State × FloatRow) (b : Nat) :
    State × FloatRow :=
  let s := a.1
  let r := a.2
  if b < r.next then a
  else
    let bin := (r.bins.find? (fun y => y.n = b)).getD (binNew b r.px)
    let l : Int := u * b
    let h : Int := u * (b + 1)
    let inside := decide (l < x) && decide (lo < h)
    let w0 : Int := if inside then min x h - max lo l else 0
    let m1 := if inside && decide (u < x - lo) then bin.marks ||| 1 else bin.marks
    let here := decide ((b : Int) = x / u)
    let still := here && decide (bin.still < s.get R.TIMING_FLOAT_STILL_CAP)
    let w := if still then w0 + 1 else w0
    let bin1 := { bin with
      still := if still then bin.still + 1 else bin.still
      marks := if here && !still then m1 ||| 2 else m1 }
    let bin2 := if 0 < w then binAdd bin1 w.toNat line pos d else bin1
    if h + 32 ≤ x then binClose s k role { r with bins := r.bins.filter (fun y => y.n != b) ++ [bin2] } bin2
    else (s, { r with bins := sortBy (·.n) (r.bins.filter (fun y => y.n != b) ++ [bin2]) })

/-- Apply one capture line to one row (R128, R584). -/
def floatRowLine (s : State) (k role : Nat) (r0 : FloatRow) (x : Int) (line : Nat) (pos : LinePos) (d : RowData) : State :=
  let u := binUnits s
  let tol : Int := s.get R.TIMING_FLOAT_REV_TOL
  let first := r0.at_ = none
  let at0 := r0.at_.getD (x, x)
  let t := x - at0.1
  if x < 0 ∨ t < -tol then
    let rev := decide (t < -tol)
    let s1 := if rev then
        let u := s.inc R.SLC_FLOAT_REV_LINES k
        if bitOf (u.get R.IRQ_RAW (pgSLC k)) 16 then u else u.raise (pgSLC k) 16
      else s
    putRow s1 k role { r0 with
      at_ := some (x, at0.2)
      bins := if rev then r0.bins.map (fun b => if b.lines = 0 then b else { b with marks := b.marks ||| 4 }) else r0.bins }
  else
    let lo := max at0.1 at0.2
    let hw := max at0.2 x
    let c := (x / u).toNat
    let a := if first && r0.mid then fillClosed s k role r0 c else (s, r0)
    let lo' := (max lo 0) / u
    let n := (x - lo' * u + u - 1) / u
    let fresh := (List.range n.toNat).map (fun i => lo'.toNat + i)
    let open_ := (a.2.bins.map (·.n)).filter (fun b => b ∉ fresh)
    let bs := sortBy id (open_ ++ fresh)
    let r := bs.foldl (binTake u lo x line pos d k role) (a.1, a.2)
    putRow r.1 k role { r.2 with at_ := some (x, hw) }

/-- A row as it starts with descriptor `d` of entry `e`: `next` bins are closed, those below `base` INVALID (R584). -/
def rowStart (s : State) (e : Entry) (d next base : Nat) : FloatRow :=
  { at_ := none, mid := s.flt.started, on := true, since := none, px := segRowPx e, ofs := descOfs d, stagger := segStagger e
    bins := [], next := next, base := base, pend := none }

/-- The row of Float that capture line `line`, sampled with descriptor `d` of entry `e`, is applied to: one that runs, or one that starts with the line; none
where the line was captured before the boundary that stopped or restarted the row (R584, R585). -/
def floatRowFor (s : State) (k : Nat) (e : Entry) (d line : Nat) : Option FloatRow :=
  match floatRow s k (descRole d) with
  | none => some (rowStart s e d 0 0)
  | some r =>
    if r.since.any (lineBefore line) then none
    else if r.on then some r
    else some (rowStart s e d r.next r.base)

/-- Row `role` of slice `k` in the line, `n` pixels long: INVALID where the line does not hold it, or the slice admits no lines (R131, R138). -/
def lineRow (s : State) (cl : CapLine) (k role n : Nat) : RowData :=
  let none_ : RowData := { role := role, px := List.replicate n 0, flags := List.replicate (blocksOf n) flINVALID }
  if k ∈ s.flt.overrun then none_
  else match (smGet [] cl.slices k).find? (fun w => w.role = role) with
    | some w => if w.px.length = n then w else none_
    | none => none_

/-- One released and positioned capture line in Float: the rows it was sampled with (R33, R125, R128, R131, R138). -/
def floatLine (s : State) (cl : CapLine) (pos : LinePos) : State :=
  let s1 := s.each (contribPairs (s.withContent cl.cont)) (fun t x =>
    let k := x.1
    let e := x.2
    let y : Int := if t.bit R.TIMING_FLOAT_YAW && pos.src = 0 then smGet 0 pos.yaw k else 0
    let ux := gridU (pos.p - segStagger e + y)
    let t1 := if k ∈ t.flt.overrun then t.inc R.MC_RING_OVERRUN_CNT else t
    olineRefresh (t1.each (segDescs e) (fun v d =>
      match floatRowFor v k e d cl.line with
      | none => v
      | some row => floatRowLine v k (descRole d) row (ux - 16 * descOfs d) cl.line pos (lineRow v cl k (descRole d) row.px))) k)
  { s1 with flt := { s1.flt with started := true } }

/-! ## Boundaries and job ends -/

/-- The first capture line after a boundary that falls now: no line in progress is one (R33, R585). -/
def lineAfter (s : State) : Nat := (s.get R.TIMING_LINE_CNT + 1) % 2 ^ 32

/-- A row stops: every bin it has not closed counts as closed with every block INVALID, and none is held back by it (R585). -/
def rowStop (s : State) (k role : Nat) : State :=
  match floatRow s k role with
  | none => s
  | some r =>
    putRow (resolvePend s k role r none) k role { r with on := false, since := some (lineAfter s), at_ := none, bins := [], pend := none }

/-- ROW_ENTRY_CHANGE for a segment contributing before and after a boundary that brings entry `e` (R585). DESIGN CHOICE (log 125): a block of a row's last closed
bin that still waits for its repair becomes INVALID at once when the row restarts or stops. -/
def rowsNewEntry (s : State) (k : Nat) (e : Entry) : State :=
  s.each [0, 1, 2, 3, 4] (fun t role =>
    match (floatRow t k role).filter (·.on), segRow? e role with
    | none, _ => t
    | some _, none => rowStop t k role
    | some r, some d =>
      if r.px = segRowPx e ∧ r.ofs = descOfs d ∧ r.stagger = segStagger e then t
      else putRow (resolvePend t k role r none) k role { rowStart t e d r.next r.base with mid := true, since := some (lineAfter t) })

/-- A segment stops contributing: its rows stop (R60, R585). -/
def rowsStop (s : State) (k : Nat) : State := s.each [0, 1, 2, 3, 4] (fun t role => rowStop t k role)

/-- Every open bin is discarded, and blocks still waiting for repair are emitted INVALID (R38, R39, R132). -/
def floatDiscard (s : State) : State :=
  s.each s.flt.rows (fun t e =>
    putRow (resolvePend t (e.1 / 8) (e.1 % 8) e.2 none) (e.1 / 8) (e.1 % 8) { e.2 with bins := [], pend := none })

/-- A job begins: output lines are numbered from 0 (R14, R127, R584). -/
def floatJobStart (s : State) : State :=
  { s with
    capLines := []
    flt := { rows := [], started := false, hdrs := [], held := [], overrun := [], scrimNext := 0, rungAvg := s.flt.rungAvg } }

/-- Scrim has read line `n`: its slot is released (R138). -/
def ringRelease (s : State) (n : Nat) : State :=
  { s with flt := { s.flt with scrimNext := max s.flt.scrimNext (n + 1), hdrs := s.flt.hdrs.filter (fun h => n < h.1 / 32 + 1) } }

/-- Every row of every contributing segment has closed bin `n`, and `p` holds of each (R44, R130). -/
def rowsClosed (s : State) (n : Nat) (p : FloatRow → Bool) : Bool :=
  let ks := contribs s
  !ks.isEmpty && ks.all (fun k => match (s.slice k).entry with
    | none => true
    | some e => (segDescs e).all (fun d => match floatRow s k (descRole d) with
      | none => false
      | some r => decide (n < r.next) && p r))

/-- Every row of every contributing segment has closed bin `n`, and none waits for repair of it (R44, R130, R132). A job that ends with the line waits for
no repair. -/
def lineClosed (s : State) (n : Nat) : Bool :=
  rowsClosed s n (fun r => s.inJob && s.modePend == some .idle || r.pend.all (fun p => p.n != n))

/-- The blocks that wait for repair are emitted INVALID, where the job ends with the line they are of (R38, R132). -/
def pendsInvalid (s : State) : State :=
  s.each s.flt.rows (fun t e => putRow (resolvePend t (e.1 / 8) (e.1 % 8) e.2 none) (e.1 / 8) (e.1 % 8) { e.2 with pend := none })

end Sys2Proof.Machine
end

