-- ==== Sys2Proof/Machine/Lanczos.lean ====
section
/-! DEFINITION. The built-in seam weights of R150: the 8-tap Lanczos kernel with window parameter 4, for phases 0 to 63, as the formula
of that rule gives it. -/
namespace Sys2Proof.Machine

/-- Phases 0 to 7 (R150). -/
def lanczos0 : List (List Int) :=
  [[0, 0, 0, 16384, 0, 0, 0, 0],
   [-25, 80, -226, 16377, 235, -83, 26, 0],
   [-49, 158, -443, 16356, 478, -168, 53, -1],
   [-71, 232, -651, 16319, 730, -255, 82, -2],
   [-93, 304, -850, 16271, 990, -345, 111, -4],
   [-113, 373, -1040, 16206, 1258, -436, 142, -6],
   [-132, 439, -1220, 16129, 1533, -529, 173, -9],
   [-149, 501, -1391, 16039, 1816, -624, 205, -13]]

/-- Phases 8 to 15 (R150). -/
def lanczos1 : List (List Int) :=
  [[-165, 560, -1552, 15933, 2106, -719, 238, -17],
   [-180, 616, -1704, 15816, 2402, -816, 271, -21],
   [-193, 668, -1846, 15685, 2705, -914, 305, -26],
   [-205, 717, -1978, 15539, 3014, -1012, 340, -31],
   [-216, 763, -2101, 15382, 3329, -1111, 375, -37],
   [-226, 805, -2215, 15215, 3649, -1210, 410, -44],
   [-234, 843, -2319, 15033, 3974, -1308, 445, -50],
   [-241, 878, -2413, 14839, 4304, -1406, 481, -58]]

/-- Phases 16 to 23 (R150). -/
def lanczos2 : List (List Int) :=
  [[-247, 910, -2499, 14636, 4637, -1504, 516, -65],
   [-252, 938, -2575, 14419, 4975, -1600, 552, -73],
   [-255, 962, -2642, 14192, 5316, -1695, 587, -81],
   [-257, 984, -2700, 13956, 5659, -1789, 621, -90],
   [-259, 1001, -2749, 13710, 6005, -1881, 656, -99],
   [-259, 1016, -2790, 13453, 6353, -1970, 689, -108],
   [-258, 1027, -2822, 13187, 6702, -2057, 722, -117],
   [-256, 1036, -2846, 12911, 7053, -2142, 754, -126]]

/-- Phases 24 to 31 (R150). -/
def lanczos3 : List (List Int) :=
  [[-254, 1041, -2862, 12630, 7403, -2223, 785, -136],
   [-250, 1043, -2870, 12338, 7754, -2301, 815, -145],
   [-246, 1042, -2870, 12039, 8104, -2375, 844, -154],
   [-241, 1038, -2863, 11736, 8453, -2446, 871, -164],
   [-236, 1032, -2849, 11425, 8800, -2512, 897, -173],
   [-229, 1023, -2828, 11106, 9146, -2573, 921, -182],
   [-223, 1012, -2800, 10783, 9489, -2629, 943, -191],
   [-215, 998, -2767, 10457, 9828, -2681, 963, -199]]

/-- Phases 32 to 39 (R150). -/
def lanczos4 : List (List Int) :=
  [[-207, 982, -2727, 10124, 10164, -2727, 982, -207],
   [-199, 963, -2681, 9828, 10457, -2767, 998, -215],
   [-191, 943, -2629, 9489, 10783, -2800, 1012, -223],
   [-182, 921, -2573, 9146, 11106, -2828, 1023, -229],
   [-173, 897, -2512, 8800, 11425, -2849, 1032, -236],
   [-164, 871, -2446, 8453, 11736, -2863, 1038, -241],
   [-154, 844, -2375, 8104, 12039, -2870, 1042, -246],
   [-145, 815, -2301, 7754, 12338, -2870, 1043, -250]]

/-- Phases 40 to 47 (R150). -/
def lanczos5 : List (List Int) :=
  [[-136, 785, -2223, 7403, 12630, -2862, 1041, -254],
   [-126, 754, -2142, 7053, 12911, -2846, 1036, -256],
   [-117, 722, -2057, 6702, 13187, -2822, 1027, -258],
   [-108, 689, -1970, 6353, 13453, -2790, 1016, -259],
   [-99, 656, -1881, 6005, 13710, -2749, 1001, -259],
   [-90, 621, -1789, 5659, 13956, -2700, 984, -257],
   [-81, 587, -1695, 5316, 14192, -2642, 962, -255],
   [-73, 552, -1600, 4975, 14419, -2575, 938, -252]]

/-- Phases 48 to 55 (R150). -/
def lanczos6 : List (List Int) :=
  [[-65, 516, -1504, 4637, 14636, -2499, 910, -247],
   [-58, 481, -1406, 4304, 14839, -2413, 878, -241],
   [-50, 445, -1308, 3974, 15033, -2319, 843, -234],
   [-44, 410, -1210, 3649, 15215, -2215, 805, -226],
   [-37, 375, -1111, 3329, 15382, -2101, 763, -216],
   [-31, 340, -1012, 3014, 15539, -1978, 717, -205],
   [-26, 305, -914, 2705, 15685, -1846, 668, -193],
   [-21, 271, -816, 2402, 15816, -1704, 616, -180]]

/-- Phases 56 to 63 (R150). -/
def lanczos7 : List (List Int) :=
  [[-17, 238, -719, 2106, 15933, -1552, 560, -165],
   [-13, 205, -624, 1816, 16039, -1391, 501, -149],
   [-9, 173, -529, 1533, 16129, -1220, 439, -132],
   [-6, 142, -436, 1258, 16206, -1040, 373, -113],
   [-4, 111, -345, 990, 16271, -850, 304, -93],
   [-2, 82, -255, 730, 16319, -651, 232, -71],
   [-1, 53, -168, 478, 16356, -443, 158, -49],
   [0, 26, -83, 235, 16377, -226, 80, -25]]

/-- C[φ][t] of the built-in kernel (R150). -/
def lanczos : List (List Int) :=
  lanczos0 ++ lanczos1 ++ lanczos2 ++ lanczos3 ++ lanczos4 ++ lanczos5 ++ lanczos6 ++ lanczos7

end Sys2Proof.Machine
end

