-- ==== Sys2Proof/Machine/Scrim.lean ====
section
/-! DEFINITION. Scrim (R139 to R156): the thermal model, overlap correlation, slewed geometry, resampling, seams, and the output
line. -/
namespace Sys2Proof.Machine
open Sys2Proof

/-- A quotient kept exact. -/
structure Frac where
  num : Int
  den : Nat
deriving DecidableEq, Repr

/-! ## Thermal model (R140, R141) -/

/-- Enabled thermistors, and those of them with a valid reading, as position in nm / 6 and temperature in 0.01 °C, by position
(R141, R450). -/
def thermEnabled (s : State) : List Nat := (List.range 8).filter (fun i => s.bit R.SCRIM_THERMi_EN 0 i)

def thermValid (s : State) : List (Int × Int) :=
  let l := (thermEnabled s).filterMap (fun i =>
    let e := s.get R.SCRIM_THERMi_SEL 0 i
    if s.get R.HK_SEQe_FMT 0 e = 2 ∧ s.bit R.HK_RESe_VALID 0 e = true then
      some (s.get R.SCRIM_THERMi_X 0 i * 6000, s.getI R.HK_RESe 0 e) else none)
  (sortBy (·.1) l).map (fun x => ((x.1 : Int), x.2))

/-- T(x) at x in nm / 6 (R141). -/
def thermAt : List (Int × Int) → Int → Frac
  | [], _ => ⟨0, 1⟩
  | [(_, t)], _ => ⟨t, 1⟩
  | (x1, t1) :: (x2, t2) :: l, x =>
    if x ≤ x1 then ⟨t1, 1⟩
    else if x ≤ x2 then (if x2 = x1 then ⟨t2, 1⟩ else ⟨t1 * (x2 - x) + t2 * (x - x1), (x2 - x1).toNat⟩)
    else thermAt ((x2, t2) :: l) x

def anchorNm (s : State) : Int := ofTwos 64 (s.get64 R.SCRIM_ANCHOR_NM_LO R.SCRIM_ANCHOR_NM_HI)

/-- Six times the centre of a segment's row under X_ORIGIN_NM, nm. -/
def segCentre6 (e : Entry) : Int := 6 * segX e + ((segRowPx e : Int) - 1) * 63500

/-- Model geometry of one segment from the readings `l` (R140). -/
def modelGeo (s : State) (l : List (Int × Int)) (e : Entry) : Int × Int :=
  let a := anchorNm s
  let ta := thermAt l (6 * a)
  let tx := thermAt l (segCentre6 e)
  -- twice the mean temperature above T_REF, over den
  let den : Nat := ta.den * tx.den
  let two : Int := ta.num * tx.den + tx.num * ta.den - 2 * segTRef e * den
  let o := segX e + roundDiv ((segX e - a) * (s.get R.SCRIM_BAR_ALPHA : Int) * two) (2 * den * 256 * 100000000)
  let sc := roundDiv (1000 * (segAlpha e : Int) * (tx.num - segTRef e * tx.den)) (256 * 100 * tx.den)
  (o, sc)

/-- Every contributing segment's model geometry; without a valid reading the model holds (R140, R141). -/
def thermModel (s : State) : State :=
  let ks := contribs s
  let ent (k : Nat) : Entry := (s.slice k).entry.getD []
  let rigid := ks.map (fun k => (k, (segX (ent k), (0 : Int))))
  let stale (b : Bool) (t : State) : State :=
    let u := t.setB R.SCRIM_STAT_THERM_STALE b
    if b && !(t.bit R.SCRIM_STAT_THERM_STALE) then u.raise pgSCRIM 1 else u
  if !(s.bit R.SCRIM_CTRL_THERM_EN) || thermEnabled s = [] then
    stale false { s with scrim := { s.scrim with model := rigid } }
  else match thermValid s with
    | [] =>
      let keep := rigid.map (fun x => (x.1, smGet x.2 s.scrim.model x.1))
      stale true { s with scrim := { s.scrim with model := keep } }
    | l => stale false { s with scrim := { s.scrim with model := ks.map (fun k => (k, modelGeo s l (ent k))) } }

/-! ## Corrections and targets (R143, R144) -/

/-- c_j in force; seam 23 does not exist (R174). -/
def seamCorr (s : State) (j : Nat) : Int := if 22 < j then 0 else s.getI R.CLU_SEAMj_CORR (j / 4) (j % 4)

/-- The anchor segment (R143). -/
def anchorSeg (s : State) : Option Nat :=
  let a := anchorNm s
  let ks := contribs s
  let ent (k : Nat) : Entry := (s.slice k).entry.getD []
  match ks.find? (fun k => decide (segX (ent k) ≤ a) && decide (3 * a ≤ 3 * segX (ent k) + ((segRowPx (ent k) : Int) - 1) * 63500)) with
  | some k => some k
  | none =>
    let dist (k : Nat) : Nat := (segCentre6 (ent k) - 6 * a).natAbs
    match ks with
    | [] => none
    | k :: l => some (l.foldl (fun b x => if dist x < dist b then x else b) k)

/-- A reading has turned invalid: with no valid one left the model holds its last values, and says so (R141). -/
def thermLost (s : State) : State :=
  if s.bit R.SCRIM_CTRL_THERM_EN && thermEnabled s != [] && thermValid s = [] && !(s.bit R.SCRIM_STAT_THERM_STALE) then
    (s.set R.SCRIM_STAT_THERM_STALE 1).raise pgSCRIM 1
  else s

/-- The targets are recomputed at the next OLINE boundary (R144). -/
def scrimStale (s : State) : State := { s with scrim := { s.scrim with dirty := true } }

/-- SCRIM_TARGET_RECOMPUTE (R143, R144). -/
def scrimTargets (s : State) : State :=
  let s1 := thermModel s
  match anchorSeg s1 with
  | none => { s1 with scrim := { s1.scrim with target := [], dirty := false } }
  | some a =>
    let ks := contribs s1
    let c (j : Nat) : Int := if j ∈ ks ∧ j + 1 ∈ ks then seamCorr s1 j else 0
    let sum (lo hi : Nat) : Int := sumI ((List.range hi).map (fun j => if lo ≤ j then c j else 0))
    let tgt := s1.scrim.model.map (fun m =>
      (m.1, (if a ≤ m.1 then m.2.1 - sum a m.1 else m.2.1 + sum m.1 a, m.2.2)))
    { s1 with scrim := { s1.scrim with target := tgt, dirty := false } }

/-! ## Geometry in force (R145 to R147) -/

def geoOf (s : State) (k : Nat) : Int × Int :=
  (ofTwos 64 (s.get64 R.CLU_SEGj_ORIGIN_LO R.CLU_SEGj_ORIGIN_HI (k / 4) (k % 4)), s.getI R.CLU_SEGj_SCALE (k / 4) (k % 4))

def geoPut (s : State) (k : Nat) (g : Int × Int) : State :=
  ((s.set64 R.CLU_SEGj_ORIGIN_LO R.CLU_SEGj_ORIGIN_HI (toTwos 64 g.1) (k / 4) (k % 4)).setI R.CLU_SEGj_SCALE g.2 (k / 4) (k % 4))

/-- D of R145 in units of 1 / (63,500 × 10⁹) output px. -/
def geoDist (e : Entry) (a b : Int × Int) : Nat :=
  let d0 := 3 * (b.1 - a.1) * 1000000000
  let dl := d0 + ((segRowPx e : Int) - 1) * 63500 * (b.2 - a.2)
  max d0.natAbs dl.natAbs

def pxUnits : Nat := 63500 * 1000000000

/-- One slewed step of a segment's geometry (R145). -/
def geoStep (e : Entry) (a b : Int × Int) : Int × Int :=
  let d := geoDist e a b
  if 64 * d ≤ pxUnits then b
  else
    let mv (x : Int) : Int := if 0 ≤ x then ((x.toNat * pxUnits) / (64 * d) : Nat) else -(((-x).toNat * pxUnits / (64 * d) : Nat) : Int)
    (a.1 + mv (b.1 - a.1), a.2 + mv (b.2 - a.2))

/-- The geometry part of an OLINE boundary (R144 to R147). `whole`: an IDLE-to-job transition, which sets every geometry to its
target and counts in SCRIM_GEN (R145, R146). -/
def scrimGeometry (s : State) (whole : Bool) : State :=
  let s0 := if s.scrim.dirty || whole then scrimTargets s else s
  let ks := contribs s0
  let ent (k : Nat) : Entry := (s0.slice k).entry.getD []
  let step (a : State × Bool × Bool) (k : Nat) : State × Bool × Bool :=
    let old := geoOf a.1 k
    let tgt := smGet (segX (ent k), 0) a.1.scrim.target k
    let new := if whole || !(decide (k ∈ a.1.scrim.placed)) then tgt else geoStep (ent k) old tgt
    let d := geoDist (ent k) new tgt
    let s1 := (geoPut a.1 k new).set R.CLU_SEGj_TGT_DIST (min 65535 (64 * d / pxUnits)) (k / 4) (k % 4)
    (s1, a.2.1 || new != old || !(decide (k ∈ a.1.scrim.placed)), a.2.2 || decide (pxUnits < d))
  let r := ks.foldl step (s0, false, false)
  let s1 := { r.1 with scrim := { r.1.scrim with placed := ks } }
  let s2 := if r.2.1 || whole then s1.set R.SCRIM_GEN (s1.get R.SCRIM_GEN + 1) else s1
  let s3 := s2.setB R.SCRIM_STAT_LAG r.2.2
  if r.2.2 && !(s2.bit R.SCRIM_STAT_LAG) then s3.raise pgSCRIM 0 else s3

/-- W_out (R153), with u rounded to 1/64 px (R139): fixed again where entries or the contributing set change. -/
def widthFix (s : State) : State :=
  match (contribs s).getLast? with
  | none => s
  | some k =>
    let e := (s.slice k).entry.getD []
    -- u ≤ row length − 1 after rounding: i < (X_ORIGIN_NM / q) + row length − 1 + 1/128
    let w := (128 * (3 * segX e + ((segRowPx e : Int) - 1) * 63500) + 63500 + 128 * 63500 - 1) / (128 * 63500)
    s.set R.SCRIM_OUT_PIXELS (min 286720 w.toNat)

/-! ## Resampling (R139, R148) -/

/-- 64 × u for output pixel i, halves rounded up (R139). -/
def srcPos (g : Int × Int) (i : Nat) : Int :=
  let n := 64 * (63500 * (i : Int) - 3 * g.1) * 1000000000
  let d := 63500 * (1000000000 + g.2)
  (2 * n + d) / (2 * d)

/-- Three times 10⁹ × the output position of LOC_PIX p, nm (R139). -/
def outPos (g : Int × Int) (p : Int) : Int := 3 * g.1 * 1000000000 + p * 63500 * (1000000000 + g.2)

def coefOf (s : State) (ph : Nat) : List Int := (s.scrim.coefs.getD lanczos).getD ph []

/-- A contributing segment's row of the line being read. -/
structure SrcRow where
  k : Nat
  geo : Int × Int
  len : Nat
  has : Bool
  px : List Nat
  fl : List Nat
  role : Nat
deriving DecidableEq, Repr

/-- One segment's value at output pixel i: value where valid, and the OR of the flags of the source blocks used (R148, R155). -/
def resample (s : State) (r : SrcRow) (i : Nat) : Option (Nat × Nat) :=
  let u := srcPos r.geo i
  if !r.has || decide (u < 0) || decide (((r.len : Int) - 1) * 64 < u) then none
  else
    let base := u / 64
    let cs := coefOf s (u % 64).toNat
    let idx (t : Nat) : Nat := (clampI 0 ((r.len : Int) - 1) (base - 3 + t)).toNat
    let used := ((List.range 8).filter (fun t => cs.getD t 0 != 0)).map idx
    let fl := used.foldl (fun a p => a ||| r.fl.getD (p / 256) flINVALID) 0
    if bitOf fl 0 then none
    else
      let sum := sumI ((List.range 8).map (fun t => cs.getD t 0 * (r.px.getD (idx t) 0 : Nat)))
      some ((clampI 0 65535 ((sum + 8192) / 16384)).toNat, fl)

/-- Output pixel i is covered by the segment (R148). -/
def covers (r : SrcRow) (i : Nat) : Bool :=
  let u := srcPos r.geo i
  decide (0 ≤ u) && decide (u ≤ ((r.len : Int) - 1) * 64)

/-- The source pixel at ⌊u + 1/2⌋: dead, dead in an overlap, in an INVALID block (R123, R152). -/
def srcDead (s : State) (r : SrcRow) (i : Nat) : Bool × Bool × Bool :=
  let p := (clampI 0 ((r.len : Int) - 1) ((srcPos r.geo i + 32) / 64)).toNat
  let dead := isDead (s.slice r.k).shading (s.slice r.k).dead r.role p
  (dead, dead && (s.slice r.k).entry.any (fun e => inOverlap s r.k e p), bitOf (r.fl.getD (p / 256) 1) 0)

/-! ## Seams (R149 to R152) -/

/-- Blend width and centre offset of seam j, from the image in force or built in (R150). -/
def seamRec (s : State) (j : Nat) : Nat × Int :=
  match s.scrim.seams with | none => (128, 0) | some l => l.getD j (128, 0)

/-- First output pixel of the zone of seam j between geometries, and its width (R151), with the clipping of R150. -/
def seamZone (s : State) (j : Nat) (left right : SrcRow) : Int × Nat :=
  let w := seamRec s j
  let b := outPos right.geo 0
  let e := outPos left.geo ((left.len : Int) - 1)
  -- (b + e) / 2 / q + offset − W / 2, over 2 × 63,500 × 10⁹
  let n := b + e + (2 * w.2 - w.1) * (63500 * 1000000000)
  let d : Int := 2 * (63500 * 1000000000)
  let x := (2 * n + d) / (2 * d)
  match smFind s.scrim.clip j with
  | none => (x, w.1)
  | some c => (x + c.2, c.1)

/-- Weight of the right side at output pixel i, 0 to 256 (R151). -/
def seamWeight (z : Int × Nat) (i : Nat) : Nat :=
  if (i : Int) < z.1 then 0 else if z.1 + z.2 ≤ i then 256 else ((2 * ((i : Int) - z.1).toNat + 1) * 128) / z.2

/-- One output pixel of one row (R148, R151, R152): value, flags of the blocks used, whether the dead-pixel rule acted. -/
def outPixel (s : State) (rows : List SrcRow) (i : Nat) : Option (Nat × Nat) × Bool :=
  match rows.filter (fun r => covers r i) with
  | [] => (none, false)
  | [r] => (resample s r i, false)
  | l :: r :: _ =>
    match resample s l i, resample s r i with
    | none, none => (none, false)
    | some a, none => (some a, false)
    | none, some b => (some b, false)
    | some a, some b =>
      let dl := srcDead s l i
      let dr := srcDead s r i
      let w := if l.k + 1 = r.k then seamWeight (seamZone s l.k l r) i else 0
      if dl.2.1 && !dr.1 && !dr.2.2 then (some b, true)
      else if dr.2.1 && !dl.1 && !dl.2.2 then (some a, true)
      else if w = 0 then (some a, false)
      else if w = 256 then (some b, false)
      else (some (((256 - w) * a.1 + w * b.1 + 128) / 256, a.2 ||| b.2), false)

/-- One row of an output line: pixels, flag blocks, gap, partner used (R154, R155). -/
def outRow (s : State) (role width : Nat) (rows : List SrcRow) : RowData × Bool × Bool :=
  let ps := (List.range width).map (outPixel s rows)
  let bl := (List.range (blocksOf width)).map (fun b =>
    let q := (ps.drop (256 * b)).take 256
    if q.any (fun x => x.1.isNone) then flINVALID
    else q.foldl (fun a x => a ||| (match x.1 with | some y => y.2 | none => 0)) 0)
  let fix (f : Nat) : Nat := if bitOf f 6 then f &&& (255 - flRENORM) else f
  ({ role := role, px := ps.map (fun x => match x.1 with | some y => y.1 | none => 0), flags := bl.map fix },
   ps.any (fun x => x.1.isNone), ps.any (·.2))

/-- The rows of the contributing segments for row code `role` of line `n`, from the ring. -/
def srcRows (s : State) (n role : Nat) : List SrcRow :=
  (contribs s).filterMap (fun k => (s.slice k).entry.map (fun e =>
    let d := ringRow s n k role (segRowPx e)
    { k := k, geo := geoOf s k, len := segRowPx e, has := (segRow? e role).isSome, px := d.2, fl := d.1, role := role }))

/-- Output line `n` (R154). -/
def scrimLine (s : State) (n : Nat) : OutLine × State :=
  let ks := contribs s
  let roles := [0, 1, 2, 3, 4].filter (fun r => ks.any (fun k => (s.slice k).entry.any (fun e => (segRow? e r).isSome)))
  let width := s.get R.SCRIM_OUT_PIXELS
  let rs := roles.map (fun r => outRow s r width (srcRows s n r))
  let hs := (ks.filter (fun k => (smFind s.flt.hdrs (hdrKey n k)).isSome)).map (fun k => ringHdr s n k)
  let any (b : Nat) : Bool := rs.any (fun r => r.1.flags.any (fun f => bitOf f b))
  let last := hs.foldl (fun m h => if h.first.isSome then max m (h.last + 1) else m) 0
  let d := s.draw
  let ts := match (s.scrim.stamps.find? (fun x => x.1 == last - 1)).map (·.2) <|> (if last - 1 = s.get R.TIMING_LINE_CNT then s.timing.mark else none) with
    | some t => (t, s)
    | none => ((Config.unstated 4 d.1).toNat % 2 ^ 64, d.2)
  let fl := b2n (s.bit R.SCRIM_STAT_LAG) + 2 * b2n (rs.any (·.2.1)) + 4 * b2n (hs.any (fun h => bitOf h.flags 0)) + 8 * b2n (any 5) +
    16 * b2n (any 6) + 32 * b2n (rs.any (·.2.2)) + 64 * b2n (s.bit R.SCRIM_STAT_SW_DEFAULT)
  let s1 := ts.2
  ({ n := n, edge := roundDiv ((n * s.get R.TIMING_FLOAT_PITCH * 63500 : Nat) : Int) 3, ts := ts.1, width := width,
     rows := rs.map (·.1), src := hs.foldl (fun m h => max m h.src) 0,
     conf := hs.foldl (fun m h => min m (if h.tracked then h.conf else 0)) 255, segs := ks.length, gen := s.get R.SCRIM_GEN, flags := fl },
   { s1 with scrim := { s1.scrim with stamps := s1.scrim.stamps.filter (fun x => decide (last ≤ x.1 + 1)) } })

/-- Bytes of an output line record (R154). -/
def outLineBytes (o : OutLine) : List (BitVec 8) :=
  let pad (b : List (BitVec 8)) : List (BitVec 8) := b ++ List.replicate ((64 - b.length % 64) % 64) 0
  leBytes 8 o.n ++ leBytesI 8 o.edge ++ leBytes 8 o.ts ++ leBytes 4 o.width ++
  leBytes 1 (sumN (o.rows.map (fun r => 2 ^ r.role))) ++ leBytes 1 o.src ++ leBytes 1 o.conf ++ leBytes 1 o.segs ++ leBytes 4 o.gen ++
  leBytes 2 o.flags ++ leBytes 26 0 ++
  o.rows.flatMap (fun r => pad (r.px.flatMap (leBytes 2) ++ r.flags.flatMap (leBytes 1)))

/-! ## Overlap correlation (R142, R143, R156) -/

/-- The pixels a seam's window looks at: inside the overlap, 8 px from both ends (R142). -/
def corrSpan (l r : SrcRow) : List Nat :=
  let b := outPos r.geo 0
  let e := outPos l.geo ((l.len : Int) - 1)
  let u : Int := pxUnits
  let lo := (b + u - 1) / u + 8
  let hi := e / u - 8
  (List.range (hi + 1 - lo).toNat).map (fun (i : Nat) => (lo + i).toNat)

/-- A side's value for the sums; none where the block is INVALID, SAT or DEAD (R142). -/
def corrValue (s : State) (r : SrcRow) (i : Int) : Option Nat :=
  if i < 0 then none
  else match resample s r i.toNat with
    | some (v, f) => if f &&& (flINVALID + flSAT + flDEAD) = 0 then some v else none
    | none => none

def corrAdd (s : State) (l r : SrcRow) (w : CorrWin) : CorrWin :=
  let span := corrSpan l r
  let at_ (d : Int) : List (Nat × Nat) := span.filterMap (fun (i : Nat) =>
    match corrValue s l i, corrValue s r (i + d) with | some a, some b => some (a, b) | _, _ => none)
  let ps := (List.range 17).map (fun (d : Nat) => at_ ((d : Int) - 8))
  let upd (f : Nat × Nat → Nat) (old : List Nat) : List Nat := (ps.zip old).map (fun x => x.2 + sumN (x.1.map f))
  { w with
    xy := upd (fun p => p.1 * p.2) w.xy
    xx := upd (fun p => p.1 * p.1) w.xx
    yy := upd (fun p => p.2 * p.2) w.yy
    incl := w.incl + (ps.getD 8 []).length
    total := w.total + span.length
    seen := true }

def CorrWin.init : CorrWin :=
  { xy := List.replicate 17 0, xx := List.replicate 17 0, yy := List.replicate 17 0, incl := 0, total := 0, bad := false, seen := false }

/-- ρ(d) × 2²⁰, rounded down (R142; log 14: the spec gives no precision). -/
def corrRho (w : CorrWin) (d : Nat) : Nat :=
  let p := w.xx.getD d 0 * w.yy.getD d 0
  if p = 0 then 0 else isqrt (w.xy.getD d 0 * w.xy.getD d 0 * 2 ^ 40 / p)

/-- CORR_WINDOW_END for seam j (R142, R143, R156). -/
def corrEnd (s : State) (j : Nat) (w : CorrWin) : State :=
  let r := (List.range 17).map (corrRho w)
  let pk := (List.range 17).foldl (fun b d => if r.getD b 0 < r.getD d 0 then d else b) 0
  let c := j / 4
  let i := j % 4
  let ok := !w.bad && decide (s.get R.SCRIM_CORR_MIN * 2 ^ 20 ≤ 255 * r.getD pk 0) && pk != 0 && pk != 16 &&
    decide (w.total ≤ 2 * w.incl) && w.total != 0
  if ok then
    let a : Int := r.getD (pk - 1) 0
    let b : Int := r.getD pk 0
    let d : Int := r.getD (pk + 1) 0
    let den := 2 * (2 * b - a - d)
    let e := if den ≤ 0 then roundDiv (((pk : Int) - 8) * 63500) 3
      else roundDiv ((((pk : Int) - 8) * den + (d - a)) * 63500) (3 * den.toNat)
    let g := s.get R.SCRIM_CORR_GAIN
    ((((s.setI R.CLU_SEAMj_RESID e c i).set R.CLU_SEAMj_CONF (255 * b.toNat / 2 ^ 20) c i).set R.CLU_SEAMj_AGE 0 c i).setI R.CLU_SEAMj_CORR
      (seamCorr s j + roundDiv e (2 ^ g)) c i)
  else s.inc R.CLU_SEAMj_AGE c i

/-- An output line enters the windows; full windows end (R142, R144). -/
def corrLine (s : State) (n : Nat) : State :=
  if !(s.bit R.SCRIM_CTRL_CORR_EN || s.cal.run.any (fun r => r.gain0.isSome)) then s
  else
    let rows := (srcRows s n (s.get R.SCRIM_CTRL_CORR_ROW)).filter (·.has)
    let pairs := rows.filterMap (fun l => (rows.find? (fun r => r.k = l.k + 1)).map (fun r => (l, r)))
    let corr := pairs.foldl (fun l p => smPut l p.1.k (corrAdd s p.1 p.2 (smGet CorrWin.init s.scrim.corr p.1.k))) s.scrim.corr
    let n1 := s.scrim.corrLines + 1
    if s.get R.SCRIM_CORR_LINES ≤ n1 then
      let s1 := s.each (corr.filter (·.2.seen)) (fun t w => corrEnd t w.1 w.2)
      { s1 with scrim := { s1.scrim with corr := [], corrLines := 0, dirty := true } }
    else { s with scrim := { s.scrim with corr := corr, corrLines := n1 } }

/-! ## Seam weights image (R149, R150) -/

def seamCoefs (b : List (BitVec 8)) : List (List Int) :=
  (List.range 64).map (fun ph => (List.range 8).map (fun t => leAtI b (16 * ph + 2 * t) 2))

def seamRecs (b : List (BitVec 8)) : List (Nat × Int) :=
  (List.range 23).map (fun j => (leAt b (0x400 + 8 * j) 2, leAtI b (0x402 + 8 * j) 2))

/-- A zone under the reference geometry: first pixel, and the least and greatest pixels it may cover (R150 check 3). -/
def refZone (w : Nat × Int) (l r : Entry) : Int × Int × Int :=
  let b := 3 * segX r
  let e := 3 * segX l + ((segRowPx l : Int) - 1) * 63500
  let n := b + e + (2 * w.2 - w.1) * 63500
  let x := (2 * n + 2 * 63500) / (4 * 63500)
  (x, (b + 63500 - 1) / 63500 + 4, e / 63500 - 4)

def zoneFits (w : Nat × Int) (l r : Entry) : Bool :=
  let z := refZone w l r
  decide (z.2.1 ≤ z.1) && decide (z.1 + w.1 - 1 ≤ z.2.2)

/-- The checks of R150 over a payload, with the entries that will be in force: ERR_CODE and ERR_INFO of the first failure. -/
def seamCheck (ent : Nat → Option Entry) (b : List (BitVec 8)) : Option (Nat × Nat) :=
  let res := leAt b 0x4B8 8 != 0 || (List.range 23).any (fun j => leAt b (0x404 + 8 * j) 4 != 0)
  if res then
    some (0x303, ((List.range 23).find? (fun j => leAt b (0x404 + 8 * j) 4 != 0)).getD 0)
  else match (List.range 64).find? (fun ph => sumI ((seamCoefs b).getD ph []) != 16384) with
    | some ph => some (0x301, ph)
    | none =>
      ((List.range 23).find? (fun j =>
        match ent j, ent (j + 1) with
        | some l, some r =>
          let w := (seamRecs b).getD j (0, 0)
          w.1 % 2 != 0 || decide (w.1 < 16) || decide (1016 < w.1) || !(zoneFits w l r)
        | _, _ => false)).map (fun j => (0x302, j))

/-- Where new entries narrow an overlap, zones are shortened and moved just enough to fit (R150). -/
def seamClip (s : State) : State :=
  let ent (k : Nat) : Option Entry := if segEn s k then (s.slice k).entry else none
  let clip := (List.range 23).filterMap (fun j =>
    match ent j, ent (j + 1) with
    | some l, some r =>
      let w := seamRec s j
      if zoneFits w l r then none
      else
        let z := refZone w l r
        let w1 := min w.1 (z.2.2 - z.2.1 + 1).toNat
        let x1 := clampI z.2.1 (z.2.2 - w1 + 1) z.1
        some (j, (w1, x1 - z.1))
    | _, _ => none)
  let new := clip.any (fun c => smFind s.scrim.clip c.1 != some c.2)
  let s1 := { s with scrim := { s.scrim with clip := clip } }
  if new then (s1.set R.SCRIM_STAT_SEAM_CLIPPED 1).raise pgSCRIM 2 else s1

/-- A seam weights image at the PAGE boundary that brings it in (R150). -/
def seamSwap (s : State) (b : List (BitVec 8)) : State :=
  let ent (k : Nat) : Option Entry := if segEn s k then (s.slice k).entry else none
  match seamCheck ent b with
  | some (c, i) => (s.err pgSCRIM c i).raise pgSCRIM 3
  | none => seamClip (({ s with scrim := { s.scrim with coefs := some (seamCoefs b), seams := some (seamRecs b), clip := [] } }).set
      R.SCRIM_STAT_SW_DEFAULT 0)

/-- An entry in force has changed: seams beside it (R142, R144), and the targets (R144). -/
def scrimEntryChanged (s : State) (k : Nat) (old new : Option Entry) : State :=
  let seams := (if 0 < k then [k - 1] else []) ++ (if k < 23 then [k] else [])
  let bad := if s.scrim.corrLines = 0 then s.scrim.corr
    else seams.foldl (fun l j => smPut l j { smGet CorrWin.init s.scrim.corr j with bad := true }) s.scrim.corr
  let s1 := { s with scrim := { s.scrim with corr := bad, dirty := true } }
  match old, new with
  | some a, some b =>
    let geo := segX a != segX b || segRowPx a != segRowPx b
    let zero := (if 0 < k && (geo || segOvlL a != segOvlL b) then [k - 1] else []) ++
      (if k < 23 && (geo || segOvlR a != segOvlR b) then [k] else [])
    s1.each zero (fun t j => t.setI R.CLU_SEAMj_CORR 0 (j / 4) (j % 4))
  | _, _ => s1

end Sys2Proof.Machine
end

