-- ==== Sys2Proof/Machine/Plumb.lean ====
section
/-! DEFINITION. Plumb and Lap (R157 to R177): edges in output lines, sheets and skew, wander, and double feed. -/
namespace Sys2Proof.Machine
open Sys2Proof

def capAt : Option Int → Int → Int := fun o d => o.getD d

/-- Row position of the Plumb row of a segment at a capture line, nm (R125). -/
def plumbPos (s : State) (e : Entry) (d : Nat) (k : Nat) (pos : LinePos) : Int :=
  let y : Int := if s.bit R.TIMING_FLOAT_YAW && pos.src = 0 then smGet 0 pos.yaw k else 0
  roundDiv (48 * (pos.p - segStagger e + y) - descOfs d * 63500) 48

/-! ## Lap (R166 to R172) -/

def LapCue.init : LapCue := { lead := none, base := [], run := [], stepConf := 0, reConf := 0, lenConf := 0, dropped := false }

def LapCue.conf (c : LapCue) : Nat := if c.dropped then 0 else max c.stepConf (max c.reConf c.lenConf)

/-- The DOUBLE_FEED event, with what LAP_STAT holds of the declaration (R177). -/
def dfEvent (s : State) (sheet : Nat) (pos : Int) (ts : Nat) : State :=
  s.emit 0 0x04 0x03 (leBytes 4 sheet ++ leBytes 4 (s.get R.LAP_STAT_CUES + s.get R.LAP_STAT_CONF * 256) ++ leBytesI 8 pos ++
    leBytes 4 (s.get R.LAP_SLICE_MASK) ++ leBytes 4 0 ++ leBytes 8 ts)

/-- What LAP_STAT shows of a declaration, or of cues that come later (R170). -/
def lapShow (s : State) (mask conf slices : Nat) : State :=
  ((s.set R.LAP_STAT_CUES mask).set R.LAP_STAT_CONF conf).set R.LAP_SLICE_MASK slices

/-- A declaration, all but its event: status, count, interrupt, and the halt of R171 where it applies (R170). -/
def lapDeclare (s : State) (mask conf slices : Nat) : State :=
  let s1 := lapShow (((s.set R.LAP_STAT_DF 1).inc R.LAP_DF_CNT).raise pgPLUMB 4) mask conf slices
  if s.bit R.LAP_CTRL_HALT && s.mode == .capture then { s1 with plumb := { s1.plumb with halt := true } } else s1

/-- The number of the sheet that is open, or opens next (R160). -/
def sheetNo (s : State) : Nat := s.get R.PLUMB_SHEET_CNT + 1

/-- The event that waited goes out (R172). -/
def dfRelease (s : State) (sh : Sheet) : Sheet × State :=
  match sh.dfHeld with
  | none => (sh, s)
  | some (_, pos, ts) => ({ sh with dfHeld := none }, dfEvent s (sheetNo s) pos ts)

/-- Judge the open sheet's cues (R170): declare once, later only update LAP_STAT. The event of a declaration by DF_IN waits for the cues of capture line `held`, the
one in progress (R172). Lap runs in jobs alone (R40). -/
def lapJudge (s : State) (sh : Sheet) (pos : Int) (held : Option Nat := none) : Sheet × State :=
  if !(s.inJob) then (sh, s) else
  let thr := s.get R.LAP_CONF_THR
  let on := sh.cues.filter (fun c => !c.2.dropped)
  let mask := b2n (on.any (fun c => decide (thr ≤ c.2.stepConf))) + 2 * b2n (on.any (fun c => decide (thr ≤ c.2.reConf))) +
    4 * b2n (on.any (fun c => decide (thr ≤ c.2.lenConf))) + 8 * b2n sh.df
  let conf := on.foldl (fun m c => max m c.2.conf) 0
  let slices := sumN ((on.filter (fun c => decide (thr ≤ c.2.conf))).map (fun c => 2 ^ c.1))
  let s1 := sh.cues.foldl (fun (t : State) c =>
    (t.set R.LAP_SLCk_CONF c.2.conf 0 c.1).set R.LAP_SLCk_CUES
      (if c.2.dropped then 0 else b2n (c.2.stepConf != 0) + 2 * b2n (c.2.reConf != 0) + 4 * b2n (c.2.lenConf != 0)) 0 c.1) s
  if mask = 0 then (sh, s1)
  else if sh.declared then (sh, lapShow s1 mask conf slices)
  else
    let s2 := lapDeclare s1 mask conf slices
    match held with
    | some l => ({ sh with declared := true, dfHeld := some (l, pos, s.ts) }, s2)
    | none => ({ sh with declared := true }, dfEvent s2 (sheetNo s) pos s.ts)

/-- Lap's cues run (R40, R166). -/
def lapRuns (s : State) : Bool := s.inJob && s.bit R.LAP_CTRL_EN && s.get R.PLUMB_CTRL_MODE = 1

/-- One counting line of a slice's step cue (R166); `s` is what the line was sampled with, `sum` over `w` pixels. -/
def lapStep (s : State) (c : LapCue) (p : Int) (sum w : Nat) : LapCue :=
  match c.lead with
  | none => c
  | some l =>
    let n := s.get R.LAP_RUN
    if (s.get R.LAP_DIST : Int) * 63500 < 3 * (p - l) then { c with run := [] }
    else if c.base.length < n then { c with base := c.base ++ [(sum : Int)] }
    else
      let r0 := c.base.length
      let v0 := sumI c.base
      let step := s.get R.LAP_STEP
      if (sum : Int) * r0 - v0 < step * r0 * w then { c with run := [] }
      else
        let run := c.run ++ [(sum : Int)]
        if run.length < n then { c with run := run }
        else
          let d := sumI run * r0 - v0 * run.length
          let conf := min 255 (128 * d.toNat / (step * r0 * w * run.length))
          { c with run := [], stepConf := max c.stepConf conf }

/-! ## Sheets (R160 to R163) -/

/-- A column's line: entering or leaving media, with the interpolated place (R160); `s` is what the line was sampled with. -/
def colStep (s : State) (c : SheetCol) (p : Int) (m : Nat) : SheetCol × Option Int :=
  let hi := s.get R.PLUMB_THR_HI
  let lo := s.get R.PLUMB_THR_LO
  let pol := s.get R.PLUMB_CTRL_POLARITY
  let enters := if pol = 0 then decide (hi ≤ m) else decide (m ≤ hi)
  let leaves := if pol = 0 then decide (m ≤ lo) else decide (lo ≤ m)
  let place (thr : Nat) : Int :=
    match c.at_ with
    | none => p
    | some q => if m = c.m then p else q + roundDiv ((p - q) * (((thr : Int) - c.m) * (if c.m < m then 1 else -1))) ((m - c.m) + (c.m - m))
  let c1 := { c with m := m, at_ := some p }
  if !c.on && enters then ({ c1 with on := true, lead := some (c.lead.getD (place hi)) }, some (place hi))
  else if c.on && leaves then ({ c1 with on := false, trail := some (place lo) }, none)
  else (c1, none)

def SheetCol.init : SheetCol := { lead := none, trail := none, on := false, m := 0, at_ := none }

/-- Output position of column i of segment k under the geometry in force, nm. -/
def colX (s : State) (k i : Nat) (e : Entry) : Int :=
  roundDiv (outPos (geoOf s k) ((segRowPx e * (2 * i + 1) / 8 : Nat) : Int)) 3000000000

/-- SHEET_CLOSE: length cue, fit, SHEET record, SKEW event (R162, R163, R168); `c` is what the line that closes it was sampled with. -/
def sheetClose (c s0 : State) (sh0 : Sheet) (p : Int) : State :=
  let s := s0
  let tol := c.get R.LAP_LEN_TOL
  let nm := c.get R.LAP_SHEET_NM
  let mine (k : Nat) : List (Int × Int) := (sh0.cols.filter (fun c => c.1 / 4 = k)).filterMap (fun c =>
    match c.2.lead, c.2.trail with | some a, some b => some (a, b) | _, _ => none)
  let cues := sh0.cues.map (fun c =>
    let l := mine c.1
    let ex := sumI (l.map (fun x => x.2 - x.1)) - (l.length * (nm + tol) : Nat)
    if lapRuns s && s.bit R.LAP_CTRL_LEN_EN && nm != 0 && decide (0 < ex) then
      (c.1, { c.2 with run := [], lenConf := min 255 (128 * ex.toNat / (l.length * tol)) })
    else (c.1, { c.2 with run := [] }))
  let j0 := lapJudge s { sh0 with cues := cues } p
  let j := dfRelease j0.2 j0.1
  let sh := j.1
  let s := j.2
  let num := sheetNo s
  -- the columns of segments that have contributed all through the sheet (R172)
  let out := (sh.cues.filter (fun c => c.2.dropped)).map (·.1)
  let cols := (sh.cols.filter (fun c => !(out.contains (c.1 / 4)))).filterMap (fun c => match contribEntry s (c.1 / 4) with
    | none => none
    | some e => if (segRow? e (s.get R.PLUMB_CTRL_ROW)).isSome then some (c.1, c.2, colX s (c.1 / 4) (c.1 % 4) e) else none)
  let led := cols.filterMap (fun c => c.2.1.lead.map (fun y => (c.1, c.2.2, y)))
  let segs := (List.range 24).filter (fun k => led.any (fun c => c.1 / 4 = k))
  let trails := cols.filterMap (fun c => c.2.1.trail)
  let lens := cols.filterMap (fun c => match c.2.1.lead, c.2.1.trail with | some a, some b => some (b - a) | _, _ => none)
  let mean (l : List Int) : Int := if l = [] then 0 else roundDiv (sumI l) l.length
  let n : Int := led.length
  let sx := sumI (led.map (fun c => c.2.1))
  let sy := sumI (led.map (fun c => c.2.2))
  let sxx := sumI (led.map (fun c => c.2.1 * c.2.1))
  let sxy := sumI (led.map (fun c => c.2.1 * c.2.2))
  let den := n * sxx - sx * sx
  let nn := n * sxy - sx * sy
  let valid := decide (3 ≤ segs.length) && decide (0 < den)
  let skew := roundDiv (nn * 10000000) den.toNat
  let x2 : Int := s.get R.SCRIM_OUT_PIXELS * 63500   -- 6 × W_out × q / 2 = W_out × 63,500
  let fit := roundDiv (6 * sy * den + nn * (n * x2 - 6 * sx)) (6 * n * den).toNat
  let sq := sumN (led.map (fun c =>
    let r := (c.2.2 * n * den - sy * den - nn * (n * c.2.1 - sx)).natAbs
    r * r))
  let nd := (n * den).toNat
  let rms := isqrt (sq / (led.length * (nd * nd)))
  let d := s.draw
  let e1 := Config.unstated 5 d.1
  let e2 := Config.unstated 6 d.1
  let s1 := if valid then s else (d.2).set R.PLUMB_STAT_SKEW_UNDER 1
  let payload := leBytes 4 num ++ leBytes 4 (led.length + segs.length * 256 + b2n valid * 65536 + b2n sh.lead2 * 131072) ++
    leBytesI 8 (if valid then fit else e1) ++ leBytesI 8 (mean trails) ++ leBytesI 4 (mean lens) ++
    leBytesI 4 (if valid then skew else e2) ++ leBytesI 4 (if valid then (rms : Int) else e1) ++ leBytes 1 sh.src ++ leBytes 11 0
  let s2 := (s1.emit 1 0x04 0x11 payload).raise pgPLUMB 0
  let s3 := (s2.set R.PLUMB_SHEET_CNT num).set R.PLUMB_STAT_SHEET_OPEN 0
  let s4 := if valid then s3.setI R.PLUMB_LAST_SKEW skew else s3
  let lim := s.get R.PLUMB_SKEW_LIMIT
  let s5 := if valid && lim != 0 && decide (10 * lim < skew.natAbs) then
      (s4.emit 0 0x04 0x01 (leBytes 4 num ++ leBytesI 4 skew ++ leBytesI 8 fit ++ leBytes 4 lim ++ leBytes 4 segs.length ++
        leBytes 8 s.ts)).raise pgPLUMB 1
    else s4
  { s5 with plumb := { s5.plumb with
      sheet := none
      ended := some (mean trails, if valid then fit else e1, sh.declared)
      colPrev := sh.cols.map (fun c => (c.1, { c.2 with lead := none, trail := none })) } }

/-- The smallest of a list. -/
def leastI : List Int → Option Int
  | [] => none
  | x :: l => some (l.foldl min x)

def Sheet.init : Sheet :=
  { cols := [], cues := [], clearFrom := none, lead2 := false, src := 0, declared := false, df := false, dfHeld := none }

/-- Sheet columns of one line: every contributing segment with the Plumb row, as the line was sampled (R33, R160, R172). -/
def sheetLine (s : State) (cl : CapLine) (pos : LinePos) : State :=
  let c := s.withContent cl.cont
  let role := c.get R.PLUMB_CTRL_ROW
  let old : List (Nat × SheetCol) := match s.plumb.sheet with | some sh => sh.cols | none => s.plumb.colPrev
  let segs := (contribPairs c).filterMap (fun x => (segRow? x.2 role).map (fun d => (x.1, plumbPos s x.2 d x.1 pos, smFind cl.plumb x.1, x.2)))
  let steps := segs.flatMap (fun g => [0, 1, 2, 3].map (fun i =>
    let key := 4 * g.1 + i
    let col := smGet SheetCol.init old key
    match g.2.2.1.bind (fun d => (d.cols.getD i none)) with
    | none => (key, (col, none))
    | some m => (key, colStep c col g.2.1 m)))
  let cols := steps.map (fun x => (x.1, x.2.1))
  let anyOn := cols.any (fun c => c.2.on)
  if s.plumb.sheet.isNone && !anyOn then { s with plumb := { s.plumb with colPrev := cols } }
  else
    -- a new sheet starts with fresh cues (R172)
    let sh := s.plumb.sheet.getD Sheet.init
    let s := if s.plumb.sheet.isSome then s
      else
        let t := if s.inJob then segs.foldl (fun (t : State) g => (t.set R.LAP_SLCk_CONF 0 0 g.1).set R.LAP_SLCk_CUES 0 0 g.1) s else s
        t.set R.PLUMB_STAT_SHEET_OPEN 1
    -- re-entries: a second leading edge of a column, within LAP_DIST of its first (R161, R167)
    let re := steps.filterMap (fun x => match x.2.2, (smGet SheetCol.init old x.1).lead with
      | some y, some l => if 3 * (y - l) ≤ (c.get R.LAP_DIST : Int) * 63500 then some (x.1 / 4) else none
      | _, _ => none)
    let cue0 := segs.map (fun g => (g.1, smGet LapCue.init sh.cues g.1))
    let gone := (sh.cues.filter (fun c => !(segs.any (fun g => g.1 = c.1)))).map (fun c => (c.1, { c.2 with dropped := true }))
    let cues := cue0.map (fun q =>
      let k := q.1
      let lead := q.2.lead <|> leastI ((cols.filter (fun x => x.1 / 4 = k)).filterMap (fun x => x.2.lead))
      let c1 := { q.2 with lead := lead }
      if !(lapRuns s) then (k, c1)
      else
        let c2 := { c1 with reConf := min 255 (c1.reConf + 64 * (re.filter (fun r => r = k)).length) }
        match s.bit R.LAP_CTRL_STEP_EN, (smFind cl.plumb k).bind (·.win), segs.find? (fun g => g.1 = k) with
        | true, some sum, some g =>
          let n := segRowPx g.2.2.2
          (k, lapStep c c2 g.2.1 sum (min 1024 (n - (n / 2 - 512))))
        | _, _, _ => (k, c2))
    let clear := if anyOn then none else some (sh.clearFrom.getD pos.p)
    let sh1 := { sh with
      cols := cols, cues := sortBy (·.1) (cues ++ gone), clearFrom := clear, lead2 := sh.lead2 || re != [], src := max sh.src pos.src }
    let j0 := lapJudge s sh1 pos.p
    let j := if j0.1.dfHeld.any (fun x => !(lineBefore cl.line x.1)) then dfRelease j0.2 j0.1 else j0
    let s1 := { j.2 with plumb := { j.2.plumb with sheet := some j.1 } }
    match clear with
    | none => s1
    | some y => if (c.get R.PLUMB_GAP_MIN : Int) * 63500 ≤ 3 * (pos.p - y) then sheetClose c s1 j.1 pos.p else s1

/-- Sheet mode runs in a job, and in CALIBRATE for COLOUR alone (R421). -/
def sheetsRun (s : State) : Bool := s.mode != .calibrate || s.cal.run.any (fun r => r.stages.head? == some .chart)

/-- A capture line whose position is known enters Plumb and Lap (R158, R160, R166). -/
def plumbLine (s : State) (cl : CapLine) (pos : LinePos) : State :=
  let c := s.withContent cl.cont
  let role := c.get R.PLUMB_CTRL_ROW
  let u := binUnits s
  let put (l : List (Nat × List (Nat × PlumbData))) (x : Nat × Entry) : List (Nat × List (Nat × PlumbData)) :=
    let k := x.1
    let e := x.2
    match segRow? e role, smFind cl.plumb k with
    | some d, some pd =>
      let y : Int := if s.bit R.TIMING_FLOAT_YAW && pos.src = 0 then smGet 0 pos.yaw k else 0
      let x := gridU (pos.p - segStagger e + y) - 16 * descOfs d
      if x < 0 then l else smPut l k (smPut (smGet [] l k) (x / u).toNat pd)
    | _, _ => l
  let s1 := { s with plumb := { s.plumb with edges := (contribPairs c).foldl put s.plumb.edges, lastP := pos.p } }
  if s.get R.PLUMB_CTRL_MODE = 1 && sheetsRun s then sheetLine s1 cl pos else s1

/-! ## DF_IN (R169, R170) -/

/-- DF_IN qualifies at a level (R169). -/
def dfQualify (s : State) (level : Bool) : State :=
  let s1 := { s with plumb := { s.plumb with dfQual := level } }
  let asserted := if s.bit R.LAP_CTRL_DFIN_POL then !level else level
  if !(s.bit R.LAP_CTRL_DFIN_EN) || !asserted || !(s.inJob) then s1
  else match s1.plumb.sheet with
    | none => dfEvent (lapDeclare s1 8 0 0) 0 s1.plumb.lastP s.ts
    | some sh =>
      let j := lapJudge s1 { sh with df := true } s1.plumb.lastP (some (s.get R.TIMING_LINE_CNT))
      { j.2 with plumb := { j.2.plumb with sheet := some j.1 } }

/-! ## Output lines (R158, R159, R164) -/

/-- The edges a segment has for bin `n`: those of its last capture line in bin n, or of the last bin before (R158). -/
def binEdges (l : List (Nat × PlumbData)) (n : Nat) : Option PlumbData :=
  ((l.filter (fun x => decide (x.1 ≤ n))).getLast?).map (·.2)

/-- 1/16 px of LOC_PIX p16 / 16 under a geometry. -/
def edgeX (g : Int × Int) (p16 : Nat) : Int :=
  roundDiv (16 * 3 * g.1 * 1000000000 + (p16 : Int) * 63500 * (1000000000 + g.2)) pxUnits

/-- The edges of output line `n`: pairs in 1/16 px and flags (R158). -/
def plumbEdges (s : State) (n : Nat) : List (Nat × Nat) × Nat × State :=
  let role := s.get R.PLUMB_CTRL_ROW
  let w16 : Int := 16 * s.get R.SCRIM_OUT_PIXELS
  let segs := (contribs s).filterMap (fun k => match (s.slice k).entry with
    | none => none
    | some e => if (segRow? e role).isSome then some (k, e, geoOf s k, binEdges (smGet [] s.plumb.edges k) n) else none)
  let src (g : Nat × Entry × (Int × Int) × Option PlumbData) : SrcRow :=
    { k := g.1, geo := g.2.2.1, len := segRowPx g.2.1, has := true, px := [], fl := [], role := role }
  let edges := segs.flatMap (fun g => match g.2.2.2 with
    | none => []
    | some d =>
      let left := segs.find? (fun h => h.1 + 1 = g.1)
      let right := segs.find? (fun h => h.1 = g.1 + 1)
      let keep (x : Int) : Bool :=
        let i := (x / 16).toNat
        (match left with | some h => decide (128 ≤ seamWeight (seamZone s h.1 (src h) (src g)) i) | none => true) &&
        (match right with | some h => decide (seamWeight (seamZone s g.1 (src g) (src h)) i < 128) | none => true)
      (if left.isNone && d.startOn then [(edgeX g.2.2.1 0, true)] else []) ++
      ((d.edges.map (fun x => (edgeX g.2.2.1 x.1, x.2))).filter (fun x => keep x.1)) ++
      (if right.isNone && d.endOn then [(edgeX g.2.2.1 (16 * segRowPx g.2.1), false)] else []))
  let clamped := edges.map (fun x => ((clampI 0 w16 x.1).toNat, x.2))
  let sorted := sortBy (·.1) clamped
  let runs := (sorted.foldl (edgePush (16 * s.get R.PLUMB_MIN_RUN)) []).reverse
  -- alternate: left edge, right edge
  let pairs := runs.foldl (fun (a : List (Nat × Nat) × Option Nat) x =>
    match a.2, x.2 with
    | none, true => (a.1, some x.1)
    | some l, false => (a.1 ++ [(l, x.1)], none)
    | o, _ => (a.1, o)) ([], none)
  let all : List (Nat × Nat) := match pairs.2 with | some l => pairs.1 ++ [(l, w16.toNat)] | none => pairs.1
  let openL := all.any (fun p => p.1 = 0)
  let openR := all.any (fun p => p.2 = w16.toNat)
  let ovf := decide (8 < all.length)
  let s1 := if ovf then (s.set R.PLUMB_STAT_EDGE_OVF 1).raise pgPLUMB 3 else s
  (all.take 8, b2n openL + 2 * b2n openR + 4 * b2n ovf, s1)

/-- WANDER_RECORD at the end of a run (R164). -/
def wanderEnd (s : State) (n : Nat) : State :=
  let p := s.plumb
  let d := s.draw
  let mean (sum cnt corner : Nat) : Int :=
    if cnt = 0 then Config.unstated corner d.1 else roundDiv ((sum : Int) * 63500) (48 * cnt)
  let l := mean p.wLeft p.wNL 7
  let r := mean p.wRight p.wNR 8
  let c2 := l + r
  let ref := p.wRef.getD c2
  let diff := roundDiv (c2 - ref) 2
  let sparse := decide (2 * p.wBoth < p.wLines)
  let lim := s.get R.PLUMB_WANDER_LIMIT
  let s1 := d.2.emit 1 0x04 0x12 (leBytes 8 n ++ leBytesI 8 l ++ leBytesI 8 r ++ leBytes 4 p.wBoth ++ leBytesI 4 diff ++ leBytes 4 (b2n sparse))
  let s2 := { s1 with plumb := { s1.plumb with
    wLines := 0, wNL := 0, wNR := 0, wBoth := 0, wLeft := 0, wRight := 0, wRef := some ref } }
  if lim != 0 && !sparse && decide (1000 * lim < diff.natAbs) then
    (s2.emit 0 0x04 0x02 (leBytes 4 0 ++ leBytesI 4 diff ++ leBytes 8 n ++ leBytes 4 lim ++ leBytes 4 p.wBoth ++ leBytes 8 s.ts)).raise
      pgPLUMB 2
  else s2

/-- Plumb on an output line: EDGE record and wander (R158, R159, R164). -/
def plumbOutput (s : State) (n : Nat) : State :=
  let r := plumbEdges s n
  let ps := r.1
  let s1 := { r.2.2 with plumb := { r.2.2.plumb with
    edges := s.plumb.edges.map (fun x => (x.1, x.2.filter (fun y =>
      decide (n ≤ y.1) || ((x.2.filter (fun z => decide (z.1 ≤ n))).getLast?).any (fun z => z.1 = y.1)))) } }
  let s2 := if s.bit R.PLUMB_CTRL_LINE_REPORT && n % s.get R.PLUMB_LINE_EVERY = 0 then
      s1.emit 1 0x04 0x10 (leBytes 8 n ++ leBytes 1 ps.length ++ leBytes 1 r.2.1 ++ leBytes 6 0 ++
        ps.flatMap (fun p => leBytes 4 p.1 ++ leBytes 4 p.2)) (some n)
    else s1
  if s.get R.PLUMB_CTRL_MODE = 2 then
    let left := match ps.head? with | some p => if bitOf r.2.1 0 then none else some p.1 | none => none
    let right := match ps.getLast? with | some p => if bitOf r.2.1 1 then none else some p.2 | none => none
    let p := s2.plumb
    let s3 := { s2 with plumb := { p with
      wLines := p.wLines + 1
      wNL := p.wNL + b2n left.isSome
      wNR := p.wNR + b2n right.isSome
      wBoth := p.wBoth + b2n (left.isSome && right.isSome)
      wLeft := p.wLeft + left.getD 0
      wRight := p.wRight + right.getD 0 } }
    if s.get R.PLUMB_WANDER_LINES ≤ s3.plumb.wLines then wanderEnd s3 n else s3
  else s2

/-- A job ends: an event that still waits for its line goes out (R172). -/
def plumbJobEnd (s : State) : State :=
  match s.plumb.sheet with
  | none => s
  | some sh => let r := dfRelease s sh; { r.2 with plumb := { r.2.plumb with sheet := some r.1 } }

/-- A job begins: sheets are numbered from 1, wander starts afresh (R160, R164). -/
def plumbJobStart (s : State) : State :=
  let s1 := (s.set R.PLUMB_SHEET_CNT 0).set R.PLUMB_STAT_SHEET_OPEN 0
  { s1 with plumb := { s1.plumb with
    sheet := none, colPrev := [], edges := [], wLines := 0, wNL := 0, wNR := 0, wBoth := 0, wLeft := 0, wRight := 0, wRef := none,
    lastP := 0, halt := false } }

end Sys2Proof.Machine
end

