-- ==== Sys2Proof/Machine/Trk.lean ====
section
/-! DEFINITION. The tracker (R178 to R204): hops, confidence, the bar fit, fallback, priming and self-priming, scale refinement,
baseline runs, TRACK and PASS records. -/
namespace Sys2Proof.Machine
open Sys2Proof

def State.trkSeg (s : State) (k : Nat) : TrkSeg := smGet TrkSeg.init s.trk.segs k

def State.modTrkSeg (s : State) (k : Nat) (f : TrkSeg → TrkSeg) : State :=
  { s with trk := { s.trk with segs := smMod TrkSeg.init s.trk.segs k f } }

/-! ## Which segments are used (R178), history validity (R192) -/

/-- One line is 63,500 / 3 nm; positions are compared in 1/768 nm, in which a line is 16,256,000 (R15, R178). -/
def lineU : Int := 16256000

/-- Baseline in force, 1/768 nm: TRK_BASE_k, Q24.8, or the nominal one (R178). -/
def baseU (s : State) (k d16 : Nat) : Nat :=
  let b := s.get R.TRK_BASE_k 0 k
  if b = 0 then d16 * 1016000 else 3 * b

/-- Windows and rows of a contributing segment that has them, and the rows' distance in 1/16 line. -/
def trkRows (s : State) (k : Nat) : Option (Entry × Nat × Nat) :=
  match contribEntry s k with
  | none => none
  | some e => match segRow? e 3, segRow? e 4 with
    | some a, some b => if segWinCount e = 0 then none else some (e, descOfs a, descOfs b)
    | _, _ => none

def inBaseRange (a b : Nat) : Bool := decide (a + 256 ≤ b) && decide (b ≤ a + 768)

/-- What the tracker takes of a segment that has windows and both rows within range; none where it cannot use the segment (R178). -/
def trkGeometry (s : State) (k : Nat) : Option TrkSig :=
  match trkRows s k with
  | none => none
  | some (e, a, b) =>
    if inBaseRange a b then
      some { wins := (List.range (segWinCount e)).map (segWin e), a := a, b := b, reg := s.get R.TRK_BASE_k 0 k, base := baseU s k (b - a) }
    else none

/-- What a change of invalidates a segment's history; none where the tracker does not use the segment (R178, R192, R198). -/
def trkSig (s : State) (k : Nat) : Option TrkSig := if s.bit R.AFE_SUP_SHUTDOWN k then none else trkGeometry s k

def trkUsed (s : State) : List Nat := (List.range 24).filter (fun k => (s.trkSeg k).sig.isSome)

/-- Whether the tracker used the segment when the line was sampled, with the windows and offsets of now (R33, R178). The windows of a segment shut down
since the last boundary stay in use, and the line's invalid samples make them FLAG (R93, R198). -/
def lineUses (s : State) (cl : CapLine) (k : Nat) : Bool :=
  match (s.trkSeg k).sig, trkGeometry (s.withContent cl.cont) k with
  | some g, some h => g.wins == h.wins && g.a == h.a && g.b == h.b
  | _, _ => false

/-- The history of a segment is invalidated (R192, R205). -/
def trkInvalidate (s : State) (k : Nat) : State :=
  let g := s.trkSeg k
  let s1 := (s.modTrkSeg k (fun x => { x with ents := [], valid := false, prime := none, lone := false })).set R.TRK_SEGk_STAT_HIST_VALID 0 0 k
  if s.inJob && (g.ents != [] || g.prime.isSome) then s1.raise pgTRK 3 else s1

def trkInvalidateAll (s : State) : State := s.each (s.trk.segs.map (·.1)) trkInvalidate

/-- At a boundary: segments whose windows, offsets, baseline or contributing state have changed lose their history, and the
scale stretch starts again (R190, R192, R198). -/
def trkBoundary (s : State) : State :=
  if !(Variant.hasTrk s.variant) then s
  else
    let s1 := s.each (List.range (Variant.slices s.variant)) (fun t k =>
      let sig := trkSig t k
      let bad := match trkRows t k with | some (_, a, b) => !(inBaseRange a b) | none => false
      let u := t.setB R.TRK_SEGk_STAT_BASE_RANGE bad 0 k
      if (u.trkSeg k).sig = sig ∧ (u.trkSeg k).shut = false then u
      else (trkInvalidate u k).modTrkSeg k (fun x => { x with sig := sig, shut := false }))
    { s1 with trk := { s1.trk with stretch := none } }

/-- Position source of the fallback: TRK_CTRL_FB_SRC, or MOT_CTRL_POS_SRC where the tracker is absent (R188, R194). -/
def fbSel (s : State) : Nat := if Variant.hasTrk s.variant then s.get R.TRK_CTRL_FB_SRC else s.get R.MOT_CTRL_POS_SRC

/-- Its nominal scale, Q16.16 nm per count (R190, R194). -/
def fbNominal (s : State) : Nat := if fbSel s = 2 then s.get R.MOT_FEED_SCALE else s.get R.MOT_ENCe_SCALE 0 (fbSel s)

def fbCode (s : State) : Nat := if fbSel s = 2 then 2 else 1

/-! ## Boundaries (R190, R195, R198) -/

/-- IDLE entry: position, yaw and history are frozen; FLUSH and SCALE_RESET act (R195, R198). `service`: the job ended in
SERVICE entry (R192). -/
def trkIdle (s : State) : State :=
  if !(Variant.hasTrk s.variant) then s
  else
    let s1 := s.set R.TRK_STAT_HELD 1
    let s2 := if s1.bit R.TRK_CTRL_FLUSH then trkInvalidateAll s1 else s1
    let s3 := if s2.bit R.TRK_CTRL_SCALE_RESET then s2.set R.TRK_FB_SCALE (fbNominal s2) else s2
    let s4 := (s3.set R.TRK_CTRL_FLUSH 0).set R.TRK_CTRL_SCALE_RESET 0
    { s4 with trk := { s4.trk with stretch := none, alone := false, bars := false } }

/-- A job or a run ends in SERVICE entry: all history is invalidated (R192). -/
def trkService (s : State) : State :=
  if !(Variant.hasTrk s.variant) then s
  else
    let s1 := trkInvalidateAll s
    { s1 with trk := { s1.trk with stretch := none, alone := false, bars := false } }

def trkCounters : List Row :=
  [R.TRK_FB_LINES, R.TRK_FB_EPISODES, R.TRK_SCALE_REJ, R.TRK_REJ_FLAG, R.TRK_REJ_EDGE, R.TRK_REJ_AMBIG, R.TRK_REJ_LOWCONF,
   R.TRK_REJ_OUTLIER]

/-- IDLE-to-job transition: positions are rebased to 0, the scale starts from nominal, the counters clear (R190, R192, R195,
R205). -/
def trkJobStart (s : State) : State :=
  let t := s.trk
  let s1 := match t.lastRun with
    | some l => if 60000000000 < s.now - l then trkInvalidateAll s else s
    | none => s
  let segs := s1.trk.segs.map (fun g => (g.1, { g.2 with
    prime := none, alone := TrkAlone.init
    ents := g.2.ents.map (fun (e : TrkEntry) => { e with p := e.p - t.p }) }))
  let s2 := { s1 with trk := { s1.trk with
    segs := segs, p := 0, fallback := false, reacq := 0, aPos := 0, aTheta := t.theta, aLat := t.lat, aCnt := none, cFirst := none,
    hist := [], stretch := none, episode := none, spOk := true, chain := none, lastSrc := none, pass := TrkPass.init 1 } }
  if !(Variant.hasTrk s.variant) then s2
  else
    let s3 := s2.each trkCounters (fun u r => u.set r 0)
    ((((s3.set R.TRK_STAT_HELD 0).set R.TRK_STAT_FALLBACK 0).set R.TRK_FB_SCALE (fbNominal s3)).set R.TRK_POS_LO 0).set R.TRK_POS_HI 0

/-- A PASS boundary closes a pass (R204). -/
def trkPass (s : State) : State :=
  if !(Variant.hasTrk s.variant) then s
  else
    let p := s.trk.pass
    let f := p.first.getD (s.trk.p, s.trk.lat, s.trk.theta)
    let l := if p.first.isSome then p.last else f
    let s1 := { s with trk := { s.trk with pass := TrkPass.init (p.num + 1) } }
    if s.bit R.TRK_CTRL_PASS_REPORT then
      s1.emit 1 0x05 0x11 (leBytes 4 p.num ++ leBytes 1 p.worst ++ leBytes 1 p.conf ++ leBytes 2 0 ++ leBytesI 8 f.1 ++ leBytesI 8 l.1 ++
        leBytesI 4 p.creep ++ leBytesI 4 p.adv ++ leBytes 4 p.vmax ++ leBytesI 4 (l.2.1 - f.2.1) ++
        leBytesI 4 (roundDiv (l.2.2 - f.2.2) 1000000000) ++ leBytes 20 0)
    else s1

/-! ## Correlation (R180 to R182; log 14) -/

/-- n² times the variance of pixels. -/
def varN (a : List Nat) : Nat := a.length * sumN (a.map (fun x => x * x)) - sumN a * sumN a

/-- Normalised cross-correlation in 2⁻³⁰; none where one side is flat. -/
def ncc (a b : List Nat) : Option Int :=
  let va := varN a
  let vb := varN b
  if va = 0 ∨ vb = 0 then none
  else
    let n : Int := (a.length * sumN ((a.zip b).map (fun x => x.1 * x.2)) : Nat) - (sumN a * sumN b : Nat)
    let m : Int := isqrt (n.natAbs * n.natAbs * 2 ^ 60 / (va * vb))
    some (if n < 0 then -m else m)

/-- Confidence of a window with peak `rho` (R182). -/
def winConf (s : State) (probe : List Nat) (rho : Int) : Nat :=
  let tex := s.get R.TRK_TEX_MIN
  let sd := isqrt (varN probe * 2 ^ 32) / probe.length
  (255 * rho.toNat * min sd (tex * 65536)) / (2 ^ 46 * tex)

/-- Three points of a parabola: place of its top from the middle one, as numerator and denominator; none where they lie level. -/
def parabola (a b c : Int) : Option (Int × Nat) :=
  let d := 2 * (a - 2 * b + c)
  if d = 0 then none else if d < 0 then some (c - a, (-d).toNat) else some (a - c, d.toNat)

/-- NIRA pixels under the probe when the media has moved `sh` px (R180). -/
def shifted (px : List Nat) (sh : Int) : List Nat := (px.drop (4 - sh).toNat).take (px.length - 8)

/-- Correlations of the probe with each usable entry at each shift: entry's place among those searched, its number, shift, value. -/
def corrGrid (probe : List Nat) (flat : Int) (es : List (Nat × List Nat)) : List (Nat × Nat × Int × Int) :=
  (es.zip (List.range es.length)).flatMap (fun e => (List.range 9).map (fun (j : Nat) =>
    let sh : Int := (j : Int) - 4
    (e.2, e.1.1, sh, (ncc probe (shifted e.1.2 sh)).getD flat)))

def gridAt (g : List (Nat × Nat × Int × Int)) (i : Nat) (sh : Int) : Int :=
  match g.find? (fun x => x.1 = i && x.2.2.1 = sh) with | some x => x.2.2.2 | none => 0

def gridPeak : List (Nat × Nat × Int × Int) → Option (Nat × Nat × Int × Int)
  | [] => none
  | x :: l => some (l.foldl (fun b y => if b.2.2.2 < y.2.2.2 then y else b) x)

/-- A window's result: cause of rejection (0 none, 1 FLAG, 2 EDGE, 3 AMBIG, 4 LOWCONF), confidence, position and lateral position in
nm, segment, place across, peak (R180 to R182). -/
structure WinRes where
  cause : Nat
  c : Nat
  p : Int
  l : Int
  k : Nat
  x : Int
  rho : Int
deriving DecidableEq, Repr

def winRejected (k cause c : Nat) : WinRes := { cause := cause, c := c, p := 0, l := 0, k := k, x := 0, rho := 0 }

/-- Pixels of window `w` in a row, and whether one of pixels first + m to last − m lies in an INVALID or SAT block. -/
def winPixels (r : Option RowData) (w : Nat × Nat) (m : Nat) : List Nat × Bool :=
  match r with
  | none => ([], true)
  | some d =>
    let bl := (List.range ((w.1 + w.2 - 1 - m) / 256 + 1)).filter (fun b => decide ((w.1 + m) / 256 ≤ b))
    ((d.px.drop w.1).take w.2, bl.any (fun b => (d.flags.getD b 1) &&& (flINVALID + flSAT) != 0))

def capRow (cl : CapLine) (k role : Nat) : Option RowData := (smGet [] cl.slices k).find? (fun r => r.role = role)

/-- Place of a window across the width, nm (R184). -/
def winX (s : State) (k : Nat) (w : Nat × Nat) : Int := roundDiv (outPos (geoOf s k) ((w.1 + w.2 / 2 : Nat) : Int)) 3000000000

/-- Interpolation between an entry and its neighbour on the side of δ (R180 step 6): `f` of each, |δ| as a quotient. -/
def interp (a b : Int) (num den : Nat) : Int := a * den + (b - a) * num

/-- Index of the nearest usable entry: the one whose position lies nearest `t`, 1/768 nm (R180 step 2). -/
def nearestEntry (t : Int) : List (Nat × TrkEntry) → Option (Nat × TrkEntry)
  | [] => none
  | x :: l => some (l.foldl (fun b y => if (768 * y.2.p - t).natAbs < (768 * b.2.p - t).natAbs then y else b) x)

/-- Search and result of one window against entries `es` (number, entry) that are usable for it (R180, R181). `lone`: against
the anchor alone (R193). -/
def winMatch (s : State) (k : Nat) (cl : CapLine) (wi : Nat) (w : Nat × Nat) (base : Int) (es : List (Nat × TrkEntry)) (lone : Bool)
    (free : Int) : WinRes :=
  let nb := winPixels (capRow cl k 4) w 4
  let probe := (nb.1.drop 4).take (w.2 - 8)
  if nb.2 || decide (k ∈ cl.lost) || (!lone && decide (es.length < 3)) || es = [] then winRejected k 1 0
  else
    let grid := corrGrid probe (clampI (-(2 ^ 30)) (2 ^ 30) free) (es.map (fun e => (e.1, e.2.px.getD wi [])))
    match gridPeak grid with
    | none => winRejected k 1 0
    | some (i, h, sh, rho) =>
      let c := winConf s probe rho
      if (!lone && (i = 0 || i + 1 = es.length)) || sh = -4 || sh = 4 then winRejected k 2 c
      else if grid.any (fun y => decide (3 ≤ (y.2.1 - h) + (h - y.2.1)) && decide (9 * rho ≤ 10 * y.2.2.2)) then winRejected k 3 c
      else if c < s.get R.TRK_WIN_MIN then winRejected k 4 c
      else
        let ent (j : Nat) : TrkEntry := ((es[j]?).map (·.2)).getD { p := 0, lat := 0, px := [], bad := [] }
        let d := if lone then some (0, 1) else parabola (gridAt grid (i - 1) sh) rho (gridAt grid (i + 1) sh)
        let d1 := d.getD (free % 2, 2)
        let nbr := if lone then ent i else if d1.1 < 0 then ent (i - 1) else ent (i + 1)
        let a := d1.1.natAbs
        let ds := (parabola (gridAt grid i (sh - 1)) rho (gridAt grid i (sh + 1))).getD (free % 2, 2)
        let p := roundDiv (768 * interp (ent i).p nbr.p a d1.2 + base * d1.2) (768 * d1.2)
        let l := roundDiv (3 * ds.2 * interp (ent i).lat nbr.lat a d1.2 + (sh * ds.2 + ds.1) * 63500 * d1.2) (3 * ds.2 * d1.2)
        { cause := 0, c := c, p := p, l := l, k := k, x := winX (s.withContent cl.cont) k w, rho := rho }

/-! ## One segment of one line -/

/-- The line's NIRA windows as an entry (R179). -/
def trkEntryOf (cl : CapLine) (k : Nat) (wins : List (Nat × Nat)) (p lat : Int) : TrkEntry :=
  let r := capRow cl k 3
  { p := p, lat := lat, px := wins.map (fun w => (winPixels r w 0).1), bad := wins.map (fun w => (winPixels r w 0).2 || decide (k ∈ cl.lost)) }

/-- Entries usable for window `w`, with their numbers. -/
def usable (es : List TrkEntry) (w : Nat) : List (Nat × TrkEntry) :=
  (((List.range es.length).zip es).filter (fun e => !(e.2.bad.getD w true)))

/-- Window results of one segment whose history is valid (R180, R181, R196, R197). `pred`: P̃_k in nm; `fast`: above 4 lines per
capture line. -/
def segWindows (s : State) (k : Nat) (cl : CapLine) (pred : Int) (fast : Bool) (free : Int) : List WinRes :=
  let g := s.trkSeg k
  match g.sig with
  | none => []
  | some ⟨wins, _, _, _, b⟩ =>
    let t := 768 * pred - b
    let beyond := match g.ents.head? with
      | none => true
      | some o => !g.lone && decide (t < 768 * o.p + 8 * lineU)
    ((List.range wins.length).zip wins).map (fun w =>
      if fast || beyond then winRejected k 1 0
      else
        let us := usable g.ents w.1
        match nearestEntry t us with
        | none => winRejected k 1 0
        | some e =>
          winMatch s k cl w.1 w.2 b (us.filter (fun x => decide (e.1 ≤ x.1 + 8) && decide (x.1 ≤ e.1 + 8))) false free)

/-! ## The fit (R184, R185) -/

/-- 10¹⁸: units of the yaw. -/
def atto : Nat := 1000000000000000000

/-- x_ref in nm (R184, R153). -/
def xRef (s : State) : Int :=
  let x := s.get R.TRK_XREF_PX
  if x = 0 then roundDiv (s.get R.SCRIM_OUT_PIXELS * 63500 : Nat) 6 else roundDiv (x * 63500 : Nat) 3

/-- Smallest residual at which the weights reach half their sum. -/
def medianGo (half : Nat) : Nat → List (Int × Nat) → Int
  | _, [] => 0
  | acc, (r, c) :: l => if half ≤ 2 * (acc + c) then r else medianGo half (acc + c) l

def insI (x : Int × Nat) : List (Int × Nat) → List (Int × Nat)
  | [] => [x]
  | y :: l => if x.1 ≤ y.1 then x :: y :: l else y :: insI x l

def weightedMedian (l : List (Int × Nat)) : Int := medianGo (sumN (l.map (·.2))) 0 (l.foldr insI [])

/-- What the fit gives: P₀, yaw, L, RMS, windows kept, yaw held. -/
structure TrkFit where
  p : Int
  theta : Int
  lat : Int
  rms : Nat
  keep : List WinRes
  held : Bool
deriving DecidableEq, Repr

def trkFit (s : State) (good : List WinRes) (theta : Int) : Option TrkFit :=
  let xr := xRef s
  let res (w : WinRes) : Int := w.p * atto - theta * (w.x - xr)
  let med := weightedMedian (good.map (fun w => (res w, w.c)))
  let keep := good.filter (fun w => decide ((res w - med).natAbs ≤ s.get R.TRK_OUTLIER_NM * atto))
  match keep with
  | [] => none
  | k0 :: _ =>
    let sum (f : WinRes → Int) : Int := sumI (keep.map (fun w => (w.c : Int) * f w))
    let u (w : WinRes) : Int := w.x - xr
    let wt := sumN (keep.map (·.c))
    let xs := keep.map u
    let held := decide (maxI xs - minI xs < 500000000) || keep.all (fun w => w.k = k0.k)
    let sx := sum u
    let sp := sum (·.p)
    let den := (wt : Int) * sum (fun w => u w * u w) - sx * sx
    let num := (wt : Int) * sum (fun w => u w * w.p) - sx * sp
    let th := if held then theta else roundDiv (num * atto) den.toNat
    let p := if held then roundDiv (sp * atto - theta * sx) (wt * atto) else roundDiv (sp * den - num * sx) (wt * den.toNat)
    let sq := sumN (keep.map (fun w => let r := (((w.p - p) * atto - th * u w) * 256 / (atto : Int)).natAbs; w.c * r * r)) / wt
    some { p := p, theta := th, lat := roundDiv (sum (·.l)) wt, rms := min 65535 ((isqrt sq + 128) / 256), keep := keep, held := held }

/-- Y(k) (R185). -/
def yawTerms (s : State) (theta : Int) : List (Nat × Int) :=
  let xr := xRef s
  (contribs s).map (fun k =>
    (k, roundDiv (theta * (segCentre6 ((s.slice k).entry.getD []) - 6 * xr)) (6 * atto)))

/-! ## Self-priming (R193) -/

/-- Every second one of a list: the second, the fourth and so on. -/
def everySecond {α : Type} : List α → List α
  | _ :: b :: l => b :: everySecond l
  | _ => []

/-- Newest first, keep entries at least 21,167 nm apart. -/
def spaced : Option Int → List TrkEntry → List TrkEntry
  | _, [] => []
  | last, e :: l =>
    match last with
    | some p => if p - e.p < 21167 then spaced last l else e :: spaced (some e.p) l
    | none => e :: spaced (some e.p) l

/-- The window results of the causes 1 to 4 are counted (R181). -/
def countRejects (s : State) (ws : List WinRes) : State :=
  let n (x : Nat) : Nat := (ws.filter (fun w => w.cause = x)).length
  (((s.incBy R.TRK_REJ_FLAG (n 1)).incBy R.TRK_REJ_EDGE (n 2)).incBy R.TRK_REJ_AMBIG (n 3)).incBy R.TRK_REJ_LOWCONF (n 4)

/-- One line of a segment that primes from the sensor alone: its new state, and, where it is primed, its position on this line and its
speed in µm/s. The anchor stands at the held position (R193; log 124). -/
def selfPrime (s0 : State) (k : Nat) (cl : CapLine) (t : Int) (lat : Int) (free : Int) : State × Option (Int × Int) :=
  let g := s0.trkSeg k
  match g.sig with
  | none => (s0, none)
  | some ⟨wins, _, _, _, b⟩ =>
      let q : TrkPrime := g.prime.getD
        { anchor := trkEntryOf cl k wins s0.trk.p lat, t0 := t, times := [], spacing := 1, since := 0, last := [] }
      let rs := ((List.range wins.length).zip wins).map (fun w =>
        winMatch s0 k cl w.1 w.2 b (if q.anchor.bad.getD w.1 true then [] else [(0, q.anchor)]) true free)
      let s := countRejects s0 rs
      let good := rs.filter (fun r => r.cause = 0)
      let last := ((t, good.length, sumI (good.map (·.rho))) :: q.last).take 3
      let e := trkEntryOf cl k wins 0 lat
      let add := g.prime.isSome && decide (q.spacing ≤ q.since + 1)
      let times := if add then q.times ++ [(t, e)] else q.times
      let full := decide (63 ≤ times.length)
      let q1 : TrkPrime := { q with
        times := if full then everySecond times else times
        spacing := if full then 2 * q.spacing else q.spacing
        since := if add || g.prime.isNone then 0 else q.since + 1
        last := last }
      let more (a b : Nat × Int) : Bool := decide (b.2 * a.1 < a.2 * b.1)
      match last with
      | [c2, c1, c0] =>
        if [c2, c1, c0].all (fun x => decide (8 ≤ x.2.1)) && more c1.2 c0.2 && !(more c2.2 c1.2) then
          let n0 : Int := c0.2.1
          let n1 : Int := c1.2.1
          let n2 : Int := c2.2.1
          let d := (parabola (c0.2.2 * n1 * n2) (c1.2.2 * n0 * n2) (c2.2.2 * n0 * n1)).getD (0, 1)
          let side := if d.1 < 0 then c1.1 - c0.1 else c2.1 - c1.1
          -- the time of n*, times d.2
          let span := (c1.1 - q.t0) * d.2 + side * d.1
          let place (x : Int × TrkEntry) : TrkEntry :=
            { x.2 with p := q.anchor.p + roundDiv ((b : Int) * (x.1 - q.t0) * d.2) (768 * span.toNat) }
          let kept := spaced none ((q1.times.map place).reverse ++ [q.anchor])
          let pos := q.anchor.p + roundDiv ((b : Int) * (t - q.t0) * d.2) (768 * span.toNat)
          let v := roundDiv ((b : Int) * d.2 * 1000000) (768 * span.toNat)
          (s.modTrkSeg k (fun x => { x with prime := none, valid := true, lone := true, ents := (kept.take 64).reverse }), some (pos, v))
        else (s.modTrkSeg k (fun x => { x with prime := some q1 }), none)
      | _ => (s.modTrkSeg k (fun x => { x with prime := some q1 }), none)

/-! ## A baseline run (R200) -/

/-- Mean of the line's NIRA window pixels, where no window is flagged. -/
def niraMean (cl : CapLine) (k : Nat) (wins : List (Nat × Nat)) : Option Nat :=
  let e := trkEntryOf cl k wins 0 0
  let px := (e.px.zip e.bad).flatMap (fun x => if x.2 then [] else x.1)
  if px = [] then none else some (sumN px / px.length)

/-- A leading edge that the segment's NIRA row finds on this line, at position `p` (R160, R200). -/
def niraEdge (s : State) (k : Nat) (cl : CapLine) (wins : List (Nat × Nat)) (a : TrkAlone) (p : Int) : TrkAlone :=
  match niraMean cl k wins with
  | none => a
  | some m =>
    let c0 : SheetCol := match a.col with
      | some (m0, p0, on) => { SheetCol.init with m := m0, at_ := some p0, on := on }
      | none => { SheetCol.init with m := m }
    let r := colStep s c0 p m
    { a with col := some (m, p, r.1.on), edges := a.edges ++ r.2.toList }

/-- In a reticle pass without TRK_BASE a segment finds the bars at its position in the bar's (R425). -/
def barLine (s : State) (k : Nat) (cl : CapLine) (p : Int) : State :=
  match (s.trkSeg k).sig with
  | none => s
  | some ⟨wins, _, _, _, _⟩ => s.modTrkSeg k (fun x => { x with alone := niraEdge s k cl wins x.alone p })

/-- The segment's own chained position on this line, and its leading edges. -/
def aloneLine (s : State) (k : Nat) (cl : CapLine) (good : List WinRes) (cnt : Int) : State :=
  let g := s.trkSeg k
  match g.sig with
  | none => s
  | some ⟨wins, _, _, _, _⟩ =>
    let c := min 255 (sumN (good.map (·.c)) / 32)
    let a := g.alone
    let fit := if g.valid && decide (64 ≤ c) then trkFit s good 0 else none
    let wt (f : TrkFit) : Nat := sumN (f.keep.map (·.c))
    let p := match fit with
      | some f => roundDiv (sumI (f.keep.map (fun w => (w.c : Int) * w.p))) (wt f)
      | none => a.a.1 + roundDiv ((cnt - a.a.2) * s.get R.TRK_FB_SCALE) 65536
    let a1 : TrkAlone := { a with
      p := p
      a := if fit.isSome then (p, cnt) else a.a
      failed := a.failed || fit.isNone }
    s.modTrkSeg k (fun x => { x with alone := niraEdge s k cl wins a1 p })

/-! ## One line -/

/-- Nanoseconds of a timestamp (R393). -/
def tsNs (t : Nat) : Int := ((t / 2 ^ 30 % 2 ^ 33 * 1000000000 + t % 2 ^ 30 : Nat) : Int)

/-- Velocity over N lines, µm/s; on the first line of a job there is no travel yet (R186; log 20). -/
def trkVel (n : Nat) (hist : List (Int × Int)) (corner : Int) : Int :=
  match hist with
  | [] => 0
  | (p, t) :: l =>
    if l = [] then 0
    else
      let o := (l[(min n l.length) - 1]?).getD (p, t)
      let dt := t - o.2
      if dt = 0 then corner else if 0 < dt then roundDiv ((p - o.1) * 1000000) dt.toNat else roundDiv ((o.1 - p) * 1000000) (-dt).toNat

/-- A history entry joins where the line has gone 21,167 nm beyond the newest; a segment whose entries span B_k + 8 lines is valid
(R179, R192, R196). -/
def trkAppend (s : State) (k : Nat) (cl : CapLine) (p lat : Int) : State :=
  let g := s.trkSeg k
  match g.sig, g.prime with
  | some ⟨wins, _, _, _, b⟩, none =>
    let add := match g.ents.getLast? with | none => true | some e => decide (e.p + 21167 ≤ p)
    let es := if add then g.ents ++ [trkEntryOf cl k wins p lat] else g.ents
    let es := es.drop (es.length - 64)
    let valid := g.valid || (match es.head? with | some o => decide ((b : Int) + 8 * lineU ≤ 768 * (p - o.p)) | none => false)
    let lone := g.lone && (match es.head? with | some o => decide (768 * (p - o.p) < (b : Int) + 8 * lineU) | none => false)
    (s.modTrkSeg k (fun x => { x with ents := es, valid := valid, lone := lone })).setB R.TRK_SEGk_STAT_HIST_VALID valid 0 k
  | _, _ => s

/-- Scale refinement (R190). -/
def trkScale (s : State) (tracked : Bool) (c : Nat) (p cnt : Int) : State :=
  let put (s : State) (x : Option (Int × Int)) : State := { s with trk := { s.trk with stretch := x } }
  if !tracked || decide (c < 160) then put s none
  else match s.trk.stretch with
    | none => put s (some (p, cnt))
    | some (p0, c0) =>
      if 3 * (p - p0).natAbs < s.get R.TRK_SCALE_LINES * 63500 then s
      else
        let s1 := put s (some (p, cnt))
        let dc := cnt - c0
        if dc.natAbs < 64 then s1
        else
          let dp := if dc < 0 then p0 - p else p - p0
          let n := dc.natAbs
          let nom : Int := fbNominal s
          let k : Int := s.get R.TRK_FB_SCALE
          if 50 * (dp * 65536 - nom * n).natAbs ≤ nom * n then
            s1.setI R.TRK_FB_SCALE (roundDiv (3 * k * n + dp * 65536) (4 * n))
          else s1.inc R.TRK_SCALE_REJ

/-- A line that takes the fallback source (R188, R191). -/
def trkFbLine (s : State) (line src c : Nat) (p : Int) : State :=
  let s1 := if s.trk.episode.isNone then (s.inc R.TRK_FB_EPISODES).raise pgTRK 0 else s
  let e0 := s.trk.episode.getD { line := line, src := src, conf := c, p := p, lines := 0 }
  let e := { e0 with lines := e0.lines + 1 }
  let s2 := State.inc { s1 with trk := { s1.trk with episode := some e, fallback := true } } R.TRK_FB_LINES
  if e.lines = s.get R.TRK_EVT_MIN_LINES then
    s2.emit 0 0x05 0x01 (leBytes 4 e.line ++ leBytes 1 e.src ++ leBytes 1 e.conf ++ leBytes 2 0 ++ leBytesI 8 e.p ++ leBytes 16 0)
  else s2

/-- TRK_REACQUIRE: the state returns to TRACKED (R188, R189, R191). -/
def trkRestored (s : State) (c : Nat) (p step : Int) : State :=
  let s1 := (s.setI R.TRK_REACQ_STEP step).raise pgTRK 1
  let s2 := { s1 with trk := { s1.trk with episode := none, fallback := false, chain := none } }
  match s.trk.episode with
  | none => s2
  | some e =>
    if s.get R.TRK_EVT_MIN_LINES ≤ e.lines then
      s2.emit 0 0x05 0x02 (leBytes 4 e.line ++ leBytes 1 e.src ++ leBytes 1 c ++ leBytes 2 0 ++ leBytesI 8 p ++ leBytes 4 e.lines ++
        leBytesI 4 step ++ leBytes 8 0)
    else s2

/-- What every line adds to its pass (R204). -/
def passAdd (s : State) (src c : Nat) (v p lat theta : Int) : State :=
  let a := s.trk.pass
  let d := p - s.trk.p
  let creep := decide (v.natAbs ≤ s.get R.TRK_CREEP_VMAX)
  { s with trk := { s.trk with pass := { a with
      worst := max a.worst src
      conf := min a.conf c
      first := some (a.first.getD (p, lat, theta))
      last := (p, lat, theta)
      creep := if creep then a.creep + d else a.creep
      adv := if creep then a.adv else a.adv + d
      vmax := if creep then max a.vmax v.natAbs else a.vmax } } }

/-- The SQ7212's position of a line (R194). -/
def absentLine (s : State) (t cnt : Int) : State × LinePos :=
  let c0 := s.trk.cFirst.getD cnt
  let p := roundDiv ((cnt - c0) * fbNominal s) 65536
  let hist := ((p, t) :: s.trk.hist).take 256
  ({ s with trk := { s.trk with p := p, cFirst := some c0, hist := hist, lastRun := some s.now } },
   { p := p, src := fbCode s, conf := 0, yaw := [] })

/-- Self-priming of every used segment on this line, or its end; with it the segments it primed, their positions on this line and their
speeds (R193). -/
def trkPrimes (s : State) (cl : CapLine) (t cnt lat : Int) (free : Int) : State × List (Nat × (Int × Int)) :=
  let stop (s : State) : State :=
    { s with trk := { s.trk with segs := s.trk.segs.map (fun g => (g.1, { g.2 with prime := none })) } }
  let used := trkUsed s
  let moved := decide (cnt ≠ s.trk.cFirst.getD cnt) && s.get R.TRK_FB_SCALE != 0
  if used.any (fun k => (s.trkSeg k).valid) then (s, [])
  else if !s.trk.spOk || moved then (stop { s with trk := { s.trk with spOk := s.trk.spOk && !moved } }, [])
  else
    let r := (used.filter (lineUses s cl)).foldl (fun (a : State × List (Nat × (Int × Int))) k =>
      let q := selfPrime a.1 k cl t lat free
      (q.1, match q.2 with | none => a.2 | some x => a.2 ++ [(k, x)])) (s, [])
    if r.2 = [] then r else (stop r.1, r.2)

/-- One capture line in the tracker (R180 to R193): position, yaw, confidence and source. -/
def trackedLine (s : State) (cl : CapLine) (stamp : Nat) (cnt : Int) : State × LinePos :=
  let t := tsNs stamp
  let d := s.draw
  let free := Config.unstated 9 d.1
  let en := s.bit R.TRK_CTRL_EN
  let k0 := d.2
  let a := { k0 with trk := { k0.trk with
    aCnt := some (k0.trk.aCnt.getD cnt), cFirst := some (k0.trk.cFirst.getD cnt), lastRun := if en then some s.now else k0.trk.lastRun } }
  let fb := a.trk.aPos + roundDiv ((cnt - a.trk.aCnt.getD cnt) * a.get R.TRK_FB_SCALE) 65536
  let pr := if en then trkPrimes a cl t cnt a.trk.aLat free else (a, [])
  let s1 := match pr.2 with
    | x :: _ => { pr.1 with trk := { pr.1.trk with chain := some (x.2.1 - smGet 0 pr.1.trk.y x.1, x.2.2) } }
    | [] => pr.1
  -- R180 step 1: v × T with v in µm/s and T in clocks of kHz; a segment primed on this line stands where that says (R193)
  let khz := s1.get R.TIMING_PCLK_KHZ
  let v0 := match s1.trk.chain with | some c => c.2 | none => if s1.trk.hist = [] then 0 else s1.getI R.TRK_VEL
  let step := roundDiv (v0 * s1.get R.TIMING_LINE_PERIOD) khz
  let p0 := match s1.trk.chain with | some c => c.1 | none => s1.trk.p
  let fast := decide (4 * 63500 < 3 * step.natAbs)
  -- a segment primed on this line hops from its next line on (R193 step 5)
  let used := (trkUsed s1).filter (fun k => en && (s1.trkSeg k).valid && (smFind pr.2 k).isNone && lineUses s1 cl k)
  let wins := used.flatMap (fun k =>
    let pk := if s1.trk.alone then (s1.trkSeg k).alone.p else p0 + smGet 0 s1.trk.y k
    segWindows s1 k cl (pk + step) fast free)
  let good := wins.filter (fun w => w.cause = 0)
  let c := min 255 (sumN (good.map (·.c)) / 32)
  let fit := trkFit s1 good s1.trk.theta
  let keep := match fit with | some f => f.keep | none => []
  let s2 := (countRejects s1 wins).incBy R.TRK_REJ_OUTLIER (good.length - keep.length)
  let reacq := if used = [] then 0 else if s2.trk.fallback then (if 64 ≤ c then s2.trk.reacq + 1 else 0) else 0
  let tracked := used != [] && decide (64 ≤ c) && (!s2.trk.fallback || decide (s2.get R.TRK_REACQ_LINES ≤ reacq))
  let src := if tracked then 0 else fbCode s2
  let (p, theta, lat) := match tracked, fit with
    | true, some f => (f.p, f.theta, f.lat)
    | _, _ => (fb, s2.trk.aTheta, s2.trk.aLat)
  let s3 := if tracked then
      let u := if s2.trk.fallback then trkRestored s2 c p (p - fb) else s2
      { u with trk := { u.trk with reacq := 0, chain := none, aPos := p, aTheta := theta, aLat := lat, aCnt := some cnt } }
    else
      let u := trkFbLine s2 cl.line src c p
      { u with trk := { u.trk with
          reacq := reacq
          chain := u.trk.chain.map (fun x => ((match fit with | some f => f.p | none => if pr.2 = [] then x.1 + step else x.1), x.2)) } }
  let hist := ((p, t) :: s3.trk.hist).take 256
  let v := trkVel (s3.get R.TRK_VEL_LINES) hist (Config.unstated 10 d.1)
  let y := yawTerms (s3.withContent cl.cont) theta
  let s4 := trkScale s3 tracked c p cnt
  let on := (trkUsed s4).filter (lineUses s4 cl)
  let s5 := if s4.trk.alone then s4.each on (fun u k => aloneLine u k cl (good.filter (fun w => w.k = k)) cnt)
    else if s4.trk.bars then s4.each on (fun u k => barLine u k cl (p + smGet 0 y k)) else s4
  let s6 := if en then s5.each on (fun u k =>
      trkAppend u k cl (if u.trk.alone then (u.trkSeg k).alone.p else p + smGet 0 y k) lat) else s5
  let primed := (trkUsed s6).any (fun k => (s6.trkSeg k).valid)
  let s7 := if primed && !(s6.bit R.TRK_STAT_PRIMED) then s6.raise pgTRK 2 else s6
  let held := match fit with | some f => f.held | none => true
  let rms := match fit with | some f => f.rms | none => 0
  let nrad := roundDiv theta 1000000000
  let changed := match s7.trk.lastSrc with | some o => o != src | none => false
  let s8 := passAdd s7 src c v p lat theta
  let s9 := { s8 with trk := { s8.trk with p := p, theta := theta, lat := lat, y := y, hist := hist, lastSrc := some src } }
  let s10 := (((s9.set64 R.TRK_POS_LO R.TRK_POS_HI (toTwos 64 p)).setI R.TRK_VEL v).setI R.TRK_LAT lat).setI R.TRK_YAW nrad
  let s11 := (((((s10.set R.TRK_CONF c).set R.TRK_SRC src).setB R.TRK_STAT_PRIMED primed).setB R.TRK_STAT_YAW_HELD held).setB
    R.TRK_STAT_FALLBACK s10.trk.fallback).set R.TRK_GOOD_WIN keep.length
  let s12 := (s11.set R.TRK_FIT_RMS rms).each (List.range (Variant.slices s.variant)) (fun u k =>
    let mine := keep.filter (fun w => w.k = k)
    ((u.set R.TRK_SEGk_CONF (min 255 (sumN (mine.map (·.c)) / 8)) 0 k).set R.TRK_SEGk_GOOD mine.length 0 k).setI
      R.TRK_SEGk_Y (smGet 0 y k) 0 k)
  let s13 := if s12.bit R.TRK_CTRL_REPORT_EN && (cl.line % s12.get R.TRK_REPORT_EVERY = 0 || changed) then
      s12.emit 1 0x05 0x10 (leBytes 4 cl.line ++ leBytes 1 c ++ leBytes 1 (src + 4 * b2n held + 8 * b2n primed) ++ leBytes 2 keep.length ++
        leBytes 8 stamp ++ leBytesI 8 p ++ leBytesI 4 v ++ leBytesI 4 lat ++ leBytesI 4 nrad ++ leBytes 2 rms ++ leBytes 2 0 ++
        leBytesI 8 cnt ++ leBytes 4 (s12.get R.TRK_FB_SCALE) ++ leBytes 12 0)
    else s12
  (s13, { p := p, src := src, conf := c, yaw := y })

/-- The latches of capture line `n` (R62): timestamp, count of the fallback source; those of the line in progress stand in its own fields
until it ends. What was not taken is free (log 8). -/
def lineLatchOf (s : State) (n : Nat) : Nat × Int × State :=
  let cnt (x : List Int × Int) : Int := if fbSel s = 2 then x.2 else x.1.getD (fbSel s) 0
  match s.timing.lineLatch.find? (fun x => x.1 == n) with
  | some (_, t, enc, step) => (t, cnt (enc, step), s)
  | none =>
    let d := s.draw
    let now_ := n = s.get R.TIMING_LINE_CNT
    let m := if now_ then s.timing.mark else none
    let k := if now_ then s.timing.trk else none
    (m.getD ((Config.unstated 4 d.1).toNat % 2 ^ 64), (k.map cnt).getD (Config.unstated 11 d.1), if m.isSome && k.isSome then s else d.2)

/-- Position of one released capture line, its latched count and its timestamp (R187, R194). -/
def trkLine (s : State) (cl : CapLine) : State × LinePos × Int × Nat :=
  let l := lineLatchOf s cl.line
  let s1 := { l.2.2 with timing := { l.2.2.timing with lineLatch := s.timing.lineLatch.filter (fun x => lineBefore cl.line x.1) } }
  let r := if Variant.hasTrk s.variant then trackedLine s1 cl l.1 l.2.1 else absentLine s1 (tsNs l.1) l.2.1
  (r.1, r.2, l.2.1, l.1)

end Sys2Proof.Machine
end

