-- ==== Sys2Proof/Machine/Ins.lean ====
section
/-! DEFINITION. Straightedge (R206 to R235): map, characterisation and drop table, the residual, profiles and detectors, attribution,
the fold and the trim, events and crops. -/
namespace Sys2Proof.Machine
open Sys2Proof

/-- Straightedge runs: present, enabled, in INSPECT (R206). -/
def insRuns (s : State) : Bool := Variant.hasIns s.variant && s.bit R.INS_CTRL_EN && s.mode == .inspect

/-- Payload address of the table of a type in force, read in place (R32, R519). -/
def inForce (s : State) (type : Nat) : Option InPlace := s.inPlace.find? (fun t => t.type = type && !t.staged)

def insMap (s : State) : Option Nat := (inForce s 6).map (·.addr)
def insDrop (s : State) : Option Nat := (inForce s 5).map (·.addr)

/-- Little-endian fields of DRAM. -/
def memN (s : State) (a n : Nat) : Nat := leNat (memBytes s.mem a n)
def memI (s : State) (a n : Nat) : Int := ofTwos (8 * n) (memN s a n)

/-! ## Checks of the tables (R208, R210, R212, R220) -/

/-- The map at `a` with payload length `len`: first failing check as ERR_CODE and ERR_INFO (R208). -/
def mapCheck (s : State) (a len : Nat) : Option (Nat × Nat) :=
  let nx := memN s a 4
  let ny := memN s (a + 4) 4
  let gx := memN s (a + 8) 1
  let gy := memN s (a + 9) 1
  let fl := memN s (a + 10) 2
  let mc := memN s (a + 12) 2
  if len ≠ ceilDiv (32 + 16 * mc + 6 * nx * ny) 8 * 8 then some (0x402, 0)
  else if nx < 2 ∨ 71681 < nx then some (0x401, 0)
  else if ny < 2 ∨ 16777215 < ny then some (0x401, 4)
  else if gx < 4 ∨ 64 < gx then some (0x401, 8)
  else if gy < 4 ∨ 64 < gy then some (0x401, 9)
  else if 1 < fl then some (0x401, 10)
  else if 256 < mc then some (0x401, 12)
  else if memN s (a + 14) 2 ≠ 0 then some (0x401, 14)
  else if memN s (a + 28) 4 ≠ 0 then some (0x401, 28)
  else
    match (List.range mc).find? (fun i =>
        let m := memN s (a + 32 + 16 * i) 16
        decide (bits m 32 19 ≤ bits m 0 19) || decide (bits m 96 32 ≤ bits m 64 32) || decide (2 < bits m 29 3) || bits m 19 10 != 0 ||
          bits m 51 13 != 0) with
    | some i => some (0x403, 32 + 16 * i)
    | none => none

/-- The colour characterisation (R210). -/
def ccCheck (b : List (BitVec 8)) : Option (Nat × Nat) :=
  if b.length ≠ 24656 ∨ leAt b 0x12 2 ≠ 0 ∨ leAt b 0x1A 2 ≠ 0 ∨ leAt b 0x4C 4 ≠ 0 then some (0x404, 0) else none

/-- An entry of the drop table at `a`: head, plane, nozzle, weight (R220). -/
def dropEntry (s : State) (a j : Nat) : Nat × Nat × Nat × Nat :=
  let w := memN s (a + 32 + 4 * j) 4
  (bits w 27 5, bits w 24 3, bits w 12 12, bits w 0 12)

/-- The drop table at `a` (R220). -/
def dropCheck (s : State) (a len : Nat) : Option (Nat × Nat) :=
  let nr := memN s a 4
  let e := memN s (a + 4) 1
  let fl := memN s (a + 5) 1
  let pitch := memN s (a + 6) 1
  let col := bitOf fl 0
  if len ≠ 32 + 4 * nr * e then some (0x406, 0)
  else if nr < 1 ∨ 65536 < nr ∨ e < 1 ∨ 8 < e ∨ 3 < fl ∨ memN s (a + 7) 1 ≠ 0 ∨ memN s (a + 16) 16 ≠ 0 then some (0x406, 0)
  else if pitch ≠ (if col then s.get R.INS_COL_PX else s.get R.TIMING_FLOAT_PITCH) then some (0x408, 0)
  else
    match (List.range (nr * e)).find? (fun j =>
        let x := dropEntry s a j
        x.2.2.2 != 0 && (decide (s.get R.INS_NOZ_HEADS ≤ x.1) || decide (s.get R.INS_NOZ_PLANES ≤ x.2.1) ||
          decide (s.get R.INS_NOZ_COUNT ≤ x.2.2.1) ||
          (List.range (j % e)).any (fun i =>
            let y := dropEntry s a (j - j % e + i)
            y.2.2.2 != 0 && y.1 = x.1 && y.2.1 = x.2.1 && y.2.2.1 = x.2.2.1))) with
    | some j => some (0x407, j)
    | none => none

/-- Drop table in force breaks check 3 after a change of its settings (R220). -/
def dropStale (s : State) : State :=
  match insDrop s with
  | none => s
  | some a =>
    let col := bitOf (memN s (a + 5) 1) 0
    if memN s (a + 6) 1 ≠ (if col then s.get R.INS_COL_PX else s.get R.TIMING_FLOAT_PITCH) then s.set R.INS_STAT_DROP_STALE 1 else s

/-! ## Reference and residual (R209 to R213) -/

/-- M, w, P and LUT in force, identity until an image comes (R211). -/
def ccM (s : State) (j k : Nat) : Int :=
  match s.ins.cc with | some b => leAtI b (6 * j + 2 * k) 2 | none => if j = k then 4096 else 0
def ccW (s : State) (j : Nat) : Nat := match s.ins.cc with | some b => leAt b (0x14 + 2 * j) 2 | none => if j = 0 then 4096 else 0
def ccP (s : State) (c j : Nat) : Int := match s.ins.cc with | some b => leAtI b (0x1C + 6 * c + 2 * j) 2 | none => 0
def ccLut (s : State) (j e : Nat) : Nat := match s.ins.cc with | some b => leAt b (0x50 + 8192 * j + 2 * e) 2 | none => 16 * e

/-- Characterised value j of a pixel (R211). -/
def charVal (s : State) (x0 x1 x2 j : Nat) : Int :=
  let y := (clampI 0 65535 ((ccM s j 0 * x0 + ccM s j 1 * x1 + ccM s j 2 * x2 + 2048) / 4096)).toNat
  let e := y / 16
  let l0 : Int := ccLut s j e
  let l1 : Int := if e = 4095 then l0 else ccLut s j (e + 1)
  l0 + ((l1 - l0) * (y % 16 : Nat) + 8) / 16

/-- Map coordinates of a line and the shift λ, as 256 v and 3 (L − L₀) nm (R209). -/
def mapV (s : State) (m : Nat) (edge : Int) : Int :=
  roundDiv (256 * (6 * (edge - memI s (m + 16) 8) + (s.get R.TIMING_FLOAT_PITCH * 63500 : Nat))) (2 * 63500 * memN s (m + 9) 1)

def mapU (s : State) (m : Nat) (shift3 : Int) (i : Nat) : Int :=
  roundDiv (256 * (63500 * ((i : Int) - memI s (m + 24) 4) - shift3)) (63500 * memN s (m + 8) 1)

def nodeAddr (s : State) (m a b j : Nat) : Nat := m + 32 + 16 * memN s (m + 12) 2 + 6 * (b * memN s m 4 + a) + 2 * j

def mapNode (s : State) (m a b j : Nat) : Nat := memN s (nodeAddr s m a b j) 2

/-- Reference of channel j at map coordinates in 1/256; none outside the map (R209), nor where a node could not be read (R333). -/
def mapRef (s : State) (m : Nat) (u v : Int) (j : Nat) : Option Nat :=
  let nx := memN s m 4
  let ny := memN s (m + 4) 4
  let rep := bitOf (memN s (m + 10) 2) 0
  if u < 0 ∨ ((nx - 1 : Nat) : Int) * 256 < u ∨ (rep = false ∧ (v < 0 ∨ ((ny - 1 : Nat) : Int) * 256 < v)) then none
  else
    let a := (u / 256).toNat
    let fa := (u % 256).toNat
    let fb := (v % 256).toNat
    let b0 := v / 256
    let b := if rep then (b0 % ny).toNat else b0.toNat
    let b1 := if rep then ((b0 + 1) % ny).toNat else min (b + 1) (ny - 1)
    let a1 := min (a + 1) (nx - 1)
    if dramBad s 6 (nodeAddr s m a b j) 2 || dramBad s 6 (nodeAddr s m a1 b j) 2 || dramBad s 6 (nodeAddr s m a b1 j) 2 ||
      dramBad s 6 (nodeAddr s m a1 b1 j) 2 then none
    else some (((256 - fa) * (256 - fb) * mapNode s m a b j + fa * (256 - fb) * mapNode s m a1 b j + (256 - fa) * fb * mapNode s m a b1 j +
      fa * fb * mapNode s m a1 b1 j + 32768) / 65536)

/-- Kinds of the masks that hold a pixel at map coordinates (R212). -/
def masksAt (s : State) (m : Nat) (u v : Int) : List Nat :=
  let gy := memN s (m + 9) 1
  let rep := bitOf (memN s (m + 10) 2) 0
  let x := u * memN s (m + 8) 1
  let y0 := v * gy
  let y := if rep then y0 % ((memN s (m + 4) 4 * gy * 256 : Nat) : Int) else y0
  ((List.range (memN s (m + 12) 2)).filter (fun i =>
    let k := memN s (m + 32 + 16 * i) 16
    let inside (lo hi : Nat) (z : Int) : Bool := decide ((lo : Int) * 256 ≤ z) && decide (z < (hi : Int) * 256)
    inside (bits k 0 19) (bits k 32 19) x &&
      (if rep then
        let p := memN s (m + 4) 4 * gy
        if p ≤ bits k 96 32 - bits k 64 32 then true
        else
          let lo := bits k 64 32 % p
          let hi := lo + (bits k 96 32 - bits k 64 32)
          inside lo hi y || inside lo hi (y + (p * 256 : Nat))
      else inside (bits k 64 32) (bits k 96 32) y))).map (fun i => bits (memN s (m + 32 + 16 * i) 16) 29 3)

/-- A pixel of a checked line: r, Δ, serves for spots, serves for attribution. -/
structure InsPx where
  r : Int
  d : List Int
  spot : Bool
  attr : Bool
deriving DecidableEq, Repr

/-- Residual of one pixel; none where it is not eligible; and whether an EXCLUDE mask took it (R213). -/
def insPixel (s : State) (m : Nat) (v shift3 : Int) (rows : List RowData) (i : Nat) : Option InsPx × Bool :=
  let u := mapU s m shift3 i
  let bad := rows.any (fun w =>
    let f := w.flags.getD (i / 256) 1
    bitOf f 0 || bitOf f 1 || (bitOf f 6 && !(s.bit R.INS_CTRL_USE_REPAIRED)))
  let ms := masksAt s m u v
  if bad then (none, 0 ∈ ms)
  else if 0 ∈ ms then (none, true)
  else
    let x (j : Nat) : Nat := ((rows[j]?).map (fun w => w.px.getD i 0)).getD 0
    let refs := [0, 1, 2].map (fun j => (mapRef s m u v j).map (fun (t : Nat) => clampI (-32768) 32767 (charVal s (x 0) (x 1) (x 2) j - t)))
    match refs with
    | [some a, some b, some c] =>
      let r := clampI (-32768) 32767 (((ccW s 0 : Int) * a + ccW s 1 * b + ccW s 2 * c + 2048) / 4096)
      (some { r := r, d := [a, b, c], spot := !(decide (1 ∈ ms)), attr := !(decide (2 ∈ ms)) }, false)
    | _ => (none, false)

/-! ## Events (R231 to R234) -/

def posBytes (p : Option InsPos) : Nat × Nat × Int × Nat × Nat :=
  match p with
  | none => (0, 0, 0, 0, 0)
  | some q => (q.pass, q.n, q.edge, q.adv.getD 0xFFFFFFFF, q.bin.getD 0xFFFF)

/-- The 64 bytes of an event with its number and its crop's sequence number (R231). -/
def insEvtBytes (e : InsEvt) (num : Nat) (crop : Option Nat) : List (BitVec 8) :=
  let p := posBytes e.pos
  leBytes 1 e.code ++ leBytes 1 (e.flags + (if crop.isSome then 8 else 0)) ++ leBytesI 2 e.mag ++ leBytes 4 p.1 ++ leBytes 8 p.2.1 ++
  leBytesI 8 p.2.2.1 ++ leBytes 4 e.lines ++ leBytes 4 e.x0 ++ leBytes 4 e.x1 ++ leBytes 4 p.2.2.2.1 ++ leBytes 2 p.2.2.2.2 ++
  leBytes 1 e.src ++ leBytes 1 e.conf ++ leBytes 4 e.a ++ leBytes 4 e.b ++ leBytes 4 e.c ++ leBytes 4 (crop.getD 0) ++ leBytes 4 num

/-- An event leaves for Hod (R231, R237). -/
def insSend (s : State) (e : InsEvt) (crop : Option Nat) : State :=
  let n := (s.ins.evtNum + 1) % 2 ^ 32
  let s1 := { s with ins := { s.ins with evtNum := n } }
  let s2 := (s1.emit 0 0x06 0x01 (insEvtBytes e n crop) (e.pos.map (·.n))).raise pgINS 0
  if e.code = 5 then s2.raise pgINS 1 else if e.code = 6 then s2.raise pgINS 2 else s2

/-- Does the event carry a crop (R233)? -/
def cropWanted (s : State) (code : Nat) : Bool := decide (code ≤ 3) && bitOf (s.get R.INS_CROP_EN) (code - 1)

/-- First line and pixel of the crop of an event, and its size (R233). -/
def cropPlace (s : State) (e : InsEvt) : Nat × Nat × Nat :=
  let z := 16 * s.get R.INS_CROP_SIZE
  let w := s.get R.SCRIM_OUT_PIXELS
  let n := (posBytes e.pos).2.1
  (n + e.lines / 2 - z / 2, min ((e.x0 + e.x1) / 2 - z / 2) (w - z), z)

/-- An event has been formed: its code's enable and rate, then its crop (R233, R234). -/
def insEvent (s : State) (e : InsEvt) : State :=
  if !(bitOf (s.get R.INS_CTRL_EVT_EN) (e.code - 1)) then s
  else
    let lim := s.get R.INS_EVT_RATE
    let c := smGet (0, 0) s.ins.rate e.code
    let put (x : Nat × Nat) : State := { s with ins := { s.ins with rate := smPut s.ins.rate e.code x } }
    if lim != 0 && decide (lim ≤ c.1) then (put (c.1, c.2 + 1)).inc R.INS_EVT_SUPPRESSED
    else
      let s1 := put (c.1 + 1, c.2)
      if cropWanted s e.code then
        let p := cropPlace s e
        let w : InsWait := { e := e, y := p.1, x := p.2.1, size := p.2.2, st := 0, seq := 0 }
        { s1 with ins := { s1.ins with waits := s1.ins.waits ++ [w] } }
      else insSend s1 e none

/-- The end of the second in which events were limited: one SUPPRESSED event reports the counts (R234). -/
def insRateEnd (s : State) : State :=
  let n (c : Nat) : Nat := min 65535 (smGet (0, 0) s.ins.rate c).2
  let s1 := { s with ins := { s.ins with rate := [] } }
  if [1, 2, 3, 4, 5].all (fun c => n c = 0) then s1
  else insSend s1 { code := 6, flags := 0, mag := 0, pos := none, lines := 0, x0 := 0, x1 := 0, src := 0, conf := 0,
                    a := n 1 + n 2 * 65536, b := n 3 + n 4 * 65536, c := n 5 } none

/-- INS_EVENT_SEND: the oldest event whose crop has committed or is not to come goes out (R233). -/
def insEventSend (s : State) : State :=
  match s.ins.waits.find? (fun w => decide (2 ≤ w.st)) with
  | none => s
  | some w => insSend { s with ins := { s.ins with waits := s.ins.waits.erase w } } w.e (if w.st = 3 then some w.seq else none)

/-- The crop record that has been longest on its way has been committed as `seq`, or dropped (R233). -/
def insCropDone (s : State) (seq : Option Nat) : State :=
  let way := s.ins.waits.filter (fun w => w.st = 1)
  match way.find? (fun w => way.all (fun x => decide (w.seq ≤ x.seq))) with
  | none => s
  | some w =>
    let w1 : InsWait := match seq with | some q => { w with st := 3, seq := q } | none => { w with st := 2 }
    { s with ins := { s.ins with waits := s.ins.waits.map (fun x => if x = w then w1 else x) } }

/-! ## Crops (R233; log 21 gives the history's and the record's layout) -/

def cropBase (s : State) : Nat := s.get64 R.INS_CROP_BASE_LO R.INS_CROP_BASE_HI

/-- Address of pixel x of row j of output line n in the crop history. -/
def cropAddr (s : State) (n j x : Nat) : Nat := cropBase s + (n % 256) * 1720320 + j * 573440 + 2 * x

/-- Keep a line in the crop history while any crop is enabled. -/
def cropKeep (s : State) (o : OutLine) : State :=
  if s.get R.INS_CROP_EN % 8 = 0 then { s with ins := { s.ins with cropLines := [] } }
  else
    let m := [0, 1, 2].foldl (fun m j => match o.rows.find? (fun w => w.role = j) with
      | some w => memPutBytes m (cropAddr s o.n j 0) (w.px.flatMap (leBytes 2))
      | none => memPutBytes m (cropAddr s o.n j 0) (leBytes (2 * o.width) 0)) s.mem
    [0, 1, 2].foldl (fun (t : State) j => dramFresh t (cropAddr s o.n j 0) (2 * o.width))
      { s with mem := m, ins := { s.ins with cropLines := (o.n :: s.ins.cropLines).take 256 } }

/-- Events whose crop lines are all there, or can no longer be. `last`: no further line comes. -/
def cropForm (s : State) (n : Nat) (last : Bool) : State :=
  s.each (s.ins.waits.filter (fun w => w.st = 0)) (fun t w =>
    let ls := (List.range w.size).map (w.y + ·)
    let place := 1 + ((t.ins.waits.filter (fun x => x.st = 1)).map (·.seq)).foldl max 0
    let put (st : Nat) (t : State) : State :=
      { t with ins := { t.ins with waits := t.ins.waits.map (fun (x : InsWait) =>
          if x = w then { x with st := st, seq := if st = 1 then place else 0 } else x) } }
    if ls.all (fun y => decide (y ∈ t.ins.cropLines)) && ls.any (fun y => [0, 1, 2].any (fun j => dramBad t 6 (cropAddr t y j w.x) (2 * w.size))) then
      put 2 t
    else if ls.all (fun y => decide (y ∈ t.ins.cropLines)) then
      (put 1 t).emit 3 0x06 0x30 ([0, 1, 2].flatMap (fun j => ls.flatMap (fun y => memBytes t.mem (cropAddr t y j w.x) (2 * w.size)))) (some n)
    else if last || ls.any (fun y => decide (y ≤ n) && !(decide (y ∈ t.ins.cropLines))) then put 2 t
    else t)

/-! ## Bands, streaks, spots, drift (R214 to R218) -/

def zoneLo (w z : Nat) : Nat := z * w / 64

/-- First eligible pixel of a stretch that begins at `x`, and the one after the last. -/
def eligSpan (px : List (Option InsPx × Bool)) (x : Nat) : Option (Nat × Nat) :=
  let ix := (px.zip (List.range px.length)).filterMap (fun p => p.1.1.map (fun _ => x + p.2))
  match ix.head?, ix.getLast? with | some a, some b => some (a, b + 1) | _, _ => none

def spanJoin : Option (Nat × Nat) → Option (Nat × Nat) → Option (Nat × Nat)
  | some x, some y => some (min x.1 y.1, max x.2 y.2)
  | some x, none => some x
  | none, y => y

/-- The row profile of a line (R214). -/
def insZones (px : List (Option InsPx × Bool)) (w : Nat) : List InsZone :=
  (List.range 64).map (fun z =>
    let lo := zoneLo w z
    let q := (px.drop lo).take (zoneLo w (z + 1) - lo)
    let el := q.filterMap (fun x => x.1.map (·.r))
    let sp := (eligSpan q lo).getD (lo, lo)
    { p := if el = [] ∨ 2 * el.length < q.length then none else some (roundDiv (sumI el) el.length)
      a := lo
      b := zoneLo w (z + 1)
      lo := sp.1
      hi := sp.2
      mask := q.any (·.2) })

def evFlags (neg long fb clip bnd : Bool) : Nat := b2n neg + 2 * b2n long + 4 * b2n fb + 16 * b2n clip + 32 * b2n bnd

/-- Index of a LINE-mode table for a line, or of a COLUMN-mode one for a column (R221). -/
def lineIndex (s : State) (a : Nat) (edge : Int) : Nat :=
  let f := s.get R.TIMING_FLOAT_PITCH * 63500
  ((6 * (edge - memI s (a + 8) 8) + f) / (2 * f : Nat) % (memN s a 4 : Nat)).toNat

def colIndex (s : State) (a k : Nat) : Nat := (((k : Int) - memI s (a + 8) 8) % (memN s a 4 : Nat)).toNat

/-- Used entries of an index: word and fields. -/
def indexEntries (s : State) (a i : Nat) : List (Nat × Nat × Nat × Nat) :=
  let e := memN s (a + 4) 1
  ((List.range e).map (fun j => dropEntry s a (i * e + j))).filter (fun x => x.2.2.2 != 0)

def dropWord (x : Nat × Nat × Nat × Nat) : Nat := x.1 * 2 ^ 27 + x.2.1 * 2 ^ 24 + x.2.2.1 * 4096 + x.2.2.2

/-- Words A and B of BAND and STREAK: the largest and second-largest weights of an index (R231). -/
def topTwo (es : List (Nat × Nat × Nat × Nat)) : Nat × Nat :=
  let l := (sortBy (fun x => 4096 - x.2.2.2) es).map dropWord
  (l.getD 0 0, l.getD 1 0)

/-- Used entries of an index, and CENTRE, where a table of that mode is in force (R221). -/
def dropOf (s : State) (column : Bool) (index : Nat → Nat) : Option (List (Nat × Nat × Nat × Nat) × Bool) :=
  match insDrop s with
  | none => none
  | some a =>
    let fl := memN s (a + 5) 1
    if bitOf fl 0 != column then none else some (indexEntries s a (index a), bitOf fl 1)

/-- A masked zone lies in the band's region, or one left invalid by masking beside it (R232). -/
def bandClipped (b : InsBand) : Bool :=
  b.masked.any (fun z => decide (b.x0 < z.1.2) && decide (z.1.1 < b.x1) || z.2 && (z.1.2 == b.x0 || z.1.1 == b.x1))

/-- BAND_EVENT: the open band ends; beside a mask only its eligible pixels count (R215, R232). -/
def bandEnd (s : State) (long bnd : Bool) : State :=
  match s.ins.band with
  | none => s
  | some b =>
    insEvent { s with ins := { s.ins with band := none } }
      { code := 1, flags := evFlags b.neg long (b.src != 0) (bandClipped b) bnd, mag := clampI (-32768) 32767 (roundDiv b.sum (65536 * b.cnt)),
        pos := some b.pos, lines := b.lines, x0 := if bandClipped b then b.e0 else b.x0, x1 := if bandClipped b then b.e1 else b.x1,
        src := b.src, conf := b.conf, a := b.ab.1, b := b.ab.2, c := b.zones }

/-- The open band ends here, or had ended as LONG: a LONG one leaves once the entries of its last line have been updated (R215, R235). -/
def bandClose (s : State) (bnd : Bool) : State :=
  match s.ins.band with
  | none => s
  | some b => let long := decide (s.get R.INS_BAND_MAXLEN ≤ b.lines)
    bandEnd s long (bnd && !long)

/-- The band decision on a line that has its H lines on both sides (R215). Its masked zones are kept for the end of the band (R232). -/
def bandDecide (s0 : State) (l : InsLine) : State :=
  let s := match s0.ins.band with | some b => if s0.get R.INS_BAND_MAXLEN ≤ b.lines then bandEnd s0 true false else s0 | none => s0
  let h := s.get R.INS_BAND_HALF
  let n := l.pos.n
  let near := s.ins.lines.filter (fun x => decide (n ≤ x.pos.n + h) && decide (x.pos.n ≤ n + h) &&
    !(decide (n ≤ x.pos.n + 1) && decide (x.pos.n ≤ n + 1)))
  -- by zone: zone, p − b in 2⁻¹⁶, positive, negative candidate
  let zs := (l.zones.zip (List.range 64)).filterMap (fun z =>
    match z.1.p with
    | none => none
    | some p =>
      let bs := near.filterMap (fun x => (x.zones[z.2]?).bind (·.p))
      if bs = [] then none
      else
        let d := p * bs.length - sumI bs
        if (s.get R.INS_BAND_THR : Int) * bs.length ≤ d.natAbs then some (z.1, decide (d < 0), d * 65536 / bs.length) else none)
  let pos := zs.filter (fun z => !z.2.1)
  let neg := zs.filter (fun z => z.2.1)
  let need := s.get R.INS_BAND_ZONES
  let pick := if need ≤ max pos.length neg.length then (if neg.length ≤ pos.length then some (false, pos) else some (true, neg)) else none
  match pick with
  | none => bandEnd s false false
  | some (sgn, cs) =>
    let s1 := match s.ins.band with | some b => if b.neg = sgn then s else bandEnd s false false | none => s
    let w := s.get R.SCRIM_OUT_PIXELS
    let lo := (cs.map (fun c => c.1.a)).foldl min w
    let hi := (cs.map (fun c => c.1.b)).foldl max 0
    let e0 := (cs.map (fun c => c.1.lo)).foldl min w
    let e1 := (cs.map (fun c => c.1.hi)).foldl max 0
    let masked := (l.zones.filter (·.mask)).map (fun z => ((z.a, z.b), z.p.isNone))
    let b0 := s1.ins.band.getD { neg := sgn, pos := l.pos, lines := 0, sum := 0, cnt := 0, x0 := lo, x1 := hi, e0 := e0, e1 := e1, src := 0,
                                  conf := 255, zones := cs.length, masked := [], ab := topTwo ((l.drop.map (·.1)).getD []) }
    let b : InsBand := { b0 with
      lines := b0.lines + 1
      sum := b0.sum + sumI (cs.map (·.2.2))
      cnt := b0.cnt + cs.length
      x0 := min b0.x0 lo
      x1 := max b0.x1 hi
      e0 := min b0.e0 e0
      e1 := max b0.e1 e1
      src := max b0.src l.src
      conf := min b0.conf l.conf
      masked := b0.masked ++ masked.filter (fun z => !(b0.masked.contains z)) }
    { s1 with ins := { s1.ins with band := some b } }

def InsCol.init : InsCol := { cnt := 0, r := 0, acnt := 0, d := [0, 0, 0], mask := false, span := none }

def addV (a b : List Int) : List Int := (a.zip b).map (fun x => x.1 + x.2)

/-- A checked line joins the column window (R216). -/
def colAdd (s : State) (l : InsLine) (px : List (Option InsPx × Bool)) : State :=
  let cp := s.get R.INS_COL_PX
  let w := s.ins.col
  let cols := (List.range (ceilDiv px.length cp)).map (fun k =>
    let q := (px.drop (k * cp)).take cp
    let c := w.cols.getD k InsCol.init
    let el := q.filterMap (·.1)
    let at_ := el.filter (·.attr)
    { cnt := c.cnt + el.length
      r := c.r + sumI (el.map (·.r))
      acnt := c.acnt + at_.length
      d := at_.foldl (fun v p => addV v p.d) c.d
      mask := c.mask || q.any (·.2)
      span := spanJoin c.span (eligSpan q (k * cp)) : InsCol })
  { s with ins := { s.ins with col := { w with
    pos := some (w.pos.getD l.pos), last := some l.pos, lines := w.lines + 1, cols := cols, f := w.f + l.f, src := max w.src l.src, conf := min w.conf l.conf } } }

/-- Median of values: the middle one, or the mean of the middle two (log 22). -/
def medianI (l : List Int) : Option Int :=
  let s := (l.foldr (fun x a => insI (x, 0) a) []).map (·.1)
  let n := s.length
  if n = 0 then none else if n % 2 = 1 then s[n / 2]? else some (roundDiv (s.getD (n / 2 - 1) 0 + s.getD (n / 2) 0) 2)

/-- p_col of each column, where valid (R216). `w`: output width. -/
def colProfile (s : State) (w : Nat) : List (Option Int) :=
  let cp := s.get R.INS_COL_PX
  let win := s.ins.col
  (win.cols.zip (List.range win.cols.length)).map (fun c =>
    let px := min cp (w - c.2 * cp) * win.lines
    if c.1.cnt = 0 ∨ 2 * c.1.cnt < px then none else some (roundDiv c.1.r c.1.cnt))

/-- Groups of neighbouring streak columns of one sign: first, last column, sign, sum of p_col − baseline. -/
def streakGroups : List (Nat × Bool × Int) → List (Nat × Nat × Bool × Int × Nat)
  | [] => []
  | (k, n, d) :: l =>
    match streakGroups l with
    | (a, b, m, t, c) :: g => if a = k + 1 ∧ m = n then (k, b, m, t + d, c + 1) :: g else (k, k, n, d, 1) :: (a, b, m, t, c) :: g
    | [] => [(k, k, n, d, 1)]

/-- SPOT detection keeps five lines (R217). -/
def spotSum (s : State) (n x : Nat) : List Int :=
  s.ins.spotLines.flatMap (fun l =>
    if n ≤ l.pos.n + 2 ∧ l.pos.n ≤ n + 2 then
      (((l.px.drop (x - 2)).take (x + 3 - (x - 2))).filterMap (fun p => p.bind (fun y => if y.2 then some y.1 else none)))
    else [])

/-- SPOT_EVENT (R217). -/
def spotEnd (s : State) (sp : InsSpot) (long bnd : Bool) : State :=
  insEvent { s with ins := { s.ins with spots := s.ins.spots.erase sp } }
    { code := 3, flags := evFlags sp.neg long (sp.src != 0) sp.clip bnd, mag := clampI (-32768) 32767 sp.peak, pos := some sp.pos,
      lines := sp.last + 1 - sp.pos.n, x0 := sp.x0, x1 := sp.x1, src := sp.src, conf := sp.conf, a := toTwos 16 sp.peak, b := 0,
      c := min sp.px (2 ^ 32 - 1) }

/-- An EXCLUDE mask took a pixel beside pixel x of line n, or the pixel itself (R232; log 124). -/
def spotClip (s : State) (n x : Nat) : Bool :=
  s.ins.spotLines.any (fun l => decide (n ≤ l.pos.n + 1) && decide (l.pos.n ≤ n + 1) && ((l.mask.drop (x - 1)).take (x + 2 - (x - 1))).any id)

/-- A spot pixel of line `l` at x with box mean m joins the spots it touches, or opens one. -/
def spotPixel (l : InsSpotLine) (s : State) (x : Nat) (m : Int) : State :=
  let neg := decide (m < 0)
  let clip := spotClip s l.pos.n x
  let n := l.pos.n
  let touch (sp : InsSpot) : Bool := sp.neg == neg && sp.rim.any (fun r => decide (n ≤ r.1 + 1) && decide (x ≤ r.2 + 1) && decide (r.2 ≤ x + 1))
  let hit := s.ins.spots.filter touch
  let rest := s.ins.spots.filter (fun sp => !(touch sp))
  match hit with
  | [] =>
    if 64 ≤ rest.length then s.inc R.INS_SPOT_OVF
    else
      let sp : InsSpot := { neg := neg, pos := l.pos, last := n, x0 := x, x1 := x + 1, px := 1, peak := m, src := l.src, conf := l.conf,
                            clip := clip, rim := [(n, x)] }
      { s with ins := { s.ins with spots := rest ++ [sp] } }
  | h :: t =>
    let j := t.foldl (fun (a b : InsSpot) =>
      { a with
        pos := if b.pos.n < a.pos.n then b.pos else a.pos
        last := max a.last b.last
        x0 := min a.x0 b.x0
        x1 := max a.x1 b.x1
        px := a.px + b.px
        peak := if a.peak.natAbs < b.peak.natAbs then b.peak else a.peak
        src := max a.src b.src
        conf := min a.conf b.conf
        clip := a.clip || b.clip
        rim := a.rim ++ b.rim }) h
    let k : InsSpot := { j with
      last := n
      x0 := min j.x0 x
      x1 := max j.x1 (x + 1)
      px := j.px + 1
      peak := if j.peak.natAbs < m.natAbs then m else j.peak
      src := max j.src l.src
      conf := min j.conf l.conf
      clip := j.clip || clip
      rim := (n, x) :: j.rim.filter (fun r => decide (n ≤ r.1 + 1)) }
    let s1 := { s with ins := { s.ins with spots := rest ++ [k] } }
    if 256 ≤ k.x1 - k.x0 ∨ 256 ≤ n + 1 - k.pos.n then spotEnd s1 k true false else s1

/-- The line two before `n` is judged, and spots that nothing has joined for 5 lines close (R217). -/
def spotLine (s : State) (n : Nat) : State :=
  let s1 := match s.ins.spotLines.find? (fun l => l.pos.n + 2 = n) with
    | none => s
    | some l =>
      s.each ((l.px.zip (List.range l.px.length)).filter (fun (x : Option (Int × Bool) × Nat) => x.1.isSome)) (fun (t : State) (x : Option (Int × Bool) × Nat) =>
        let b := spotSum s l.pos.n x.2
        if b.length < 13 then t
        else
          let m := roundDiv (sumI b) b.length
          if s.get R.INS_SPOT_THR ≤ m.natAbs then spotPixel l t x.2 m else t)
  let old : List InsSpot := s1.ins.spots.filter (fun (sp : InsSpot) => decide (sp.last + 2 + 5 ≤ n))
  s1.each old (fun t sp => spotEnd t sp false false)

/-- A checked line joins the drift window (R218). -/
def driftAdd (s : State) (l : InsLine) (px : List (Option InsPx × Bool)) (w : Nat) : State :=
  let d := s.ins.drift
  let zs := (List.range 64).map (fun z =>
    let el := ((px.drop (zoneLo w z)).take (zoneLo w (z + 1) - zoneLo w z)).filterMap (·.1)
    let o := d.zones.getD z (0, 0, 0)
    (o.1 + el.length, o.2.1 + sumI (el.map (fun p => p.d.getD 1 0)), o.2.2 + sumI (el.map (fun p => p.d.getD 2 0))))
  { s with ins := { s.ins with drift := { d with
    pos := some (d.pos.getD l.pos), last := some l.pos, lines := d.lines + 1, zones := zs
    mask := d.mask || px.any (·.2), span := spanJoin d.span (eligSpan px 0), src := max d.src l.src, conf := min d.conf l.conf } } }

/-- The drift window closes (R218). -/
def driftClose (s : State) (bnd : Bool) : State :=
  let d := s.ins.drift
  let s1 := { s with ins := { s.ins with drift := .init } }
  let n := sumN (d.zones.map (·.1))
  if n = 0 then s1
  else
    let m1 := roundDiv (sumI (d.zones.map (·.2.1))) n
    let m2 := roundDiv (sumI (d.zones.map (·.2.2))) n
    let big := if m1.natAbs < m2.natAbs then m2 else m1
    let score (z : Nat × Int × Int) : Nat :=
      if z.1 = 0 then 0 else max (roundDiv z.2.1 z.1).natAbs (roundDiv z.2.2 z.1).natAbs
    let worst := ((d.zones.zip (List.range 64)).foldl (fun (a : Nat × Nat) z => if a.2 < score z.1 then (z.2, score z.1) else a) (0, 0)).1
    let x := if d.mask then d.span.getD (0, 0) else (0, s.get R.SCRIM_OUT_PIXELS)
    if big.natAbs < s.get R.INS_DRIFT_THR then s1
    else insEvent s1 { code := 4, flags := evFlags (decide (big < 0)) false (d.src != 0) d.mask bnd, mag := clampI (-32768) 32767 big,
                       pos := d.pos, lines := d.lines, x0 := x.1, x1 := x.2, src := d.src, conf := d.conf,
                       a := toTwos 16 m1 + toTwos 16 m2 * 65536, b := 0, c := worst }

/-! ## Attribution (R221 to R226) -/

def nozBase (s : State) : Nat := s.get64 R.INS_NOZ_BASE_LO R.INS_NOZ_BASE_HI

def nozTotal (s : State) : Nat := s.get R.INS_NOZ_HEADS * s.get R.INS_NOZ_PLANES * s.get R.INS_NOZ_COUNT

/-- Address of a nozzle's accumulator (R224). -/
def nozAddr (s : State) (head plane noz : Nat) : Nat :=
  nozBase s + 32 * ((head * s.get R.INS_NOZ_PLANES + plane) * s.get R.INS_NOZ_COUNT + noz)

def verdictRow : Nat → Option Row
  | 1 => some R.INS_NOZ_WEAK | 2 => some R.INS_NOZ_MISSING | 3 => some R.INS_NOZ_DEFL | _ => none

def verdictCount (s : State) (v : Nat) (up : Bool) : State :=
  match verdictRow v with
  | none => s
  | some r => s.set r (if up then min (s.get r + 1) (Row.max r) else s.get r - 1)

/-- NOZZLE_UPDATE: one entry's update and the evaluation after it (R223 to R225). `pos`: the line of the update. -/
def nozUpdate (s : State) (e : Nat × Nat × Nat × Nat) (ds da : Int) (dd : Nat) (pos : InsPos) (src conf : Nat) : State :=
  let a := nozAddr s e.1 e.2.1 e.2.2.1
  let st := memN s (a + 0x1C) 1
  let s0 := memI s a 8 + ds
  let a0 := memI s (a + 8) 8 + da
  let d0 := memN s (a + 16) 8 + dd
  let half := decide (2 ^ s.get R.INS_NOZ_WIN_LOG2 ≤ d0)
  let sv := if half then s0 / 2 else s0
  let av := if half then a0 / 2 else a0
  let dv := if half then d0 / 2 else d0
  let upd := min (memN s (a + 24) 4 + 1) (2 ^ 32 - 1)
  let settled := decide (s.get R.INS_NOZ_MIN_D ≤ dv)
  let m := if dv = 0 then 0 else Int.tdiv (4096 * sv) dv
  let am := if dv = 0 then 0 else Int.tdiv (4096 * av) dv
  let prop := if s.get R.INS_NOZ_DEFL_THR ≤ am.natAbs then 3 else if (s.get R.INS_NOZ_MISS_THR : Int) ≤ m then 2
    else if (s.get R.INS_NOZ_WEAK_THR : Int) ≤ m then 1 else 0
  let v := st % 4
  let c := st / 16
  let eval := settled && dv != 0
  let change := eval && prop != v && decide (s.get R.INS_NOZ_CONFIRM ≤ c + 1)
  let st1 := if !eval then (if settled then st ||| 4 else st)
    else if change then prop + 4 + 8
    else v + 4 + (st / 8 % 2) * 8 + (if prop = v then 0 else 16 * (c + 1))
  let rec_ := leBytesI 8 sv ++ leBytesI 8 av ++ leBytes 8 dv ++ leBytes 4 upd ++ leBytes 1 st1
  let s1 := { s with mem := memPutBytes s.mem a rec_ }
  if change then
    insEvent (verdictCount (verdictCount s1 v false) prop true)
      { code := 5, flags := evFlags (decide (m < 0)) false (src != 0) false false, mag := clampI (-32767) 32767 m, pos := some pos, lines := 1,
        x0 := 0, x1 := s.get R.SCRIM_OUT_PIXELS, src := src, conf := conf,
        a := dropWord (e.1, e.2.1, e.2.2.1, v + 4 * prop), b := toTwos 32 m, c := toTwos 32 am }
  else s1

/-- r'_c of each unit: r_c less the mean over its neighbourhood without itself and its two neighbours (R222), exact, as numerator and denominator;
`us` gives each unit its number and r_c. -/
def highPass (us : List (Nat × List Int)) (h n c : Nat) : Option (Int × Nat) :=
  match us.find? (fun u => u.1 = n) with
  | none => none
  | some u =>
    let near := us.filter (fun x => decide (n ≤ x.1 + h) && decide (x.1 ≤ n + h) && !(decide (n ≤ x.1 + 1) && decide (x.1 ≤ n + 1)))
    let r := u.2.getD c 0
    some (if near = [] then (r, 1) else (r * near.length - sumI (near.map (fun x => x.2.getD c 0)), near.length))

/-- Update every used entry of unit `n`, whose index holds `es`; the factor is `f / fd`, and the sums are rounded down once, at their end
(R223, R235). -/
def unitUpdate (s : State) (es : List (Nat × Nat × Nat × Nat)) (centre : Bool) (n f fd : Nat) (us : List (Nat × List Int)) (pos : InsPos)
    (src conf : Nat) : State :=
  if f = 0 then s
  else
    let h := s.get R.INS_BAND_HALF
    s.each es (fun t e =>
      let c := e.2.1
      let mine := es.filter (fun x => x.2.1 = c)
      -- the centred weight over `den`
      let den : Int := (if centre then mine.length else 1 : Nat)
      let cw : Int := if centre then (e.2.2.2 : Int) * mine.length - sumN (mine.map (·.2.2.2)) else e.2.2.2
      match highPass us h n c with
      | none => t
      | some r =>
        let da := match highPass us h (n + 1) c, highPass us h (n - 1) c with
          | some x, some y => if n = 0 then 0 else (f * cw * (x.1 * y.2 - y.1 * x.2)) / (512 * den * fd * x.2 * y.2)
          | _, _ => 0
        nozUpdate t e ((f * cw * r.1) / (256 * den * fd * r.2)) da ((f * cw * cw) / (256 * den * den * fd)).toNat pos src conf)

def attribOn (s : State) : Bool := s.bit R.INS_CTRL_ATTRIB_EN && !(s.bit R.INS_STAT_DROP_STALE)

/-- LINE mode: the unit whose neighbours are now known is updated, under the table it was checked with (R222, R223, R235). -/
def attribLine (s : State) (n : Nat) : State :=
  let h := s.get R.INS_BAND_HALF
  match s.ins.lines.find? (fun l => l.pos.n + h + 1 = n) with
  | none => s
  | some l =>
    match l.rc, l.drop, l.attr with
    | some _, some d, true =>
      let us := s.ins.lines.filterMap (fun x => x.rc.map (fun r => (x.pos.n, r)))
      let s1 := unitUpdate s d.1 d.2 l.pos.n l.f 1 us l.pos l.src l.conf
      { s1 with ins := { s1.ins with lastAttr := l.pos.n } }
    | _, _, _ => s

/-- Plane residuals of a mean Δ vector given by its sum and count, the mean exact (R222). -/
def planeRes (s : State) (d : List Int) (cnt : Nat) : List Int :=
  (List.range 8).map (fun c =>
    (sumI ((List.range 3).map (fun j => ccP s c j * d.getD j 0)) + 8192 * cnt) / (16384 * cnt))

/-- COLUMN mode's updates at the end of a window; they come before its bands and streaks (R222, R223, R235). -/
def colAttrib (s : State) : State :=
  let w := s.ins.col
  match w.last, insDrop s with
  | some last, some a =>
    if bitOf (memN s (a + 5) 1) 0 && attribOn s then
      let us : List (Nat × List Int) := (w.cols.zip (List.range w.cols.length)).filterMap (fun (c : InsCol × Nat) =>
        if c.1.acnt = 0 then none else some (c.2, planeRes s c.1.d c.1.acnt))
      let t := s.each us (fun t u =>
        unitUpdate t (indexEntries t a (colIndex t a u.1)) (bitOf (memN s (a + 5) 1) 1) u.1 w.f (max 1 w.lines) us last w.src w.conf)
      { t with ins := { t.ins with lastAttr := last.n } }
    else s
  | _, _ => s

/-- STREAK_EVENT and the end of a column window (R216, R232). -/
def colClose (s : State) (bnd : Bool) : State :=
  let w := s.ins.col
  match w.pos with
  | none => { s with ins := { s.ins with col := .init } }
  | some pos =>
    let width := s.get R.SCRIM_OUT_PIXELS
    let cp := s.get R.INS_COL_PX
    let ps := colProfile s width
    let dev := (ps.zip (List.range ps.length)).filterMap (fun x =>
      match x.1 with
      | none => none
      | some p =>
        let near := ((ps.zip (List.range ps.length)).filter (fun y => decide (x.2 ≤ y.2 + 8) && decide (y.2 ≤ x.2 + 8) &&
          !(decide (x.2 ≤ y.2 + 1) && decide (y.2 ≤ x.2 + 1)))).filterMap (·.1)
        match medianI near with
        | none => none
        | some b => if s.get R.INS_STREAK_THR ≤ (p - b).natAbs then some (x.2, decide (p < b), p - b) else none)
    let masked (k : Nat) : Bool := match w.cols[k]? with | some c => c.mask | none => false
    let s1 := s.each (streakGroups dev) (fun t g =>
      let ab := topTwo (((dropOf t true (fun a => colIndex t a g.1)).map (·.1)).getD [])
      let mine := (w.cols.drop g.1).take (g.2.1 + 1 - g.1)
      let clip := mine.any (·.mask) || (decide (0 < g.1) && masked (g.1 - 1) && (ps.getD (g.1 - 1) none).isNone) ||
        (masked (g.2.1 + 1) && (ps.getD (g.2.1 + 1) none).isNone)
      let x := if clip then (mine.foldl (fun a c => spanJoin a c.span) none).getD (0, 0) else (g.1 * cp, min ((g.2.1 + 1) * cp) width)
      insEvent t { code := 2, flags := evFlags g.2.2.1 false (w.src != 0) clip bnd, mag := clampI (-32768) 32767 (roundDiv g.2.2.2.1 g.2.2.2.2),
                   pos := some pos, lines := w.lines, x0 := x.1, x1 := x.2, src := w.src, conf := w.conf,
                   a := ab.1, b := ab.2, c := g.1 })
    let s2 := if s.bit R.INS_CTRL_COLPROF then
        s1.emit 2 0x06 0x21 (leBytes 8 pos.n ++ leBytes 4 w.lines ++ leBytes 4 cp ++ leBytes 4 ps.length ++ leBytes 12 0 ++
          ps.flatMap (fun p => match p with | some v => leBytesI 2 v | none => leBytes 2 0x8000)) (some pos.n)
      else s1
    { s2 with ins := { s2.ins with col := .init } }

/-- INS_NOZ_CLEAR: every accumulator reads zero (R224). -/
def nozClear (s : State) : State :=
  let lo := nozBase s
  let hi := lo + 32 * nozTotal s
  let s1 := { s with mem := s.mem.filter (fun c => !(decide (lo ≤ c.1) && decide (c.1 < hi))) }
  ((s1.set R.INS_NOZ_MISSING 0).set R.INS_NOZ_WEAK 0).set R.INS_NOZ_DEFL 0

def nibbles : List Nat → List (BitVec 8)
  | a :: b :: l => BitVec.ofNat 8 (a + 16 * b) :: nibbles l
  | [a] => [BitVec.ofNat 8 a]
  | [] => []

/-- A health map (R226). -/
def healthSend (s : State) : State :=
  let at_ (i : Nat) : Nat := nozBase s + 32 * i + 0x1C
  let sts := (List.range (nozTotal s)).map (fun i => memN s (at_ i) 1)
  let cnt (v : Nat) : Nat := min 255 (sts.filter (fun x => x % 4 = v)).length
  let s1 := s.emit 2 0x06 0x22 (leBytes 8 s.ins.lastAttr ++ leBytes 1 (s.get R.INS_NOZ_HEADS) ++ leBytes 1 (s.get R.INS_NOZ_PLANES) ++
    leBytes 2 (s.get R.INS_NOZ_COUNT) ++ leBytes 4 (cnt 0 + cnt 1 * 256 + cnt 2 * 65536 + cnt 3 * 16777216) ++ leBytes 48 0 ++
    nibbles (sts.map (fun x => x % 16)))
  { s1 with mem := (List.range (nozTotal s)).foldl (fun m i =>
      let x := (memGet m (at_ i)).toNat
      memPut m (at_ i) (BitVec.ofNat 8 (x - (x / 8 % 2) * 8))) s1.mem }

/-! ## The fold (R227 to R230) -/

def foldOn (s : State) : Bool := s.bit R.INS_CTRL_FOLD_EN && s.get R.TIMING_FLOAT_PITCH = 1

/-- Advance and fold bin of a line with centre yc, given six times (R227). -/
def foldPlace (s : State) (yc6 : Int) : Option (Nat × Nat) :=
  match (s.ins.joins.filter (fun j => decide (6 * j.2 ≤ yc6))).getLast? with
  | none => none
  | some (k, y) =>
    let b := ((yc6 - 6 * y) / 127000).toNat
    if b ≤ 4095 then some (k, b) else none

/-- FOLD_JOIN: the first capture line after a PASS boundary has its position (R227). -/
def foldJoin (s : State) (p : Int) : State :=
  let y := p + s.getI R.INS_FOLD_HEAD_NM
  let js := s.ins.joins ++ [(s.ins.joinNext, y)]
  { s with ins := { s.ins with joins := js.drop (js.length - 256), joinNext := s.ins.joinNext + 1 } }

/-- FOLD_ADVANCE_COMPLETE (R228, R230). -/
def foldComplete (s : State) (k : Nat) (y y' : Int) : State :=
  let l := (3 * (y' - y) / 63500).toNat
  let g := s.get R.INS_FOLD_JOIN_W
  let val (j : Nat) : Option Int := match smFind s.ins.fold j with | some (a, u) => if u = 0 then none else some (a * 65536 / u) | none => none
  let join (j : Nat) : Bool := decide (j < g) || decide (l ≤ j + g)
  let js := ((List.range l).filter join).filterMap val
  let bs := ((List.range l).filter (fun j => !(join j))).filterMap val
  let st := smGet (0, 255) s.ins.foldStat k
  let mean (l : List Int) : Int := roundDiv (sumI l) l.length
  let rec_ (s : State) (j t : Int) : State :=
    s.emit 1 0x06 0x10 (leBytes 4 k ++ leBytes 4 0 ++ leBytesI 8 y ++ leBytesI 4 (y' - y) ++ leBytes 2 l ++ leBytes 1 st.1 ++ leBytes 1 st.2 ++
      leBytesI 4 j ++ leBytesI 4 t ++ leBytesI 4 (s.getI R.INS_TRIM_NM) ++ leBytes 28 0)
  let s0 := ({ s with ins := { s.ins with
    joins := s.ins.joins.filter (fun x => decide (k < x.1)), foldStat := s.ins.foldStat.filter (fun x => decide (k < x.1)) } }).set
      R.INS_FOLD_ADV k
  if js = [] ∨ bs = [] then rec_ s0 (-(2 ^ 31)) 0
  else
    let j16 := mean js - mean bs
    let t0 := -((j16 * s.get R.INS_TRIM_GAIN) / 16777216)
    let lim : Int := s.get R.INS_TRIM_STEP_MAX
    let t := clampI (-lim) lim t0
    let mx : Int := s.get R.INS_TRIM_MAX
    let n0 := s.getI R.INS_TRIM_NM + t
    let n := clampI (-mx) mx n0
    let s1 := s0.setI R.INS_TRIM_NM n
    let s2 := if lim ≤ t0.natAbs ∨ mx ≤ n0.natAbs then s1.raise pgINS 4 else s1
    let d := 2 ^ s.get R.INS_FOLD_DECAY
    let fold : List (Nat × (Int × Nat)) := s2.ins.fold.map (fun b => (b.1, (b.2.1 - b.2.1 / (d : Nat), b.2.2 - b.2.2 / d)))
    rec_ { s2 with ins := { s2.ins with fold := fold } } (roundDiv j16 4096) t

/-- A checked line in the fold (R228). -/
def foldLine (s : State) (l : InsLine) : State :=
  if !(foldOn s) then s
  else
    let yc6 := 6 * l.pos.edge + (s.get R.TIMING_FLOAT_PITCH * 63500 : Nat)
    let done := (s.ins.joins.zip (s.ins.joins.drop 1)).filter (fun j => decide (6 * j.2.2 ≤ yc6))
    let s1 := s.each done (fun t j => foldComplete t j.1.1 j.1.2 j.2.2)
    match l.pos.adv, l.pos.bin with
    | some k, some b =>
      let zs := l.zones.filterMap (·.p)
      let add : Int := if zs = [] then 0 else l.f * (sumI zs * 65536 / zs.length)
      let o := smGet ((0 : Int), (0 : Nat)) s1.ins.fold b
      let st := smGet (0, 255) s1.ins.foldStat k
      { s1 with ins := { s1.ins with
        fold := if zs = [] then s1.ins.fold else smPut s1.ins.fold b (o.1 + add, o.2 + l.f * 65536)
        foldStat := smPut s1.ins.foldStat k (max st.1 l.src, min st.2 l.conf) } }
    | _, _ => s1

/-! ## One output line (R213) -/

/-- ROW_PROFILE record (R214). -/
def rowProfile (s : State) (l : InsLine) : State :=
  let n := s.get R.INS_ROWPROF_EVERY
  if n = 0 then s
  else
    let c := s.ins.profCnt + 1
    let s1 := { s with ins := { s.ins with profCnt := if n ≤ c then 0 else c } }
    if c < n then s1
    else s1.emit 2 0x06 0x20 (leBytes 8 l.pos.n ++ leBytesI 8 l.pos.edge ++
      leBytes 8 (sumN ((l.zones.zip (List.range 64)).map (fun z => if z.1.p.isSome then 2 ^ z.2 else 0))) ++ leBytes 1 l.src ++ leBytes 1 l.conf ++
      leBytes 2 0 ++ leBytes 4 l.pos.pass ++ l.zones.flatMap (fun z => leBytesI 2 (z.p.getD 0))) (some l.pos.n)

/-- INS_LINE_CHECK: one output line in Straightedge (R209 to R218, R223, R228). -/
def insLine (s0 : State) (o : OutLine) : State :=
  if !(insRuns s0) then s0
  else
    let sA := cropForm (cropKeep s0 o) o.n false
    let sB := sA.ins.passAt.filter (fun m => decide (m ≤ o.n))
    let s := { sA with ins := { sA.ins with
      passes := sA.ins.passes + sB.length, passAt := sA.ins.passAt.filter (fun m => decide (o.n < m)) } }
    let h := s.get R.INS_BAND_HALF
    let rows := [0, 1, 2].filterMap (fun j => o.rows.find? (fun w => w.role = j))
    let yc6 := 6 * o.edge + (s.get R.TIMING_FLOAT_PITCH * 63500 : Nat)
    let fp := if foldOn s then foldPlace s yc6 else none
    let pos : InsPos := { n := o.n, edge := o.edge, pass := s.ins.passes + 1, adv := fp.map (·.1), bin := fp.map (·.2) }
    let lat := match s.bit R.INS_CTRL_LAT_FOLLOW, s.ins.lat0, smFind s.ins.lats o.ts with
      | true, some l0, some l => l - l0
      | _, _, _ => 0
    let s1 := { s with ins := { s.ins with lats := s.ins.lats.filter (fun x => decide (o.ts ≤ x.1)) } }
    let s2 : State :=
      if rows.length ≠ 3 then s1.inc R.INS_LINES_NOREF
      else
          let px : List (Option InsPx × Bool) := match insMap s with
            | some m => (List.range o.width).map (insPixel s m (mapV s m o.edge) (3 * lat) rows)
            | none => List.replicate o.width (none, false)
          let f := if o.src = 0 then 256 else s.get R.INS_FB_WEIGHT
          let at_ := (px.filterMap (·.1)).filter (·.attr)
          let l : InsLine := {
            pos := pos, src := o.src, conf := o.conf, zones := insZones px o.width
            rc := if at_ = [] then none else some (planeRes s (at_.foldl (fun a p => addV a p.d) [0, 0, 0]) at_.length)
            f := f
            drop := dropOf s false (fun a => lineIndex s a o.edge)
            attr := attribOn s }
          let keep (x : InsLine) : Bool := decide (o.n ≤ x.pos.n + 2 * h + 2)
          let sl : InsSpotLine := {
            pos := pos, src := o.src, conf := o.conf
            px := px.map (fun p => p.1.map (fun y => (y.r, y.spot)))
            mask := px.map (·.2) }
          let t1 := { s1 with ins := { s1.ins with
            lines := s1.ins.lines.filter keep ++ [l]
            spotLines := s1.ins.spotLines.filter (fun (x : InsSpotLine) => decide (o.n ≤ x.pos.n + 4)) ++ [sl] } }
          let t2 := rowProfile (t1.inc R.INS_LINES_CHECKED) l
          let t3 := driftAdd (colAdd t2 l px) l px o.width
          foldLine t3 l
    let full := decide (s.get R.INS_COL_LINES ≤ s2.ins.col.lines)
    let s3 := if full then colAttrib (attribLine s2 o.n) else attribLine s2 o.n
    let s4 := match s3.ins.lines.find? (fun l => l.pos.n + h = o.n) with
      | some l => bandDecide s3 l
      | none => if o.n < h then s3 else bandClose s3 false
    let s5 := spotLine s4 o.n
    let s6 := if full then colClose s5 false else s5
    if s.get R.INS_DRIFT_LINES ≤ s6.ins.drift.lines then driftClose s6 false else s6

/-! ## Boundaries (R219, R224, R226, R227, R229) -/

/-- DETECTIONS_CLOSE at a PAGE boundary or at entry into IDLE (R219). -/
def insClose (s : State) : State :=
  let half := decide (s.get R.INS_COL_LINES ≤ 2 * s.ins.col.lines)
  let s1 := bandClose (if half then colAttrib s else s) true
  let s2 := s1.each s1.ins.spots (fun t sp => spotEnd t sp false true)
  let s3 := if half then colClose s2 true else { s2 with ins := { s2.ins with col := .init } }
  let s4 := if s.get R.INS_DRIFT_LINES ≤ 2 * s3.ins.drift.lines then driftClose s3 true else { s3 with ins := { s3.ins with drift := .init } }
  s4

/-- SERVICE entry discards open detections (R219). -/
def insDiscard (s : State) : State :=
  { s with ins := { s.ins with band := none, spots := [], spotLines := [], lines := [], col := .init, drift := .init } }

/-- What a PAGE boundary, or IDLE entry, does in Straightedge: actions asked for come first for the settings then in force. -/
def insPage (s : State) : State :=
  let s1 := if s.bit R.INS_CTRL_NOZ_CLEAR then nozClear (s.set R.INS_CTRL_NOZ_CLEAR 0) else s
  let s2 := if s1.bit R.INS_CTRL_FOLD_CLEAR then
      let t := s1.set R.INS_CTRL_FOLD_CLEAR 0
      { t with ins := { t.ins with fold := [], joins := [] } }
    else s1
  let s3 := dropStale s2
  if s3.bit R.INS_CTRL_HEALTH_AT_PAGE && Variant.hasIns s.variant then healthSend s3 else s3

def insIdle (s : State) : State :=
  let s1 := if s.bit R.INS_CTRL_TRIM_CLEAR then (s.set R.INS_TRIM_NM 0).set R.INS_CTRL_TRIM_CLEAR 0 else s
  let s2 := cropForm s1 (2 ^ 64) true
  { s2 with ins := { s2.ins with lines := [], spotLines := [] } }

def insStatus (s : State) : State := s.setB R.INS_STAT_FOLD_ACTIVE (insRuns s && foldOn s)

/-- A job begins: passes and advances are numbered anew (R227, R230, R231). -/
def insJobStart (s : State) : State :=
  insStatus { s with ins := { s.ins with
    lat0 := none, lats := [], passes := 0, passAt := [], lines := [], band := none, spotLines := [], spots := [], col := .init, drift := .init, profCnt := 0,
    joins := [], joinNext := 1, joinAt := [], foldStat := [], cropLines := [] } }

/-- The first output line not closed yet; the ring holds at most 2,046 (R44, R137). -/
def lineOpen (s : State) : Nat :=
  (((List.range 2047).map (s.flt.scrimNext + ·)).find? (fun n => !(lineClosed s n))).getD (s.flt.scrimNext + 2047)

/-- A PASS boundary (R227, R231): the join takes the position of the first capture line that begins after it. -/
def insPass (s : State) : State :=
  if Variant.hasIns s.variant then
    { s with ins := { s.ins with
      passAt := s.ins.passAt ++ [lineOpen s]
      joinAt := if foldOn s then s.ins.joinAt ++ [(s.get R.TIMING_LINE_CNT + 1) % 2 ^ 32] else s.ins.joinAt } }
  else s

/-- A capture line has its position: lateral position by timestamp, and joins that waited for it (R209, R227). -/
def insCapture (s : State) (line ts : Nat) (pos : LinePos) : State :=
  if !(insRuns s) then s
  else
    let lat := s.trk.lat
    let l0 := if s.ins.lat0.isNone && pos.src = 0 then some lat else s.ins.lat0
    -- λ is 0 before the job's first TRACKED line
    let s1 := { s with ins := { s.ins with lats := if l0.isNone then s.ins.lats else smPut s.ins.lats ts lat, lat0 := l0 } }
    let due := s1.ins.joinAt.filter (fun n => decide ((line + 2 ^ 32 - n) % 2 ^ 32 < 2 ^ 31))
    let s2 := { s1 with ins := { s1.ins with joinAt := s1.ins.joinAt.filter (fun n => !(decide (n ∈ due))) } }
    s2.each due (fun t _ => foldJoin t pos.p)

/-- Table images of types 5 to 7 come into force or are rejected (R208, R210, R220, R31). -/
def insReject (s : State) (e : Nat × Nat) : State := (s.err pgINS e.1 e.2).raise pgINS 3

def ccLoad (s : State) (b : List (BitVec 8)) : State :=
  match ccCheck b with
  | some e => insReject s e
  | none => { (s.set R.INS_STAT_CC_DEFAULT 0) with ins := { s.ins with cc := some b } }

/-- A staged map or drop table replaces the one in force, if its checks pass; `at_` is the state whose settings come into force with it (R220). -/
def placeLoad (s at_ : State) (t : InPlace) : State :=
  let others := s.inPlace.filter (fun x => x.type != t.type)
  let old := s.inPlace.filter (fun x => x.type = t.type && !x.staged)
  match (if t.type = 6 then mapCheck s t.addr t.len else dropCheck at_ t.addr t.len) with
  | some e => insReject { s with inPlace := others ++ old } e
  | none =>
    let s1 := { s with inPlace := others ++ [{ t with staged := false }] }
    if t.type = 6 then s1.set R.INS_STAT_MAP_VALID 1 else (s1.set R.INS_STAT_DROP_VALID 1).set R.INS_STAT_DROP_STALE 0

end Sys2Proof.Machine
end

