-- ==== Sys2Proof/Machine/Keccak.lean ====
section
/-! DEFINITION. The Keccak core (R471): SHAKE256 and KMAC256, which the spec names and does not restate. PRESUMED (log 6): FIPS 202 and
NIST SP 800-185. -/
namespace Sys2Proof.Machine
open Sys2Proof

/-- The iota constants of the 24 rounds (FIPS 202, 3.2.5). -/
def keccakRC : List (BitVec 64) :=
  [0x0000000000000001, 0x0000000000008082, 0x800000000000808A, 0x8000000080008000, 0x000000000000808B, 0x0000000080000001,
   0x8000000080008081, 0x8000000000008009, 0x000000000000008A, 0x0000000000000088, 0x0000000080008009, 0x000000008000000A] ++
  [0x000000008000808B, 0x800000000000008B, 0x8000000000008089, 0x8000000000008003, 0x8000000000008002, 0x8000000000000080,
   0x000000000000800A, 0x800000008000000A, 0x8000000080008081, 0x8000000000008080, 0x0000000080000001, 0x8000000080008008]

/-- The rotations of rho, of lane x + 5y (FIPS 202, 3.2.2). -/
def keccakRho : List Nat := [0, 1, 62, 28, 27, 36, 44, 6, 55, 20, 3, 10, 43, 25, 39, 41, 45, 15, 21, 8, 18, 2, 61, 56, 14]

/-- Lane x + 5y of the state, each coordinate modulo 5. -/
def lane (a : List (BitVec 64)) (x y : Nat) : BitVec 64 := a.getD (x % 5 + 5 * (y % 5)) 0

/-- The 25 lanes given by their coordinates. -/
def lanes (f : Nat → Nat → BitVec 64) : List (BitVec 64) := (List.range 25).map (fun i => f (i % 5) (i / 5))

/-- theta (FIPS 202, 3.2.1). -/
def keccakTheta (a : List (BitVec 64)) : List (BitVec 64) :=
  let c := (List.range 5).map (fun x => lane a x 0 ^^^ lane a x 1 ^^^ lane a x 2 ^^^ lane a x 3 ^^^ lane a x 4)
  lanes (fun x y => lane a x y ^^^ c.getD ((x + 4) % 5) 0 ^^^ (c.getD ((x + 1) % 5) 0).rotateLeft 1)

/-- rho and pi (FIPS 202, 3.2.2 and 3.2.3). -/
def keccakRhoPi (a : List (BitVec 64)) : List (BitVec 64) :=
  lanes (fun x y => (lane a (x + 3 * y) x).rotateLeft (keccakRho.getD ((x + 3 * y) % 5 + 5 * x) 0))

/-- chi (FIPS 202, 3.2.4). -/
def keccakChi (a : List (BitVec 64)) : List (BitVec 64) :=
  lanes (fun x y => lane a x y ^^^ (~~~(lane a (x + 1) y) &&& lane a (x + 2) y))

/-- The permutation Keccak-f[1600]. -/
def keccakF (a : List (BitVec 64)) : List (BitVec 64) :=
  keccakRC.foldl (fun t rc => match keccakChi (keccakRhoPi (keccakTheta t)) with | [] => [] | l :: r => (l ^^^ rc) :: r) a

/-- A 136-byte block is taken in. -/
def keccakBlock (a : List (BitVec 64)) (b : List (BitVec 8)) : List (BitVec 64) :=
  keccakF ((List.range 25).map (fun i => a.getD i 0 ^^^ (if i < 17 then BitVec.ofNat 64 (leAt b (8 * i) 8) else 0)))

/-- The 136 bytes that the state gives out. -/
def keccakOut (a : List (BitVec 64)) : List (BitVec 8) := (a.take 17).flatMap (fun (l : BitVec 64) => leBytes 8 l.toNat)

/-- `n` further blocks of output, of 136 bytes each. -/
def keccakSqueeze : Nat → List (BitVec 64) → List (BitVec 8)
  | 0, _ => []
  | n + 1, a => keccakOut a ++ keccakSqueeze n (keccakF a)

/-- A message with its suffix byte and the padding to whole blocks. -/
def keccakPad (suffix : BitVec 8) (m : List (BitVec 8)) : List (BitVec 8) :=
  let z := 135 - m.length % 136
  if z = 0 then m ++ [suffix ||| 0x80] else m ++ [suffix] ++ List.replicate (z - 1) 0 ++ [0x80]

/-- The sponge with capacity 512: `n` bytes of output over `m`. -/
def keccak (suffix : BitVec 8) (n : Nat) (m : List (BitVec 8)) : List (BitVec 8) :=
  let p := keccakPad suffix m
  let a := (List.range (p.length / 136)).foldl (fun t i => keccakBlock t ((p.drop (136 * i)).take 136)) (List.replicate 25 0)
  (keccakSqueeze ((n + 135) / 136) a).take n

/-- SHAKE256, `n` bytes of output. -/
def shake256 (n : Nat) (m : List (BitVec 8)) : List (BitVec 8) := keccak 0x1F n m

/-- Bytes of a number in its shortest form, most significant first, at least one (SP 800-185, 2.3.1). -/
def encodeBytes (v : Nat) : List (BitVec 8) := (leBytes (max 1 ((Nat.log2 v + 8) / 8)) v).reverse

def leftEncode (v : Nat) : List (BitVec 8) := let b := encodeBytes v; BitVec.ofNat 8 b.length :: b
def rightEncode (v : Nat) : List (BitVec 8) := let b := encodeBytes v; b ++ [BitVec.ofNat 8 b.length]
def encodeString (m : List (BitVec 8)) : List (BitVec 8) := leftEncode (8 * m.length) ++ m

/-- Padded to whole blocks of 136 bytes, after the block length (SP 800-185, 2.3.3). -/
def bytePad (m : List (BitVec 8)) : List (BitVec 8) :=
  let b := leftEncode 136 ++ m
  b ++ List.replicate ((136 - b.length % 136) % 136) 0

def textBytes (t : String) : List (BitVec 8) := t.toList.map (fun c => BitVec.ofNat 8 c.toNat)

/-- KMAC256 of `m` under `key` with customisation string `custom`, `n` bytes of output (SP 800-185, 4.3). -/
def kmac256 (key : List (BitVec 8)) (custom : String) (n : Nat) (m : List (BitVec 8)) : List (BitVec 8) :=
  keccak 0x04 n (bytePad (encodeString (textBytes "KMAC") ++ encodeString (textBytes custom)) ++ bytePad (encodeString key) ++ m ++
    rightEncode (8 * n))

end Sys2Proof.Machine
end

