-- ==== Sys2Proof/Machine/Locks.lean ====
section
/-! DEFINITION. The hardware locks (R513 to R517). -/
namespace Sys2Proof.Machine
open Sys2Proof

/-- An attempt by owner code `o` to acquire lock `n`: the word read, and the state (R513, R516). -/
def lockAttempt (s : State) (n o : Nat) : Nat × State :=
  let own := s.get R.LOCK_STAT_n_OWNER 0 n
  let word (code : Nat) (t : State) : Nat × State :=
    (code + 16 * t.get R.LOCK_STAT_n_OWNER 0 n + 65536 * t.get R.LOCK_STAT_n_GEN 0 n, t)
  if 24 ≤ n ∧ o ≠ 2 ∧ o ≠ 3 then word 0 s
  else if own = 0 then
    word (if s.bit R.LOCK_STAT_n_BROKEN 0 n then 3 else 1)
      (((s.set R.LOCK_STAT_n_OWNER o 0 n).set R.LOCK_STAT_n_BROKEN 0 0 n).set R.LOCK_STAT_n_GEN (s.get R.LOCK_STAT_n_GEN 0 n + 1) 0 n)
  else word (if own = o then 2 else 0) s

/-- A write to LOCK_n by owner code `o` (R513). -/
def lockWrite (s : State) (n o v : Nat) : State :=
  if v ≠ 1 then s
  else if o ≠ 0 ∧ s.get R.LOCK_STAT_n_OWNER 0 n = o then (s.set R.LOCK_STAT_n_OWNER 0 0 n).set R.LOCK_STAT_n_BROKEN 0 0 n
  else s.err pgLOCK 0xE01

/-- Every lock of owner code `o` is force-released (R514, R517). -/
def lockBreak (s : State) (o : Nat) : State :=
  s.each (List.range 32) (fun t n =>
    if t.get R.LOCK_STAT_n_OWNER 0 n = o then
      (((t.set R.LOCK_STAT_n_OWNER 0 0 n).set R.LOCK_STAT_n_BROKEN 1 0 n).inc R.LOCK_BROKEN_CNT).raise pgLOCK 0
    else t)

/-- LOCK_HELD (R517). -/
def lockHeld (s : State) : Nat := sumN ((List.range 32).map (fun n => if s.get R.LOCK_STAT_n_OWNER 0 n = 0 then 0 else 2 ^ n))

end Sys2Proof.Machine
end

