-- ==== Sys2Proof/Machine/Hod.lean ====
section
/-! DEFINITION. Hod, the upload queue (R358 to R378): packets, commits, gap records, capacity, ping-pong fallback, flush,
release, renumbering and the legacy window. -/
namespace Sys2Proof.Machine
open Sys2Proof

def hc (s : State) (n : Nat) : HodClass := smGet HodClass.init s.hod.classes n

def hcSet (s : State) (n : Nat) (c : HodClass) : State :=
  { s with hod := { s.hod with classes := smPut s.hod.classes n c } }

/-- Space a packet occupies in the queue: header, payload and padding to 64 B (R360). -/
def pktSpace (len : Nat) : Nat := 64 * ceilDiv (16 + len) 64

/-- The bytes of a packet: 16-byte header and payload, without padding (R360). -/
def pktBytes (n : Nat) (p : Pkt) : List (BitVec 8) :=
  leBytes 4 p.seq ++ leBytes 4 (p.payload.length % 2 ^ 24 + n * 2 ^ 24) ++ leBytes 2 p.typ ++ leBytes 1 0 ++
  leBytes 1 (b2n p.gap + 2 * b2n p.fb) ++ leBytes 4 0 ++ p.payload

/-- Bytes of committed packets of a class, counted as R360 lays down. -/
def hodCommitted (s : State) (n : Nat) : Nat := ((hc s n).pkts.map (fun p => pktSpace p.payload.length)).foldl (· + ·) 0

/-- Bytes of packets a class's producers have open. -/
def hodOpenBytes (s : State) (n : Nat) : Nat :=
  ((s.hod.opens.filter (fun o => o.cls = n && !o.flushed)).map (fun o => 64 * ceilDiv o.took 64)).foldl (· + ·) 0

/-- Held bytes of a class (R368). -/
def hodHeld (s : State) (n : Nat) : Nat := hodCommitted s n + hodOpenBytes s n

/-- Capacity of a class: its ring less the gap reserve of 1,024 B (R368). -/
def hodCapacity (s : State) (n : Nat) : Nat := s.get R.HOD_Cn_PAGES 0 n * 4096 - 1024

/-- Free space of a class (R368); in fallback, that of the filling bank's share (R370). -/
def hodFree (s : State) (n : Nat) : Nat :=
  if s.bit R.HOD_STAT_FALLBACK then
    if n < 2 then 262144 - 1024 - smGet 0 s.hod.bankUsed (2 * s.hod.fillBank + n) - hodOpenBytes s n else 0
  else hodCapacity s n - hodHeld s n

/-- The fill of R297: bytes of class 2 and 3 records committed and not yet released (R368). -/
def hodFill (s : State) : Nat := hodCommitted s 2 + hodCommitted s 3

/-- Room for `extra` more bytes in a class; only a gap record may use the gap reserve (R369, R370). -/
def hodFits (s : State) (n extra : Nat) (gap : Bool) : Bool :=
  let reserve := if gap then 1024 else 0
  if s.bit R.HOD_STAT_FALLBACK then
    decide (n < 2) &&
      decide (smGet 0 s.hod.bankUsed (2 * s.hod.fillBank + n) + hodOpenBytes s n + extra ≤ 262144 - 1024 + reserve)
  else decide (s.get R.HOD_Cn_PAGES 0 n ≠ 0) && decide (hodHeld s n + extra ≤ hodCapacity s n + reserve)

/-- In fallback the other bank's share of a class still has room, so that the class is not full though its share of the filling bank is
(R370; log 111). -/
def hodOtherShare (s : State) (n extra : Nat) : Bool :=
  s.bit R.HOD_STAT_FALLBACK && decide (n < 2) &&
    decide (smGet 0 s.hod.bankUsed (2 * (1 - s.hod.fillBank) + n) + extra ≤ 262144 - 1024)

/-- Is a packet of a bank unsent? -/
def bankUnsent (s : State) (b : Nat) : Bool :=
  [0, 1].any (fun n => (hc s n).pkts.any (fun p => p.bank = some b && !p.sent))

/-- Bank `b` holds an unsent packet of a class whose oldest unsent packet does not lie in the other bank (log 111). -/
def bankLeft (s : State) (b : Nat) : Bool :=
  [0, 1].any (fun n => match (hc s n).pkts.find? (fun p => !p.sent) with
    | some o => o.bank != some (1 - b) && (hc s n).pkts.any (fun p => p.bank = some b && !p.sent)
    | none => false)

/-- The banks swap when the sending bank has no unsent packet left and the filling bank holds one (R370); a bank all of whose
packets are released is free again (R371; log 111). -/
def hodBanks (s : State) : State :=
  let anyIn (b : Nat) : Bool := [0, 1].any (fun n => (hc s n).pkts.any (fun p => p.bank = some b))
  let freeBank (b : Nat) (u : List (Nat × Nat)) : List (Nat × Nat) :=
    if anyIn b then u else smPut (smPut u (2 * b) 0) (2 * b + 1) 0
  let used := freeBank 0 (freeBank 1 s.hod.bankUsed)
  let f := s.hod.fillBank
  let swap := !(bankLeft s (1 - f)) && bankUnsent s f
  { s with hod := { s.hod with bankUsed := used, fillBank := if swap then 1 - f else f } }

/-- Where a class's ring lies, and its size: the rings lie one after another from the spill's base (R365). -/
def hodRing (s : State) (n : Nat) : Nat × Nat :=
  (s.get64 R.HOD_SPILL_BASE_LO R.HOD_SPILL_BASE_HI + 4096 * sumN ((List.range n).map (fun m => s.get R.HOD_Cn_PAGES 0 m)),
   4096 * s.get R.HOD_Cn_PAGES 0 n)

/-- R364: the first `k` bytes of a packet are written to its place in the class ring, over the ring's end to its start. -/
def ringPut (s : State) (n k : Nat) (p : Pkt) : State :=
  let r := hodRing s n
  match p.pos with
  | none => s
  | some o =>
    if r.2 = 0 ∨ k = 0 then s
    else
      let bs := (pktBytes n p).take k
      let a := o % r.2
      let cut := r.2 - a
      dramFresh (dramFresh { s with mem := memPutBytes (memPutBytes s.mem (r.1 + a) (bs.take cut)) r.1 (bs.drop cut) }
        (r.1 + a) (min cut bs.length)) r.1 (bs.length - cut)

/-- The place of the next packet of a class in its ring, and of the one after it, `len` payload bytes on (R360, R364; log 126). -/
def ringNext (s : State) (n len : Nat) : Nat × Nat :=
  let size := max 1 (hodRing s n).2
  ((hc s n).wr % size, ((hc s n).wr + pktSpace len) % size)

/-- A good commit: the class's next sequence number, visible at once (R361). In fallback a packet of class 0 or 1 lies in the filling bank
(R370). Any other has its place in the class ring: its last `inTail` bytes are still in the tail partition, the others are in the ring (R364). -/
def hodCommit (s : State) (n typ : Nat) (gap : Bool) (payload : List (BitVec 8)) (inTail : Nat) : State :=
  let c := hc s n
  let fb := s.bit R.HOD_STAT_FALLBACK && decide (n < 2)
  let r := ringNext s n payload.length
  let p : Pkt := { seq := c.nextSeq, typ := typ, gap := gap, bank := if fb then some s.hod.fillBank else none, fb := fb,
                   payload := payload, sent := false, acked := false, sentEpoch := false, readFails := 0, fragPos := 0,
                   again := false, pos := if fb then none else some r.1 }
  let s1 := hcSet s n { c with
    pkts := c.pkts ++ [p], nextSeq := (c.nextSeq + 1) % 2 ^ 32, wr := if fb then c.wr else r.2
    tail := if fb then c.tail else c.tail + inTail }
  let key := 2 * s.hod.fillBank + n
  if fb then
    hodBanks { s1 with hod := { s1.hod with
      bankUsed := smPut s1.hod.bankUsed key (smGet 0 s1.hod.bankUsed key + pktSpace payload.length) } }
  else ringPut s1 n (16 + payload.length - inTail) p

/-- The 32 bytes of a gap record (R362). -/
def gapBytes (g : GapRec) : List (BitVec 8) :=
  leBytes 1 g.reason ++ leBytes 1 g.prod ++ leBytes 2 g.kind ++ leBytes 4 g.count ++ leBytes 8 g.first ++ leBytes 8 g.last ++
  leBytes 8 g.ts

/-- Losses widen the producer's pending gap record of that class and reason, or open one (R362). -/
def hodLoss (s : State) (n prod kind reason item : Nat) : State :=
  let same (g : GapRec) : Bool := g.cls = n && g.prod = prod && g.reason = reason
  if s.hod.gaps.any same then
    { s with hod := { s.hod with gaps := s.hod.gaps.map (fun g =>
        if same g then { g with count := g.count + 1, last := item } else g) } }
  else
    { s with hod := { s.hod with gaps := s.hod.gaps ++
        [{ cls := n, prod := prod, kind := kind, reason := reason, count := 1, first := item, last := item, ts := s.ts }] } }

/-- Commit, in order, every pending gap record that finds room; the rest stay pending (R369). -/
def hodGapsGo : List GapRec → State → State
  | [], s => s
  | g :: gs, s =>
    let s1 :=
      if hodFits s g.cls 64 true && !(g.reason = 3 && s.cap.dropping) then
        ((hodCommit { s with hod := { s.hod with gaps := s.hod.gaps.filter (fun x => x ≠ g) } } g.cls (g.prod * 256 + 0xFF) true
          (gapBytes g) 48).inc R.HOD_Cn_GAP_CNT 0 g.cls).raise pgHOD 4
      else s
    hodGapsGo gs s1

def hodGaps (s : State) : State := hodGapsGo s.hod.gaps s

/-- A class is full for a packet: the class's OVERRUN flag, count and the producer's gap record (R369, R370). -/
def hodClassFull (s : State) (n prod kind item : Nat) : State :=
  let reason := if s.bit R.HOD_STAT_FALLBACK && decide (2 ≤ n) then 6 else 2
  hodLoss (((s.set R.HOD_STAT_OVERRUN (setBit (s.get R.HOD_STAT_OVERRUN) n true)).inc R.HOD_Cn_OVR_CNT 0 n).raise pgHOD 0)
    n prod kind reason item

/-- Commit a record of Hod's or the device's own at once, or lose it into a gap record (R369). -/
def hodCommitNow (s : State) (n prod kind : Nat) (payload : List (BitVec 8)) : State :=
  if hodFits s n (pktSpace payload.length) false then hodCommit s n (prod * 256 + kind) false payload (16 + payload.length)
  else hodClassFull s n prod kind (smGet 0 s.hod.counts (n * 256 + prod))

/-- Tail partition of a class in bytes (R364). -/
def hodTailSize : Nat → Nat
  | 0 => 32768 | 1 => 32768 | 2 => 65536 | _ => 131072

def hodOpenOf (s : State) (n prod : Nat) : Option OpenPkt := s.hod.opens.find? (fun o => o.cls = n && o.prod = prod)

def hodOpenSet (s : State) (o : OpenPkt) : State :=
  { s with hod := { s.hod with opens := s.hod.opens.map (fun x => if x.cls = o.cls && x.prod = o.prod then o else x) } }

def hodOpenDel (s : State) (n prod : Nat) : State :=
  { s with hod := { s.hod with opens := s.hod.opens.filter (fun o => !(o.cls = n && o.prod = prod)) } }

/-- A class 0 or 1 record that names an output line waits for that line's class 2 and 3 records in production (R363): a line the
formatter holds until its page's end is known (R287), a record its producer has ready, an open packet. -/
def hodMustWait (s : State) (n : Nat) (item : Option Nat) : Bool :=
  decide (n < 2) && item.isSome &&
    (s.hod.opens.any (fun o => decide (2 ≤ o.cls) && o.item == item) ||
     s.outbox.any (fun o => decide (2 ≤ o.cls) && o.item == item) ||
     s.cap.held.any (fun h => item == some h.1.n))

/-- Remove the first record of a class and producer from the outbox. -/
def outboxTake : List OutPkt → Nat → Nat → Option (OutPkt × List OutPkt)
  | [], _, _ => none
  | o :: os, n, prod =>
    if o.cls = n && o.prod = prod then some (o, os)
    else (outboxTake os n prod).map (fun r => (r.1, o :: r.2))

/-- A class 2 or 3 record that the producer leaves out by policy (R309). -/
def hodPolicyDrop (s : State) (o : OutPkt) : State :=
  let key := o.cls * 256 + o.prod
  let run := s.hod.gaps.any (fun g => g.cls = o.cls && g.prod = o.prod && g.reason = 3)
  let s1 := { s with hod := { s.hod with counts := smPut s.hod.counts key (smGet 0 s.hod.counts key + 1) } }
  let s2 := hodLoss (s1.inc R.CAP_DROP_CNT) o.cls o.prod o.kind 3 (o.item.getD (smGet 0 s1.hod.counts key))
  if run then s2 else s2.raise pgCAP 8

/-- Open the producer's next record, if it has none open in the class and may open one (R361). -/
def hodOpenNext (s : State) (n prod : Nat) : State :=
  match hodOpenOf s n prod with
  | some _ => s
  | none =>
    match outboxTake s.outbox n prod with
    | none => s
    | some (o, rest) =>
      if s.cap.dropping && decide (2 ≤ n) && s.mode == .inspect then hodPolicyDrop { s with outbox := rest } o
      else if hodMustWait s n o.item then s
      else
        let key := n * 256 + prod
        { s with
          outbox := rest
          hod := { s.hod with
            counts := smPut s.hod.counts key (smGet 0 s.hod.counts key + 1)
            opens := s.hod.opens ++ [{ cls := n, prod := prod, kind := o.kind, payload := o.payload, written := 0, took := 0, inTail := 0, beyond := false,
                                       flushed := false, waiting := false, item := o.item }] } }

/-- The item a record stands for in a gap record: its output line, or the producer's record count (R362). -/
def hodItem (s : State) (o : OpenPkt) : Nat := o.item.getD (smGet 0 s.hod.counts (o.cls * 256 + o.prod))

/-- Bytes in the tail partition of a class (R364). -/
def hodTail (s : State) (n : Nat) : Nat := (hc s n).tail + sumN ((s.hod.opens.filter (fun o => o.cls = n)).map (·.inTail))

/-- One word, or for classes 0 and 1 the whole record in one burst, of an open packet (R361, R364, R366, R369). Where in fallback only
the other bank has room, the producer waits for the swap, as it does for its tail (R370; log 111). A record that the formatter has open when a retraining starts waits on input 10 (R377). -/
def hodWord (s : State) (o : OpenPkt) : State :=
  let total := 16 + o.payload.length
  let step := if o.cls < 2 then total - o.written else min (if o.written = 0 then 20 else 4) (total - o.written)
  let direct := o.cls = 3 && o.prod = 8 || s.bit R.HOD_STAT_FALLBACK
  if s.hod.retraining && o.cls = 3 && o.prod = 8 && s.mode == .capture && o.written != 0 then s
  else if o.flushed || o.beyond then hodOpenSet s { o with written := total, waiting := false }
  else
    let grow := 64 * ceilDiv (o.took + step) 64 - 64 * ceilDiv o.took 64
    if !(hodFits s o.cls grow false) && hodOtherShare s o.cls grow then hodOpenSet s { o with waiting := true }
    else if !(hodFits s o.cls grow false) then
      hodOpenSet (hodClassFull s o.cls o.prod o.kind (hodItem s o)) { o with beyond := true, written := total, waiting := false }
    else if !direct && decide (hodTailSize o.cls < hodTail s o.cls + step) then hodOpenSet s { o with waiting := true }
    else
      hodOpenSet s { o with
        written := o.written + step, took := o.took + step, inTail := if direct then o.inTail else o.inTail + step, waiting := false }

/-- R361, R364: a producer writes the next word of its packet into the class tail. -/
def hodPacketWrite (s : State) (n prod : Nat) : State :=
  let s1 := hodOpenNext s n prod
  match hodOpenOf s1 n prod with
  | none => s1
  | some o => if o.written < 16 + o.payload.length then hodWord s1 o else s1

/-- R366: a producer held 400 µs on a full tail loses its packet as on a full class. -/
def hodTailHoldExpire (s : State) (n prod : Nat) : State :=
  match hodOpenOf s n prod with
  | none => s
  | some o =>
    if o.waiting then
      hodOpenSet (hodClassFull s n prod o.kind (hodItem s o)) { o with beyond := true, written := 16 + o.payload.length, waiting := false }
    else s

/-- R361: a commit of a packet all of whose words are written; a packet that overran is rewound, a flushed one does nothing. -/
def hodPacketCommit (s : State) (n prod : Nat) : State :=
  match hodOpenOf s n prod with
  | none => s
  | some o =>
    if o.written < 16 + o.payload.length then s
    else
      let s1 := hodOpenDel s n prod
      if o.flushed || o.beyond then hodGaps s1
      else
        let s2 := if n = 3 ∧ prod = 8 then { s1 with hod := { s1.hod with line := o.item } } else s1
        hodGaps (hodCommit s2 n (prod * 256 + o.kind) false o.payload o.inTail)

/-- `b` bytes of open packets of a class leave its tail for the ring, oldest packet first. -/
def openDrain (n : Nat) : Nat → List OpenPkt → List OpenPkt
  | _, [] => []
  | b, o :: os =>
    if o.cls = n then { o with inTail := o.inTail - b } :: openDrain n (b - o.inTail) os else o :: openDrain n b os

/-- The class whose ring holds an address (R365). -/
def hodRingOf (s : State) (addr : Nat) : Option Nat :=
  [0, 1, 2, 3].find? (fun n => decide ((hodRing s n).1 ≤ addr) && decide (addr < (hodRing s n).1 + (hodRing s n).2))

/-- Which byte of a packet lies `off` bytes into its class ring, of `size` bytes. -/
def pktAt (size off : Nat) (p : Pkt) : Option Nat :=
  match p.pos with
  | none => none
  | some o =>
    let i := (off + size - o % size) % size
    if i < 16 + p.payload.length then some i else none

/-- What the spill writer puts at address `addr + i`: the byte of the packet whose place that is (R364). -/
def ringFill (n base size addr bytes : Nat) (m : List Host.Cell) (p : Pkt) : List Host.Cell :=
  let bs := pktBytes n p
  (List.range bytes).foldl (fun m i => match pktAt size (addr + i - base) p with
    | some j => memPut m (addr + i) (bs.getD j 0)
    | none => m) m

/-- A write of the spill writer is done: the packets' bytes are in the ring, and as many have left the tail of the class whose ring it went to,
oldest first (R364). -/
def hodDrain (s : State) (addr bytes : Nat) : State :=
  match hodRingOf s addr with
  | none => s
  | some n =>
    let c := hc s n
    let r := hodRing s n
    let s1 := dramFresh { s with mem := c.pkts.foldl (ringFill n r.1 r.2 addr bytes) s.mem } addr bytes
    let s2 := hcSet s1 n { c with tail := c.tail - bytes }
    { s2 with hod := { s2.hod with opens := openDrain n (bytes - c.tail) s2.hod.opens } }

/-- R361, R362: a BAD commit rewinds the packet; the producer then writes a gap record for it. -/
def hodBadCommit (s : State) (n prod : Nat) : State :=
  match hodOpenOf s n prod with
  | none => s
  | some o =>
    let s1 := hodOpenDel s n prod
    if o.flushed || o.beyond then hodGaps s1
    else hodGaps (hodLoss (s1.inc R.HOD_Cn_REWIND_CNT 0 n) n prod o.kind 1 (hodItem s o))

/-- R39 step 5: every packet not yet committed is rewound, and its producer emits a gap record with reason SERVICE. These are packets of
classes 2 and 3 only (R361): a class 0 or 1 record whose commit is still to come keeps its place. An event whose crop is rewound goes out
without it (R233). -/
def hodServiceRewindGo : List OpenPkt → State → State
  | [], s => s
  | o :: os, s =>
    let t := hodOpenDel s o.cls o.prod
    let s1 := if o.cls = 3 ∧ o.prod = 6 ∧ o.kind = 0x30 then insCropDone t none else t
    hodServiceRewindGo os (if o.cls < 2 then s else if o.flushed || o.beyond then s1 else hodLoss s1 o.cls o.prod o.kind 4 (hodItem s o))

def hodServiceRewind (s : State) : State := hodGaps (hodServiceRewindGo s.hod.opens s)

/-- Packets left once every marked packet contiguous from the oldest is released (R367). -/
def dropAcked : List Pkt → List Pkt
  | [] => []
  | p :: ps => if p.acked then dropAcked ps else p :: ps

/-- R367: the release pointer advances over the marked packets. The legacy class is not released by acknowledgement (R375). -/
def hodRelease (s : State) (n : Nat) : State :=
  if s.bit R.HOD_CTRL_LEG_EN && s.get R.HOD_CTRL_LEG_CLASS = n then s
  else hodGaps (hodBanks (hcSet s n { hc s n with pkts := dropAcked (hc s n).pkts }))

/-- Mark the packets of class `n` that `f` names as acknowledged (R406). -/
def hodMark (s : State) (n : Nat) (f : Pkt → Bool) : State :=
  hcSet s n { hc s n with pkts := (hc s n).pkts.map (fun p => if f p then { p with acked := true } else p) }

/-- A spill is configured: some ring has a size in force (R365). -/
def hodConfigured (s : State) : Bool := [0, 1, 2, 3].any (fun n => s.get R.HOD_Cn_PAGES 0 n != 0)

/-- R370: enter fallback; the episode counts only while a spill is configured (R371). -/
def hodFallbackEnter (s : State) : State :=
  if s.bit R.HOD_STAT_FALLBACK then s
  else
    let s1 := (s.set R.HOD_STAT_FALLBACK 1).raise pgHOD 1
    if hodConfigured s then s1.inc R.HOD_FB_CNT else s1

/-- R371: a packet of a bank goes to its class ring. -/
def bankToRing (n : Nat) (s : State) (p : Pkt) : State :=
  if p.bank.isSome then
    let r := ringNext s n p.payload.length
    let q := { p with bank := none, pos := some r.1 }
    ringPut (hcSet s n { hc s n with pkts := (hc s n).pkts.map (fun x => if x.seq = p.seq then q else x), wr := r.2 })
      n (16 + p.payload.length) q
  else s

/-- R371: the bank contents go to the class rings in commit order, the banks are freed, and fallback ends. -/
def hodFallbackExit (s : State) : State :=
  if s.bit R.HOD_STAT_FALLBACK then
    let s1 := [0, 1].foldl (fun (t : State) n => t.each (hc t n).pkts (bankToRing n)) s
    hodGaps ((({ s1 with hod := { s1.hod with bankUsed := [] } }).set R.HOD_STAT_FALLBACK 0).raise pgHOD 2)
  else s

/-- Enter or leave fallback as the DRAM path, the spill blocks and the spill's configuration now stand (R370, R371). -/
def hodPath (s : State) : State :=
  if s.hod.retraining || s.hod.spillReset || !(hodConfigured s) || !(s.bit R.MC_STAT_TRAINED) then hodFallbackEnter s
  else hodFallbackExit s

/-- One class's part of a FLUSHED payload: first and last number and bytes discarded (R373). -/
def flushedPart (s : State) (n : Nat) (named : Bool) : List (BitVec 8) :=
  let ps := (hc s n).pkts
  match named, ps.head?, ps.getLast? with
  | true, some a, some b => leBytes 4 a.seq ++ leBytes 4 b.seq ++ leBytes 8 (hodCommitted s n)
  | _, _, _ => leBytes 16 0

/-- The 72 bytes of a FLUSHED packet (R373). -/
def flushedBytes (s : State) (mask : Nat) : List (BitVec 8) :=
  let had (n : Nat) : Nat := b2n (bitOf mask n && !(hc s n).pkts.isEmpty) * 2 ^ (4 + n)
  leBytes 1 (mask % 16 + had 0 + had 1 + had 2 + had 3) ++ leBytes 7 0 ++
  flushedPart s 0 (bitOf mask 0) ++ flushedPart s 1 (bitOf mask 1) ++ flushedPart s 2 (bitOf mask 2) ++ flushedPart s 3 (bitOf mask 3)

/-- Empty one class (R372): held packets, open packets and the legacy marks. -/
def hodFlushClass (s : State) (n : Nat) : State :=
  let s0 := hcSet s n { hc s n with pkts := [], tail := 0, legRead := 0, legMark := none }
  let s1 := if n < 2 then { s0 with hod := { s0.hod with bankUsed := smPut (smPut s0.hod.bankUsed n 0) (2 + n) 0 } } else s0
  let lost := s.hod.opens.filter (fun o => o.cls = n && !o.flushed && !o.beyond)
  let s2 := lost.foldl (fun s o => hodLoss s n o.prod o.kind 5 (hodItem s o)) s1
  let s3 := { s2 with hod := { s2.hod with opens := s2.hod.opens.map (fun o => if o.cls = n then { o with flushed := true, inTail := 0 } else o) } }
  if s.bit R.HOD_CTRL_LEG_EN && s.get R.HOD_CTRL_LEG_CLASS = n then s3.set R.HOD_LEG_MARK_VALID 0 else s3

/-- R372, R373: empty each named class, then commit the FLUSHED packet first in class 0. -/
def hodFlush (s : State) (mask : Nat) : State :=
  if mask % 16 = 0 then s
  else
    let body := flushedBytes s mask
    let s1 := (maskList mask 4).foldl hodFlushClass s
    hodGaps ((hodCommitNow (hodBanks s1) 0 0x0A 0x01 body).raise pgHOD 3)

/-- A packet that failed three spill reads is discarded as though flushed alone, with a FLUSHED packet naming it (R377). -/
def hodDiscardOne (s : State) (n seq : Nat) : State :=
  match (hc s n).pkts.find? (fun p => p.seq = seq) with
  | none => s
  | some p =>
    let part (m : Nat) : List (BitVec 8) :=
      if m = n then leBytes 4 seq ++ leBytes 4 seq ++ leBytes 8 (pktSpace p.payload.length) else leBytes 16 0
    let body := leBytes 1 (2 ^ n + 2 ^ (4 + n)) ++ leBytes 7 0 ++ part 0 ++ part 1 ++ part 2 ++ part 3
    let s1 := hcSet s n { hc s n with pkts := (hc s n).pkts.filter (fun q => q.seq ≠ seq) }
    (hodCommitNow s1 0 0x0A 0x01 body).raise pgHOD 3

/-- Renumber packets from `k` (R374). -/
def renumber : Nat → List Pkt → List Pkt
  | _, [] => []
  | k, p :: ps =>
    { p with seq := k, sent := p.acked && p.sent, sentEpoch := false, again := false, fragPos := 0 } :: renumber (k + 1) ps

/-- R374: a link-block soft reset renumbers every class from 0 and marks what is not acknowledged unsent. -/
def hodRenumberClass (s : State) (n : Nat) : State :=
  let c := hc s n
  let old := match c.pkts.head? with | some p => p.seq | none => c.nextSeq
  let from_ := match c.renumFrom with | some r => (r + old) % 2 ^ 32 | none => old
  hcSet s n { c with pkts := renumber 0 c.pkts, nextSeq := c.pkts.length, renumFrom := some from_ }

def hodRenumber (s : State) : State := hodBanks ([0, 1, 2, 3].foldl hodRenumberClass s)

/-- At a session's opening every held packet not yet acknowledged is marked unsent (R408; log 112). -/
def hodUnsend (s : State) : State :=
  hodBanks ([0, 1, 2, 3].foldl (fun s n => hcSet s n { hc s n with pkts := (hc s n).pkts.map (fun p =>
    if p.acked then p else { p with sent := false, sentEpoch := p.sentEpoch || p.fragPos != 0, again := false, fragPos := 0 }) }) s)

/-! ## The legacy window (R375, R376) -/

/-- The words of a packet as the legacy window returns them: header included, padding skipped. -/
def pktWords (n : Nat) (p : Pkt) : List Nat :=
  (List.range (ceilDiv (16 + p.payload.length) 4)).map (fun i => leNat (((pktBytes n p).drop (4 * i)).take 4))

def legWords (s : State) (n : Nat) : List Nat := ((hc s n).pkts.map (pktWords n)).flatten

def legClass (s : State) : Nat := s.get R.HOD_CTRL_LEG_CLASS

/-- R375: the next word and the advanced read point; nothing committed beyond it returns 0 and sets HOD_LEG_EMPTY_READ. -/
def hodLegRead (s : State) : Nat × State :=
  if s.bit R.HOD_CTRL_LEG_EN then
    let n := legClass s
    match (legWords s n)[(hc s n).legRead]? with
    | some w => (w, hcSet s n { hc s n with legRead := (hc s n).legRead + 1 })
    | none => (0, s.set R.HOD_LEG_EMPTY_READ 1)
  else (0, s.set R.HOD_LEG_EMPTY_READ 1)

def hodLegMark (s : State) : State :=
  if s.bit R.HOD_CTRL_LEG_EN then
    (hcSet s (legClass s) { hc s (legClass s) with legMark := some (hc s (legClass s)).legRead }).set R.HOD_LEG_MARK_VALID 1
  else s

def hodLegRewind (s : State) : State :=
  if s.bit R.HOD_CTRL_LEG_EN then
    hcSet s (legClass s) { hc s (legClass s) with legRead := (hc s (legClass s)).legMark.getD 0 }
  else s

/-- Packets wholly within the first `w` words, and how many words they hold. -/
def legCut (n : Nat) : List Pkt → Nat → Nat × List Pkt
  | [], _ => (0, [])
  | p :: ps, w =>
    let k := (pktWords n p).length
    if k ≤ w then let r := legCut n ps (w - k); (k + r.1, r.2) else (0, p :: ps)

/-- R375: free every packet that lies wholly before the mark, and keep the mark. -/
def hodLegRelease (s : State) : State :=
  if s.bit R.HOD_CTRL_LEG_EN then
    let n := legClass s
    let c := hc s n
    match c.legMark with
    | none => s
    | some m =>
      let r := legCut n c.pkts m
      hodGaps (hodBanks (hcSet s n { c with pkts := r.2, legRead := c.legRead - r.1, legMark := some (m - r.1) }))
  else s

/-- R376: at IDLE, after a change of LEG_EN or LEG_CLASS, the read point and mark restart at the release pointer. -/
def hodLegRestart (s : State) : State :=
  let s1 := ([0, 1, 2, 3].foldl (fun s n => hcSet s n { hc s n with legRead := 0, legMark := none }) s).set R.HOD_LEG_MARK_VALID 0
  [0, 1, 2, 3].foldl hodRelease s1

/-- R365: the checks at a request for INSPECT or CAPTURE; the class that fails, if one does. `rec3` is the largest class 3 record. -/
def hodConfigCheck (s : State) (capture : Bool) (rec3 : Nat) : Option Nat :=
  let pages (n : Nat) : Nat := s.get R.HOD_Cn_PAGES 0 n
  match [0, 1, 2, 3].find? (fun n => decide (pages n < 256)) with
  | some n => some n
  | none =>
    if 2097152 < pages 0 + pages 1 + pages 2 + pages 3 then some 3
    else if capture && (decide (pages 3 * 4096 < 2 * rec3) || decide (pages 2 + pages 3 < s.get R.CAP_BUF_PAGES)) then some 3
    else none

/-- The counters of the page clear (R378). -/
def hodClearCounters (s : State) : State :=
  [0, 1, 2, 3].foldl (fun s n => ((s.set R.HOD_Cn_OVR_CNT 0 0 n).set R.HOD_Cn_REWIND_CNT 0 0 n).set R.HOD_Cn_GAP_CNT 0 0 n)
    (s.set R.HOD_FB_CNT 0)

end Sys2Proof.Machine
end

