-- ==== Sys2Proof/Machine/Roller.lean ====
section
/-! DEFINITION. Roller (R238 to R284): axes, ramp tables, moves, groups, encoders and limit inputs, homing, re-phase, spare generators,
advances, the pass handshake and the hold. -/
namespace Sys2Proof.Machine
open Sys2Proof

def State.axis (s : State) (a : Nat) : Axis := smGet Axis.init s.rol.axes a

def State.modAxis (s : State) (a : Nat) (f : Axis → Axis) : State :=
  { s with rol := { s.rol with axes := smMod Axis.init s.rol.axes a f } }

def State.modRol (s : State) (f : Roller → Roller) : State := { s with rol := f s.rol }

def setMove (s : State) (a : Nat) (m : Option Move) : State := s.modAxis a (fun x => { x with move := m })

/-- Feed-owner INSPECT (R34). -/
def feedOwner (s : State) : Bool := s.mode == .inspect && s.bit R.SYS_MODE_CUR_FO

/-! ## Events and status (R283, R284) -/

/-- MOT_AXa_STAT [15:0]. -/
def axisStatWord (s : State) (a : Nat) : Nat :=
  sumN ([R.MOT_AXa_STAT_BUSY, R.MOT_AXa_STAT_HOMED, R.MOT_AXa_STAT_PHASE_LOST, R.MOT_AXa_STAT_HOME_FAULT, R.MOT_AXa_STAT_DRV_FAULT,
    R.MOT_AXa_STAT_HALTED, R.MOT_AXa_STAT_CLIPPED, R.MOT_AXa_STAT_DRV_LOST, R.MOT_AXa_STAT_SPARED, R.MOT_AXa_STAT_SUBSTITUTING,
    R.MOT_AXa_STAT_GEN_FAULT, R.MOT_AXa_STAT_BALL_FAULT, R.MOT_AXa_STAT_SEG].map (fun r => s.get r a * 2 ^ r.lsb))

/-- The class 0 event of Roller (R284): axis, or 0xFF; code; detail; limit input, or 0xFF. -/
def rollerEvent (s : State) (axis code detail inp : Nat) : State :=
  let one := decide (axis < 6)
  s.emit 0 0x07 0x01 (leBytes 1 axis ++ leBytes 1 code ++ leBytes 1 detail ++ leBytes 1 inp ++
    leBytes 4 (if one then axisStatWord s axis else 0) ++ leBytesI 8 (if one then axPos s axis else 0) ++ leBytes 8 s.ts ++
    leBytes 4 (match s.rol.run with | some a => a.req.id | none => 0) ++ leBytes 4 0)

/-! ## Positions and tables (R240, R242 to R245) -/

/-- MOT_AXa_USTEP_IDX follows the position (R240). -/
def idxShow (s : State) (a : Nat) : State :=
  s.set R.MOT_AXa_USTEP_IDX (axPos s a % (max 1 (s.get R.MOT_AXa_USTEP_CYCLE a) : Nat)).toNat a

/-- The position of an axis, and its microstep index (R240). -/
def setPos (s : State) (a : Nat) (p : Int) : State := idxShow (s.set64 R.MOT_AXa_POS_LO R.MOT_AXa_POS_HI (toTwos 48 p) a) a

/-- The spare generator that shadows axis `a` (R266). -/
def shadowOf (s : State) (a : Nat) : Option Nat :=
  [4, 5].find? (fun g => Variant.hasAxis s.variant g && g != a && s.get R.MOT_AXa_SHADOW g = a)

/-- A position is loaded by command; the shadow obeys the same command (R266, R282). -/
def posLoad (s : State) (a : Nat) (p : Int) : State :=
  let s1 := setPos s a p
  match shadowOf s a with | some g => setPos s1 g p | none => s1

/-- The position moves by `d`, and the shadow's with it (R240, R266). -/
def posShift (s : State) (a : Nat) (d : Int) : State :=
  let s1 := setPos s a (axPos s a + d)
  match shadowOf s a with | some g => setPos s1 g (axPos s1 g + d) | none => s1

/-- A pulse of STEP_HIGH ticks on MOT_STEPa (R239). -/
def stepPulse (s : State) (a : Nat) : State := s.modAxis a (fun x => { x with pulse := s.now + 10 * s.get R.MOT_AXa_STEP_HIGH a })

/-- One microstep (R239, R240). -/
def posStep (s : State) (a : Nat) (neg : Bool) : State := posShift (stepPulse s a) a (if neg then -1 else 1)

def rampEnts (tabs : List (Nat × Ramp)) (t : Nat) : List (Nat × Nat × Bool) :=
  match smFind tabs t with | some r => r.ents | none => []

def loaded (tabs : List (Nat × Ramp)) (t : Nat) : Bool := (smFind tabs t).isSome

/-- Q(j): cumulative steps through entry j (R243). -/
def cumSteps (t : List (Nat × Nat × Bool)) (j : Nat) : Nat := sumN ((t.take (j + 1)).map (fun e => e.2.1 + 1))

/-- Entry point of ACCEL (R245). -/
def entryUp (t : List (Nat × Nat × Bool)) (cur : Option Nat) : Nat :=
  match cur with
  | none => 0
  | some c => (t.findIdx? (fun e => decide (e.1 ≤ c))).getD (t.length - 1)

/-- Entry point of DECEL (R245). -/
def entryDown (t : List (Nat × Nat × Bool)) (cur : Option Nat) : Nat :=
  match cur with
  | none => 0
  | some c => (((List.range t.length).filter (fun j => decide (c ≤ (t.getD j (0, 0, false)).1))).getLast?).getD 0

def rampAt (t : List (Nat × Nat × Bool)) (j : Nat) : Nat × Nat × Bool := t.getD j (0, 0, false)

/-- Ramp table image payload (R242): first failing check, as ERR_CODE and entry number (R243). -/
def rampCheck (b : List (BitVec 8)) : Option (Nat × Nat) :=
  let n := leAt b 2 2
  let e (j : Nat) : Nat := leAt b (16 + 4 * j) 4
  if b.length ≠ 16 + 4 * n ∨ 63 < leAt b 0 1 ∨ n < 1 ∨ 1024 < n ∨ leAt b 1 1 ≠ 0 ∨ leAt b 4 12 ≠ 0 then some (0x501, 0)
  else match (List.range n).find? (fun j => bitOf (e j) 31) with
    | some j => some (0x501, j)
    | none => match (List.range n).find? (fun j => decide (bits (e j) 0 24 < 50)) with
      | some j => some (0x502, j)
      | none => match (List.range (n - 1)).find? (fun j => decide (bits (e j) 0 24 < bits (e (j + 1)) 0 24)) with
        | some j => some (0x503, j + 1)
        | none => none

def rampEntries (b : List (BitVec 8)) : List (Nat × Nat × Bool) :=
  (List.range (leAt b 2 2)).map (fun j => let e := leAt b (16 + 4 * j) 4; (bits e 0 24, bits e 24 6, bitOf e 30))

/-- A move that uses table `t` still has the content that a load replaced (R244). -/
def oldInUse (s : State) (t : Nat) : Bool :=
  s.rol.axes.any (fun x => match x.2.move with
    | none => false
    | some m => decide (t ∈ m.used) && (smFind m.tabs t).map (·.ver) != (smFind s.rol.ramps t).map (·.ver))

def rampPut (s : State) (t : Nat) (ents : List (Nat × Nat × Bool)) : State :=
  let v := match smFind s.rol.ramps t with | some r => r.ver + 1 | none => 1
  s.modRol (fun r => { r with ramps := smPut r.ramps t { ver := v, ents := ents } })

/-- A ramp table load that passed its checks (R244). -/
def rampLoad (s : State) (t : Nat) (ents : List (Nat × Nat × Bool)) : State :=
  if oldInUse s t then (s.modRol (fun r => { r with held := smPut r.held t ents })).set R.MOT_STAT_TBL_HELD 1
  else rampPut s t ents

/-- RAMP_TABLE_IN_FORCE: held loads that no running move still keeps out (R244). -/
def rampRelease (s : State) : State :=
  let go := s.rol.held.filter (fun h => !(oldInUse s h.1))
  let s1 := s.modRol (fun r => { r with held := r.held.filter (fun h => !(go.any (fun g => g.1 = h.1))) })
  (s1.each go (fun t h => rampPut t h.1 h.2)).setB R.MOT_STAT_TBL_HELD (s1.rol.held != [])

/-! ## Prediction (R272) -/

/-- Count of the tracker's fallback source now. -/
def countNow (s : State) : Int := if fbSel s = 2 then axPos s 0 else encCount s (fbSel s)

/-- Predicted position in 2⁻¹⁶ nm (R272). -/
def predict16 (s : State) : Int :=
  match s.rol.last with
  | none => s.trk.p * 65536
  | some (p, c, _, _) => p * 65536 + s.get R.TRK_FB_SCALE * (countNow s - c)

/-! ## Starting a move (R246, R247, R249) -/

def segBits (lo hi : Nat) : RSeg :=
  { tbl := bits lo 0 6, play := bits lo 6 2, ent := bits lo 8 10, keep := bitOf lo 18, term := bits lo 19 3, inp := bits lo 22 3,
    edge := bitOf lo 25, latch := bitOf lo 26, opd := ofTwos 32 hi, fixed := none, upTo := none }

/-- The used segments of an axis, in slot order: those before the first END (R246). -/
def usedSegs (s : State) (a : Nat) : List RSeg :=
  ((List.range 8).map (fun i => segBits (s.get R.MOT_AXa_SEGs_LO a i) (s.get R.MOT_AXa_SEGs_HI a i))).takeWhile (fun g => g.play != 3)

def RSeg.needsTable (g : RSeg) : Bool := g.fixed.isNone && !(g.play = 1 && g.keep)

/-- The entry that the `n`-th step plays from entry `j` upward, at most `e` (R245). -/
def entryAfterUp (t : List (Nat × Nat × Bool)) (j e n : Nat) : Nat :=
  ((List.range (e + 1)).find? (fun i => decide (j ≤ i) && decide (n + cumSteps t j ≤ cumSteps t i + (rampAt t j).2.1 + 1))).getD e

/-- The entry that the `n`-th step plays from entry `j` downward. -/
def entryAfterDown (t : List (Nat × Nat × Bool)) (j n : Nat) : Nat :=
  (((List.range (j + 1)).filter (fun i => decide (n + cumSteps t i ≤ cumSteps t j + (rampAt t i).2.1 + 1))).getLast?).getD 0

/-- Shortest interval the last of the segments may play, and before it the shortest at which each may end; none: at rest. A segment with TERM STEPS
plays that many steps from its entry point, one that ends on DONE all of its entries, any other as few or as many as make the shortest (R245, R247, R249). -/
def endInterval (tabs : List (Nat × Ramp)) : List RSeg → Option Nat → Option Nat
  | [], prev => prev
  | g :: l, prev =>
    let t := rampEnts tabs g.tbl
    let at_ (j : Nat) : Nat := (rampAt t (min j (t.length - 1))).1
    let n := max 1 g.opd.toNat
    let here : Option Nat :=
      if g.play = 0 then
        let j := entryUp t prev
        let e := min g.ent (t.length - 1)
        if e < j then some (prev.getD (at_ e)) else some (at_ (if g.term = 1 then entryAfterUp t j e n else e))
      else if g.play = 1 then (if g.keep then prev else some (at_ g.ent))
      else
        let j := entryDown t prev
        some (at_ (if l = [] then j else if g.term = 0 then 0 else if g.term = 1 then entryAfterDown t j n else j))
    endInterval tabs l here

/-- The segment list is invalid (R249). -/
def listBad (s : State) (a : Nat) (gs : List RSeg) : Bool :=
  let vel := s.bit R.MOT_AXa_MOVE_VELOCITY a
  let bud := s.bit R.MOT_AXa_MOVE_BUDGET_EN a
  match gs, gs.getLast? with
  | g0 :: _, some last =>
    let lastDone := last.play = 2 && last.term = 0
    gs.any (fun g => g.term = 7) || gs.any (fun g => g.play = 1 && g.term = 0) || (!vel && gs.any (fun g => g.term = 6)) ||
      (g0.play = 1 && g0.keep) || (bud && !lastDone) ||
      (!bud && !vel && !lastDone && gs.all (fun g => !g.needsTable || loaded s.rol.ramps g.tbl) &&
        (match endInterval s.rol.ramps gs none with | some i => decide (i < s.get R.MOT_AXa_SS_INT a) | none => false))
  | _, _ => true

/-- Limit inputs: level to activity (R256). -/
def limActive (s : State) (i : Nat) : Bool := bitOf (s.get R.MOT_LIM_QUAL) i

/-- Direction towards a limit input that is qualified active (R257); `except` is a home input whose role is suspended. -/
def limitAhead (s : State) (a : Nat) (neg : Bool) (except : Option Nat) : Bool :=
  (List.range 8).any (fun i => except != some i && s.get R.MOT_LIMi_AXIS 0 i = a && limActive s i &&
    s.get R.MOT_LIMi_ROLE 0 i = (if neg then 3 else 2))

def estopActive (s : State) : Bool :=
  s.bit R.MOT_STAT_ESTOP || (List.range 8).any (fun i => s.get R.MOT_LIMi_ROLE 0 i = 4 && limActive s i)

/-- The axis is busy: a move, a group it follows, or a re-phase (R249). -/
def axisBusy (s : State) (a : Nat) : Bool :=
  let x := s.axis a
  x.move.isSome || x.lead.isSome || x.rephase.isSome

/-- First reason of R249 that keeps axis `a` from starting a move over `gs` in a direction. -/
def startRefused (s : State) (a : Nat) (neg : Bool) (gs : List RSeg) (bad : Bool) : Option Nat :=
  if axisBusy s a then some 0x513
  else if s.bit R.MOT_AXa_STAT_PHASE_LOST a then some 0x511
  else if limitAhead s a neg none then some 0x512
  else if bad then some 0x514
  else if gs.any (fun g => g.needsTable && !(loaded s.rol.ramps g.tbl)) then some 0x517
  else if gs.any (fun g => g.term = 4 && (a != 0 || !(Variant.hasTrk s.variant))) then some 0x518
  else if !(s.bit R.MOT_AXa_EN a) then some 0x51A
  else if estopActive s then some 0x51B
  else none

/-- What a move is to do. -/
structure MoveReq where
  what : MoveFor
  neg : Bool
  velocity : Bool
  budget : Option Nat
  segs : List RSeg
deriving DecidableEq, Repr

def moveOf (s : State) (q : MoveReq) : Move :=
  { what := q.what, neg := q.neg, velocity := q.velocity, budget := q.budget
    commit := match q.segs.getLast? with | some g => g.tbl | none => 0
    committed := false, stopping := false, segs := q.segs, idx := 0, play := none, at_ := none, steps := 0, segSteps := 0
    enc0 := [encCount s 0, encCount s 1], p0 := predict16 s, hit := false, sel := none, tabs := s.rol.ramps
    used := (q.segs.filter RSeg.needsTable).map (·.tbl), clip := false, followers := [], dirs := [], den := 1, nums := [], rev := false }

def busySet (s : State) (a : Nat) (b : Bool) : State := s.setB R.MOT_AXa_STAT_BUSY b a

/-- The move is under way, with its direction on MOT_DIRa, and the followers' on theirs; its first step comes with a step command (R239, R253). -/
def beginMove (s : State) (a : Nat) (m : Move) : State :=
  let dirs := m.followers.map (fun f => (f.1, s.bit R.MOT_AXa_MOVE_DIR f.1 != m.rev))
  let s1 := (setMove (busySet (s.set R.MOT_AXa_STAT_SEG 0 a) a true) a (some { m with dirs := dirs })).modAxis a (fun x => { x with dir := m.neg })
  s1.each dirs (fun t f => (busySet t f.1 true).modAxis f.1 (fun x => { x with lead := some a, dir := f.2 }))

/-! ## The end of a move (R247, R252, R254) -/

/-- The ADVANCE record (R274). -/
def advBytes (a : Adv) (target got err dist : Int) (us flags src : Nat) : List (BitVec 8) :=
  leBytes 4 a.req.id ++ leBytes 4 a.num ++ leBytesI 8 target ++ leBytesI 8 got ++ leBytesI 4 err ++ leBytesI 4 dist ++ leBytesI 4 a.trim ++
  leBytes 4 a.fast ++ leBytes 4 a.creep ++ leBytes 4 us ++ leBytes 2 flags ++ leBytes 1 a.cMin ++ leBytes 1 src ++ leBytes 12 0

def advFlags (a : Adv) (aborted fb : Bool) : Nat :=
  b2n a.left.isSome + 2 * b2n a.late + 4 * b2n a.overrun + 8 * b2n aborted + 16 * b2n a.clipped + 32 * b2n a.unchained + 64 * b2n fb

/-- The record of an aborted advance: what settling would have measured is a free value (log 8). -/
def advAborted (s : State) (a : Adv) (target : Int) : State :=
  let d := s.draw
  let v (i : Nat) : Int := Config.unstated (12 + i) d.1
  d.2.emit 1 0x07 0x10 (advBytes a target (v 0) (v 1) (v 2) ((v 3).toNat % 2 ^ 32) (advFlags a true false) ((v 4).toNat % 4))

/-- The steps that a move of the advance in progress has made (R274). -/
def advTally (s : State) (m : Move) : State :=
  match m.what, s.rol.run with
  | .advFast, some a => s.modRol (fun r => { r with run := some { a with fast := m.steps, clipped := m.clip } })
  | .advCreep, some a => s.modRol (fun r => { r with run := some { a with creep := m.steps } })
  | _, _ => s

/-- FEED has come to rest after an abort: the ABORTED record goes out, with the steps actually made (R274). -/
def advAbortEnd (s : State) (a : Nat) (m : Move) : State :=
  match s.rol.aborting with
  | some x =>
    if a ≠ 0 then s
    else
      let y : Adv := if x.phase = 0 then { x with fast := m.steps, clipped := m.clip } else { x with creep := m.steps }
      advAborted (s.modRol (fun r => { r with aborting := none })) y y.target
  | none => s

/-- The move of axis `a`, and of its group, is over. -/
def clearMove (s0 : State) (a : Nat) : State :=
  match (s0.axis a).move with
  | none => s0
  | some m =>
    let s := advTally s0 m
    let one (t : State) (b : Nat) : State := ((busySet t b false).set R.MOT_AXa_STAT_SEG 0 b).raise (pgAXIS b) 0
    let s1 := advAbortEnd (setMove (one s a) a none) a m
    rampRelease (s1.each m.followers (fun t f => (one t f.1).modAxis f.1 (fun x => { x with lead := none })))

/-- The axis that leads the axis's group, or the axis itself. -/
def leadOf (s : State) (a : Nat) : Nat := (s.axis a).lead.getD a

/-- HALT: no step after this tick, for every member of a group (R252, R254). -/
def haltAxis (s : State) (a : Nat) : State :=
  let l := leadOf s a
  match (s.axis l).move with
  | none => s
  | some m =>
    let s1 := clearMove s l
    (s1.set R.MOT_AXa_STAT_HALTED 1 l).each m.followers (fun t f => t.set R.MOT_AXa_STAT_HALTED 1 f.1)

/-- Play downward from the entry point for the current interval, to entry 0. -/
def playDown (t : List (Nat × Nat × Bool)) (cur : Option Nat) (stop : Nat) : Play :=
  let j := entryDown t cur
  { kind := 2, tbl := t, j := j, left := (rampAt t j).2.1 + 1, stop := min stop j, hold := 0, first := true, above := false, done := false }

/-- Steps left in the deceleration in progress. -/
def stepsLeft (p : Play) : Nat :=
  if p.kind = 2 then p.left + (cumSteps p.tbl p.j - ((rampAt p.tbl p.j).2.1 + 1)) else 0

/-- A segment that only decelerates on a table. -/
def stopSeg (t : Nat) : RSeg :=
  { tbl := t, play := 2, ent := 0, keep := false, term := 0, inp := 0, edge := false, latch := false, opd := 0, fixed := none, upTo := none }

/-- An advance whose FEED has been stopped or halted has no more steps: it settles (log 25). -/
def advStopped (s : State) : State :=
  match s.rol.run with
  | some a => s.modRol (fun r => { r with run := some { a with phase := 2 } })
  | none => s

/-- HALT of a move, or of a re-phase: no step follows (R252; log 25). -/
def haltNow (s : State) (l : Nat) : State :=
  match (s.axis l).move with
  | some m => if m.what = .advFast ∨ m.what = .advCreep then advStopped (haltAxis s l) else haltAxis s l
  | none =>
    if (s.axis l).rephase.isSome then (s.modAxis l (fun x => { x with rephase := none })).set R.MOT_AXa_STAT_HALTED 1 l else s

/-- The move has come to the deceleration that ends its list, the committed one of a positioning move (R248). What a selection has inserted in a
velocity move is not that one. -/
def Move.inLast (m : Move) : Bool :=
  m.idx + 1 == m.segs.length && (match m.segs[m.idx]? with | some g => g.play == 2 && g.term == 0 && g.upTo.isNone | none => false)

/-- The positioning move is in its committed deceleration (R248, R280). -/
def Move.inCommitted (m : Move) : Bool := m.committed || (m.budget.isSome && m.inLast)

/-- The steps still to emit are no more than the committed deceleration needs from the current interval (R248). -/
def Move.budgetDue (m : Move) : Bool :=
  let t := rampEnts m.tabs m.commit
  m.budget.any (fun r => decide (r ≤ cumSteps t (entryDown t m.at_)))

/-- STOP of a running move on table `t` (R251, R280, R254); homing ends with it. Where the budget rule acts at the next step anyway, its deceleration
is the stop, and ends on the budget (R248). A table that was never loaded halts it (log 24). -/
def stopMove (s : State) (a t : Nat) : State :=
  let l := leadOf s a
  match (s.axis l).move with
  | none => s
  | some m0 =>
    let m : Move := { m0 with what := match m0.what with | .home _ => .host | w => w }
    if m.inCommitted then s
    else match m.budget with
      | some _ =>
        let c := rampEnts m.tabs m.commit
        if m.budgetDue then setMove s l (some { m with stopping := true, sel := none })
        else setMove s l (some { m with
          budget := none, committed := true, stopping := true, sel := none, play := some (playDown c m.at_ 0), segs := [stopSeg m.commit],
          idx := 0, segSteps := 0 })
      | none =>
        if !(loaded m.tabs t) then haltNow s l
        else
          let p := playDown (rampEnts m.tabs t) m.at_ 0
          if m.stopping then
            match m.play with
            | some q =>
              if stepsLeft p < stepsLeft q then setMove s l (some { m with play := some p, segs := [stopSeg t], idx := 0, used := t :: m.used })
              else s.set R.MOT_AXa_STOP_TBL t l
            | none => s
          else setMove s l (some { m with
            stopping := true, sel := none, play := some p, segs := [stopSeg t], idx := 0, segSteps := 0, used := t :: m.used })

/-- The stop with the axis's own stop table (R251, R257, R171, R39). -/
def stopOwn (s : State) (a : Nat) : State := stopMove s a (s.get R.MOT_AXa_STOP_TBL (leadOf s a))

/-! ## PRINT_HOLD_L (R278) -/

def holdUpdate (s : State) : State :=
  let src := s.bit R.MOT_HOLD_SW || s.bit R.MOT_HOLD_FAULT || s.bit R.MOT_HOLD_RESERVE
  let out := if !src then false else if s.mode == .inspect then s.bit R.MOT_HOLD_OUT || !s.rol.psQual else true
  let s1 := s.setB R.MOT_HOLD_OUT out
  if out && !(s.bit R.MOT_HOLD_OUT) then s1.raise pgMOT 6 else s1

/-! ## Advances: records and abort (R274) -/

def advNew (r : AdvReq) (n : Nat) : Adv :=
  { req := r, num := n, t0 := 0, base := 0, trim := 0, target := 0, s16 := 0, unchained := false, basePos := 0, first := false, phase := 0, fast := 0,
    creep := 0, cMin := 255, left := none, late := false, overrun := false, clipped := false, fromLine := 0, need := 0, lines := [],
    us := 0 }

/-- Queued advances are discarded, each with an ABORTED record and zero steps. -/
def advDiscard (s : State) : State :=
  let s1 := s.each s.rol.queue (fun t q =>
    let n := t.rol.advNum + 1
    let d := t.draw
    advAborted (d.2.modRol (fun r => { r with advNum := n })) (advNew q n) (Config.unstated 17 d.1))
  (s1.modRol (fun r => { r with queue := [] })).set R.MOT_ADV_QUEUED 0

/-- Steps of the advance in progress that its move has made so far. -/
def advCount (s : State) (a : Adv) : Adv :=
  match a.phase, (s.axis 0).move with
  | 0, some m => { a with fast := m.steps, clipped := m.clip }
  | 1, some m => { a with creep := m.steps }
  | _, _ => a

/-- ADV_ABORT: the advance in progress is aborted and the queue discarded; the FAULT hold is raised but for SERVICE. While FEED still decelerates, the
record waits for its rest, so that it names the steps actually made (R274). -/
def advAbort (s : State) (hold : Bool) : State :=
  match s.rol.run with
  | none => if hold then s else advDiscard s
  | some a0 =>
    let a := advCount s a0
    let s1 := (s.modRol (fun r => { r with run := none, prev := some (a.target, true) })).set R.MOT_ADV_RUNNING 0
    let s2 := match (s1.axis 0).move with
      | some m => (setMove s1 0 (some { m with what := .host })).modRol (fun r => { r with aborting := some a })
      | none => advAborted s1 a a.target
    let s3 := advDiscard s2
    if hold then holdUpdate (s3.set R.MOT_HOLD_FAULT 1) else s3

/-- The pacing drives the axis (R285). -/
def paced (s : State) (a : Nat) : Bool := s.mode == .capture && (a == 0 || (a == 1 && s.bit R.CAP_CTRL_EXIT && Variant.hasAxis s.variant 1))

/-- A fault on FEED or EXIT aborts the advance (R274); one on a paced axis is left for the pacing to act on (R303). -/
def advFault (s : State) (a : Nat) : State :=
  if a ≤ 1 then
    let s1 := s.modRol (fun r => { r with fault := r.fault || paced s a })
    if s.rol.run.isSome then advAbort s1 true else s1
  else s

/-! ## Homing (R258 to R261) -/

def homeSeg (s : State) (a play term : Nat) (opd : Int) (edge latch keep : Bool) : RSeg :=
  { tbl := s.get R.MOT_AXa_HOME_TBL a, play := play, ent := s.get R.MOT_AXa_HOME_ENT a, keep := keep, term := term,
    inp := s.get R.MOT_AXa_HOME_IN a, edge := edge, latch := latch, opd := opd, fixed := none, upTo := none }

/-- Step 1: back off until the input qualifies inactive, then further steps, then at rest (R258). -/
def homeBackoff (s : State) (a : Nat) : State :=
  let b := s.get R.MOT_AXa_HOME_BACKOFF a
  let segs := homeSeg s a 0 5 0 true false false :: (if b = 0 then [] else [homeSeg s a 1 1 b false false true]) ++
    [homeSeg s a 2 0 0 false false false]
  beginMove s a (moveOf s { what := .home 1, neg := !(s.bit R.MOT_AXa_HOME_DIR a), velocity := false, budget := none, segs := segs })

/-- Steps 2 and 3: approach to the input, with latch, then at rest (R258). -/
def homeApproach (s : State) (a : Nat) : State :=
  beginMove s a (moveOf s { what := .home 2, neg := s.bit R.MOT_AXa_HOME_DIR a, velocity := false, budget := none,
                            segs := [homeSeg s a 0 5 0 false true false, homeSeg s a 2 0 0 false false false] })

/-- Step 4: the position is set from the latch, and the input disarmed (R258, R259). -/
def homeDone (s : State) (a : Nat) : State :=
  let latch := ofTwos 48 (s.get64 R.MOT_AXa_LATCH_LO R.MOT_AXa_LATCH_HI a)
  let home := ofTwos 48 (s.get64 R.MOT_AXa_HOME_POS_LO R.MOT_AXa_HOME_POS_HI a)
  let s1 := posShift s a (home - latch)
  (((s1.set R.MOT_AXa_STAT_HOMED 1 a).set R.MOT_AXa_STAT_PHASE_LOST 0 a).modAxis a (fun x => { x with
    disarmed := some (s.get R.MOT_AXa_HOME_IN a) })).raise (pgAXIS a) 1

/-- HOME_FAULT (R260): cause, input concerned. -/
def homeFault (s : State) (a cause inp : Nat) : State :=
  match (s.axis a).move with
  | none => s
  | some m =>
    let s1 := setMove s a (some { m with what := .host })
    let s2 := ((s1.set R.MOT_AXa_STAT_HOME_FAULT 1 a).set R.MOT_AXa_STAT_HOMED 0 a).raise (pgAXIS a) 2
    let s3 := s2.err (pgAXIS a) 0x520 (cause + (if inp < 8 then inp * 256 else 0))
    let s4 := if cause < 3 ∧ s.bit R.MOT_AXa_LIM_STOP a then stopOwn s3 a else haltAxis s3 a
    rollerEvent s4 a 1 (0x10 + cause) inp

def homing (s : State) (a : Nat) : Bool :=
  match (s.axis a).move with
  | some m => match m.what with | .home _ => true | .host => false | .advFast => false | .advCreep => false
  | none => false

/-! ## Creep and landing (R271 to R274) -/

/-- Round half up of n / d. -/
def roundUp (n : Int) (d : Nat) : Int := (2 * n + d) / (2 * d : Nat)

/-- What Roller decides before a creep step: the advance as it stands then, and whether the feed stops (R272, R273). -/
def creepCheck (s : State) (a : Adv) (made : Nat) (begin_ : Bool) : Adv × Bool :=
  let (src, conf) := match s.rol.last with | some (_, _, sr, c) => (sr, c) | none => (fbCode s, 0)
  let a1 := { a with cMin := min a.cMin conf }
  let fallNow := a1.left.isNone && (src != 0 || (begin_ && !(s.bit R.TRK_STAT_PRIMED)))
  let a2 := if fallNow then
      let cA := s.trk.aCnt.getD (countNow s)
      { a1 with left := some ((if a.s16 = 0 then 0 else roundUp ((a.target - s.trk.aPos) * 65536) a.s16) - (countNow s - cA)) }
    else a1
  let lim := if a.s16 = 0 then 0 else roundUp (((a.req.creep + s.get R.MOT_ADV_OVER_NM : Nat) : Int) * 65536) a.s16
  let stop := match a2.left with
    | some l => decide (l ≤ 0)
    | none => decide (2 * a.target * 65536 - a.s16 ≤ 2 * predict16 s)
  if stop then (a2, true) else if lim ≤ made then ({ a2 with overrun := true }, true) else (a2, false)

/-- EXIT follows FEED in group 0 where MOT_CTRL_ADV_EXIT says so (R271). -/
def advExit (s : State) : Bool := s.bit R.MOT_CTRL_ADV_EXIT && Variant.hasAxis s.variant 1

def withExit (s : State) (m : Move) : Move :=
  let den := s.get R.MOT_GRPg_DDA_DEN 0 0
  if advExit s then { m with followers := [(1, den / 2)], den := den, nums := [(1, s.get R.MOT_AXa_DDA_NUM 1)] } else m

/-- The feed is at rest on the target: settling begins (R274). -/
def creepEnd (s : State) (a : Adv) (made : Nat) : State :=
  (clearMove s 0).modRol (fun r => { r with run := some { a with creep := made, phase := 2 } })

/-- ADV_CREEP_BEGIN (R272). -/
def creepBegin (s : State) (a : Adv) : State :=
  let r := creepCheck s a 0 true
  let a1 : Adv := { r.1 with phase := 1 }
  let s1 := s.modRol (fun x => { x with run := some a1 })
  if r.2 then creepEnd s1 a1 0
  else
    let t := rampEnts s.rol.ramps (s.get R.MOT_ADV_DEC_TBL)
    match (s1.axis 0).move with
    | some m => setMove s1 0 (some { m with
        what := .advCreep, budget := none, segs := [], play := none, steps := 0, at_ := some (rampAt (rampEnts m.tabs m.commit) 0).1 })
    | none =>
      let m := moveOf s1 { what := .advCreep, neg := false, velocity := false, budget := none, segs := [] }
      beginMove s1 0 (withExit s1 { m with at_ := some (rampAt t 0).1, used := [s.get R.MOT_ADV_DEC_TBL] })

/-- The natural end of a move: what it was part of goes on (R258, R271). The fast phase of an advance is a positioning move and raises MOVE_DONE at
its end; its creep raises it again (log 107). A fast phase or a creep that was stopped has no more steps after it (log 25). -/
def moveEnds (s : State) (a : Nat) (m : Move) : State :=
  match m.what with
  | .advFast =>
    match s.rol.run with
    | some adv =>
      let adv1 : Adv := { adv with fast := m.steps, clipped := m.clip }
      if m.stopping then creepEnd s adv1 0
      else creepBegin ((s.raise (pgAXIS a) 0).each m.followers (fun t f => t.raise (pgAXIS f.1) 0)) adv1
    | none => clearMove s a
  | .advCreep =>
    match s.rol.run with
    | some adv => creepEnd s adv m.steps
    | none => clearMove s a
  | .home n =>
    let s1 := clearMove s a
    if n = 1 then homeApproach s1 a else homeDone s1 a
  | .host => clearMove s a

/-! ## One step (R239, R245, R247, R248, R250) -/

/-- Interval and mark of the next step, and how play stands after it (R245). -/
def Play.emit (p : Play) : Nat × Bool × Play :=
  if p.kind = 1 then (p.hold, false, { p with done := p.above, above := false })
  else
    let e := rampAt p.tbl p.j
    let mk := p.first && e.2.2
    if 1 < p.left then (e.1, mk, { p with left := p.left - 1, first := false })
    else if p.j = p.stop ∨ (p.kind = 2 ∧ p.j = 0) ∨ (p.kind = 0 ∧ p.tbl.length ≤ p.j + 1) then
      (e.1, mk, { p with kind := 1, hold := e.1, done := true })
    else
      let j := if p.kind = 0 then p.j + 1 else p.j - 1
      (e.1, mk, { p with j := j, left := (rampAt p.tbl j).2.1 + 1, first := true })

/-- Enter a segment at its entry point (R245, R246). -/
def playSeg (m : Move) (g : RSeg) : Play :=
  let t := rampEnts m.tabs g.tbl
  let holdAt (i : Nat) (above : Bool) : Play :=
    { kind := 1, tbl := t, j := 0, left := 0, stop := 0, hold := i, first := false, above := above, done := false }
  if g.play = 0 then
    let j := entryUp t m.at_
    let e := min g.ent (t.length - 1)
    if e < j then holdAt (m.at_.getD (rampAt t e).1) true
    else { kind := 0, tbl := t, j := j, left := (rampAt t j).2.1 + 1, stop := e, hold := 0, first := true, above := false, done := false }
  else if g.play = 1 then
    match g.fixed with
    | some i => holdAt i false
    | none => if g.keep then holdAt (m.at_.getD 0) false else holdAt (rampAt t (min g.ent (t.length - 1))).1 false
  else
    let j := entryDown t m.at_
    let stop := match g.upTo with
      | none => 0
      | some v => (((List.range (j + 1)).filter (fun i => decide (v ≤ (rampAt t i).1))).getLast?).getD 0
    playDown t m.at_ stop

/-- A CRUISE that holds an interval until the next selection (R250). -/
def holdSeg (i : Option Nat) : RSeg :=
  { tbl := 0, play := 1, ent := 0, keep := i.isNone, term := 6, inp := 0, edge := false, latch := false, opd := 0, fixed := i, upTo := none }

/-- The segments that a selection inserts (R250). -/
def selSegs (s : State) (a : Nat) (m : Move) (t e : Nat) : List RSeg :=
  let tb := rampEnts m.tabs t
  let want := (rampAt tb (min e (tb.length - 1))).1
  let up := match m.at_ with | none => true | some c => decide (want < c)
  [if up then { stopSeg t with play := 0, ent := e }
   else { stopSeg (s.get R.MOT_AXa_STOP_TBL a) with upTo := some want },
   holdSeg (some want)]

/-- A segment boundary: the next segment, or those a selection inserts (R247, R250). The answer is none when the list has run out. -/
def nextSeg (s : State) (a : Nat) (m : Move) : Option Move :=
  let fresh (m : Move) : Move :=
    { m with play := none, segSteps := 0, enc0 := [encCount s 0, encCount s 1], p0 := predict16 s, hit := false }
  match m.sel with
  | some (t, e) =>
    let gs := selSegs s a m t e
    some (fresh { m with sel := none, segs := gs, idx := 0, used := (gs.filter RSeg.needsTable).map (·.tbl) ++ m.used })
  | none =>
    if m.idx + 1 < m.segs.length then some (fresh { m with idx := m.idx + 1 })
    else if m.velocity && !m.stopping then some (fresh { m with segs := [holdSeg none], idx := 0 })
    else none

/-- The running segment's termination holds after a step (R247). -/
def termHolds (s : State) (m : Move) (g : RSeg) (done : Bool) : Bool :=
  let d : Int := if m.neg then -1 else 1
  match g.term with
  | 0 => done
  | 1 => decide (g.opd ≤ m.segSteps)
  | 2 => decide (g.opd ≤ d * (encCount s 0 - m.enc0.getD 0 0))
  | 3 => decide (g.opd ≤ d * (encCount s 1 - m.enc0.getD 1 0))
  | 4 => let x := predict16 s - m.p0
         if 0 ≤ g.opd then decide (g.opd * 65536 ≤ x) else decide (x ≤ g.opd * 65536)
  | 5 => m.hit
  | _ => false

/-- The budget rule before a step: enter the committed deceleration where exactly `r` steps remain (R248). Where a termination leads into that
deceleration at the same step, both hold (R280). -/
def budgetRule (s : State) (a : Nat) (m : Move) : State × Move :=
  match m.budget with
  | none => (s, m)
  | some r =>
    let t := rampEnts m.tabs m.commit
    let j := entryDown t m.at_
    if m.committed || (m.inLast && m.play.isSome) || !m.budgetDue then (s, m)
    else
      let k := ((List.range (j + 1)).find? (fun i => decide (r ≤ cumSteps t i))).getD j
      let left := r - (cumSteps t k - ((rampAt t k).2.1 + 1))
      let clip := match m.at_ with | some c => decide (c < (rampAt t k).1) | none => false
      let p : Play := { kind := 2, tbl := t, j := k, left := left, stop := 0, hold := 0, first := left = (rampAt t k).2.1 + 1, above := false,
                        done := false }
      let last := m.segs.length - 1
      ((if clip then s.set R.MOT_AXa_STAT_CLIPPED 1 a else s).set R.MOT_AXa_STAT_SEG last a,
       { m with committed := true, play := some p, segs := m.segs.dropLast ++ [stopSeg m.commit], idx := last, segSteps := 0, clip := m.clip || clip })

/-- The followers of a group step with their lead (R253). -/
def followStep (s : State) (m : Move) : State × List (Nat × Nat) :=
  m.followers.foldl (fun r f =>
    let acc := f.2 + smGet 0 m.nums f.1
    if m.den ≤ acc then (posStep r.1 f.1 (smGet false m.dirs f.1), r.2 ++ [(f.1, acc - m.den)]) else (r.1, r.2 ++ [(f.1, acc)])) (s, [])

/-- One step of a host, homing or fast-phase move. -/
def moveStep (s : State) (a : Nat) (m0 : Move) : State :=
  -- a selection ends a CRUISE that holds (R250)
  let m1 := match m0.segs[m0.idx]? with
    | some g => if g.term = 6 && m0.sel.isSome && !m0.stopping then (nextSeg s a m0).getD m0 else m0
    | none => m0
  let b := budgetRule s a m1
  let s1 := b.1
  let m2 := b.2
  match m2.segs[m2.idx]? with
  | none => moveEnds s1 a m2
  | some g =>
    if m2.budget = some 0 then moveEnds s1 a m2
    else
      let p := m2.play.getD (playSeg m2 g)
      let o := p.emit
      let f := followStep s1 m2
      let s2 := posStep (f.1.set R.MOT_AXa_STAT_SEG m2.idx a) a m2.neg
      let s3 := if o.2.1 then s2.raise (pgAXIS a) 7 else s2
      let m3 : Move := { m2 with
        play := some { o.2.2 with done := false }, at_ := some o.1, steps := m2.steps + 1, segSteps := m2.segSteps + 1, followers := f.2
        budget := m2.budget.map (· - 1) }
      let beyond := match m3.what with
        | .home 2 => m3.idx = 0 && !m3.hit && decide (s3.get R.MOT_AXa_HOME_MAX a < m3.segSteps)
        | _ => false
      if beyond then homeFault (setMove s3 a (some m3)) a 2 0xFF
      else if m3.budget = some 0 then moveEnds (setMove s3 a (some m3)) a m3
      else if termHolds s3 m3 g o.2.2.done then
        match nextSeg s3 a m3 with
        | some m4 => setMove s3 a (some m4)
        | none => moveEnds (setMove s3 a (some m3)) a m3
      else setMove s3 a (some m3)

/-- One creep step, or the end of the creep (R272, R273). -/
def creepStep (s : State) (m : Move) : State :=
  match s.rol.run with
  | none => clearMove s 0
  | some a =>
    let r := creepCheck s a m.steps false
    if r.2 then creepEnd s r.1 m.steps
    else
      let f := followStep s m
      let s1 := posStep f.1 0 false
      let left : Option Int := r.1.left.map (· - 1)
      setMove (s1.modRol (fun x => { x with run := some { r.1 with left := left } })) 0 (some { m with steps := m.steps + 1, followers := f.2 })

/-- BALL_FAULT: the readback of a step's edge (R267). -/
def ballCheck (s : State) (a : Nat) (ok : Bool) : State :=
  let n := if ok then 0 else (s.axis a).ballBad + 1
  let s1 := s.modAxis a (fun x => { x with ballBad := n })
  if n < 2 then s1
  else
    let s2 := (haltAxis ((s1.set R.MOT_AXa_STAT_BALL_FAULT 1 a).raise (pgAXIS a) 6) a).modAxis a (fun x => { x with ballBad := 0, rephase := none })
    advFault (rollerEvent s2 a 1 5 0xFF) a

/-- A step of an axis. Of a re-phase: after the last the 1 ms runs (R263). A follower has made its step with its lead, and has it read back (R253,
R267). -/
def axisStep (s : State) (a : Nat) (ballOk : Bool) : State :=
  match (s.axis a).rephase, (s.axis a).move with
  | some (n, neg), _ => if n = 0 then s else ballCheck ((stepPulse s a).modAxis a (fun x => { x with rephase := some (n - 1, neg) })) a ballOk
  | none, none => if (s.axis a).lead.isSome then ballCheck s a ballOk else s
  | none, some m => ballCheck (if m.what = .advCreep ∧ m.stopping = false then creepStep s m else moveStep s a m) a ballOk

/-! ## Host commands (R241, R249 to R253, R263) -/

/-- The host may give the axis the command of code `c` of R282 (0: a selection) in the mode in force: R40 lists the axis, and where advances or the
pacing drive it START and HOME, and of a paced one STOP too, are kept from the host (R40, R241, R285). -/
def hostMay (s : State) (a c : Nat) : Bool :=
  let spare := decide (4 ≤ a)
  if (spare && s.get R.MOT_AXa_SHADOW a != 7) || decide (a ∈ s.rol.primer) then false
  else match s.mode with
    | .idle | .calibrate | .service => true
    | .inspect => decide (2 ≤ a) || (s.bit R.SYS_MODE_CUR_FO && c != 1 && c != 4)
    | .capture => decide (2 ≤ a) || (paced s a && c != 1 && c != 2 && c != 4)

def axErr (s : State) (a code : Nat) : State := s.err (pgAXIS a) code

/-- The code of a refused host command: an axis that Primer moves counts as busy (R241, R422). -/
def refusedCode (s : State) (a : Nat) : Nat := if a ∈ s.rol.primer then 0x513 else 0x510

def axisStart (s : State) (a : Nat) : State :=
  if !(hostMay s a 1) then axErr s a (refusedCode s a)
  else
    let gs := usedSegs s a
    let neg := s.bit R.MOT_AXa_MOVE_DIR a
    match startRefused s a neg gs (listBad s a gs) with
    | some c => axErr s a c
    | none =>
      let bud := if s.bit R.MOT_AXa_MOVE_BUDGET_EN a then some (s.get R.MOT_AXa_BUDGET a) else none
      let m := moveOf s { what := .host, neg := neg, velocity := s.bit R.MOT_AXa_MOVE_VELOCITY a, budget := bud, segs := gs }
      let s1 := beginMove s a m
      if bud = some 0 then clearMove s1 a else s1

def axisStop (s : State) (a : Nat) (tbl : Option Nat) : State :=
  if !(hostMay s a 2) then axErr s a (refusedCode s a)
  else if s.bit R.MOT_AXa_STAT_PHASE_LOST a then axErr s a 0x511
  else if tbl.any (fun t => !(loaded s.rol.ramps t)) then axErr s a 0x517
  else if (s.axis (leadOf s a)).move.isNone then s
  else
    let t := tbl.getD (s.get R.MOT_AXa_STOP_TBL (leadOf s a))
    if !(loaded s.rol.ramps t) && ((s.axis (leadOf s a)).move.any (fun m => m.budget.isNone)) then axErr s a 0x517 else stopMove s a t

/-- HALT by command (R252). -/
def axisHalt (s : State) (a : Nat) : State :=
  if !(hostMay s a 3) then axErr s a (refusedCode s a)
  else if s.bit R.MOT_AXa_STAT_PHASE_LOST a then axErr s a 0x511
  else haltNow s (leadOf s a)

def axisHome (s : State) (a : Nat) : State :=
  let i := s.get R.MOT_AXa_HOME_IN a
  if !(hostMay s a 4) then axErr s a (refusedCode s a)
  else if axisBusy s a then axErr s a 0x513
  else if s.bit R.MOT_AXa_HOME_CFG_ADOPT a then
    let c := max 1 (s.get R.MOT_AXa_USTEP_CYCLE a)
    let d := (((s.get R.MOT_AXa_DRV_HOME_IDX a : Nat) : Int) - axPos s a) % (c : Nat)
    ((posShift s a (if 2 * d ≤ c then d else d - c)).set R.MOT_AXa_STAT_PHASE_LOST 0 a).modAxis a (fun x => { x with disarmed := none })
  else if !(loaded s.rol.ramps (s.get R.MOT_AXa_HOME_TBL a)) then axErr s a 0x517
  else if !(s.bit R.MOT_AXa_EN a) then axErr s a 0x51A
  else if estopActive s then axErr s a 0x51B
  else
    let back := limActive s i
    let neg := if back then !(s.bit R.MOT_AXa_HOME_DIR a) else s.bit R.MOT_AXa_HOME_DIR a
    if limitAhead s a neg (some i) then axErr s a 0x512
    else
      let s1 := s.modAxis a (fun x => { x with disarmed := none })
      if back then homeBackoff s1 a else homeApproach s1 a

def axisRearm (s : State) (a : Nat) : State :=
  if !(hostMay s a 5) then axErr s a (refusedCode s a)
  else if s.bit R.MOT_AXa_STAT_PHASE_LOST a then axErr s a 0x511
  else s.modAxis a (fun x => { x with disarmed := none })

/-- The re-phase begins, from where the driver powers up (R263). -/
def rephaseStart (s : State) (a : Nat) : State :=
  let c := max 1 (s.get R.MOT_AXa_USTEP_CYCLE a)
  let d := ((axPos s a - (s.get R.MOT_AXa_DRV_HOME_IDX a : Nat)) % (c : Nat)).toNat
  let neg := decide (c < 2 * d)
  s.modAxis a (fun x => { x with rephase := some (if neg then c - d else d, neg), dir := neg, due := false })

def axisRephase (s : State) (a : Nat) : State :=
  if !(hostMay s a 6) then axErr s a (refusedCode s a)
  else if axisBusy s a then axErr s a 0x513
  else if s.bit R.MOT_AXa_STAT_PHASE_LOST a then axErr s a 0x511
  else rephaseStart s a

/-- 1 ms after the last re-phase step (R263). -/
def rephaseSettle (s : State) (a : Nat) : State :=
  match (s.axis a).rephase with
  | some (0, _) => ((s.modAxis a (fun x => { x with rephase := none })).set R.MOT_AXa_STAT_DRV_LOST 0 a).raise (pgAXIS a) 4
  | _ => s

def axisSetPos (s : State) (a : Nat) : State :=
  if !(hostMay s a 7) then axErr s a (refusedCode s a)
  else if axisBusy s a then axErr s a 0x513
  else if s.bit R.MOT_AXa_STAT_PHASE_LOST a then axErr s a 0x511
  else posLoad s a (ofTwos 48 (s.get64 R.MOT_AXa_SETPOS_LO R.MOT_AXa_SETPOS_HI a))

/-- A selection of a running velocity move; while a STOP is in progress it is lost (R250, R280). -/
def velSelect (s : State) (a t e : Nat) : State :=
  match (s.axis a).move with
  | none => s
  | some m =>
    if m.stopping then s.inc R.MOT_AXa_SEL_LOST a
    else if !m.velocity then s
    else setMove s a (some { m with sel := some (t, e) })

/-- A write of VEL_SEL (R250, R244). -/
def axisVelSel (s : State) (a v : Nat) : State :=
  let t := bits v 0 6
  let e := bits v 8 10
  if !(hostMay s a 0) then axErr s a (refusedCode s a)
  else if !(loaded s.rol.ramps t) || (s.axis a).move.any (fun m => m.velocity && !(loaded m.tabs t)) then axErr s a 0x517
  else velSelect ((s.set R.MOT_AXa_VEL_SEL_TBL t a).set R.MOT_AXa_VEL_SEL_ENT e a) a t e

/-- MOT_GRP_START (R253). -/
def groupStart (s : State) (g : Nat) : State :=
  let l := s.get R.MOT_GRPg_LEAD 0 g
  let fs := (maskList (s.get R.MOT_GRPg_MEMBERS 0 g) 6).filter (fun f => f != l && Variant.hasAxis s.variant f)
  if 5 < l || !(Variant.hasAxis s.variant l) then s
  else if !((l :: fs).all (fun a => hostMay s a 1)) then axErr s l (refusedCode s l)
  else
    let gs := usedSegs s l
    let neg := s.bit R.MOT_AXa_MOVE_DIR l
    match startRefused s l neg gs (listBad s l gs) with
    | some c => axErr s l c
    | none =>
      match fs.findSome? (fun f => startRefused s f (s.bit R.MOT_AXa_MOVE_DIR f) [] false) with
      | some c => axErr s l c
      | none =>
        let pos := s.bit R.MOT_AXa_MOVE_BUDGET_EN l
        let s1 := if pos then (s.set R.MOT_GRPg_DDA_DEN (s.get R.MOT_AXa_BUDGET l) 0 g).each fs (fun t f =>
            t.set R.MOT_AXa_DDA_NUM (t.get R.MOT_AXa_BUDGET f) f) else s
        let den := s1.get R.MOT_GRPg_DDA_DEN 0 g
        let m := moveOf s1 { what := .host, neg := neg, velocity := s.bit R.MOT_AXa_MOVE_VELOCITY l
                             budget := if pos then some (s.get R.MOT_AXa_BUDGET l) else none, segs := gs }
        let s2 := beginMove s1 l { m with
          followers := fs.map (fun f => (f, den / 2)), den := den, nums := fs.map (fun f => (f, s1.get R.MOT_AXa_DDA_NUM f)) }
        if m.budget = some 0 then clearMove s2 l else s2

/-! ## Encoders and limit inputs (R255 to R257, R260) -/

/-- Place of a quadrature state in the cycle 00, 10, 11, 01 (log 26: A before B counts up). -/
def quadPhase (a b : Bool) : Nat := match a, b with | false, false => 0 | true, false => 1 | true, true => 2 | false, true => 3

/-- A filtered edge on ENCe_A or ENCe_B (R255). -/
def encEdge (s : State) (e : Nat) (a b : Bool) : State :=
  let old := smGet (false, false) s.rol.encLev e
  let s1 := s.modRol (fun r => { r with encLev := smPut r.encLev e (a, b) })
  let d := (quadPhase a b + 4 - quadPhase old.1 old.2) % 4
  if d = 0 then s1
  else if d = 2 then s1.inc (if e = 0 then R.MOT_ENC0_ERR else R.MOT_ENC1_ERR)
  else
    let up := (d == 1) != s.bit R.MOT_ENCe_INV 0 e
    s1.set64 R.MOT_ENCe_CNT_LO R.MOT_ENCe_CNT_HI (toTwos 48 (encCount s e + (if up then 1 else -1))) 0 e

def State.lim (s : State) (i : Nat) : LimIn := smGet LimIn.init s.rol.lims i

def State.modLim (s : State) (i : Nat) (f : LimIn → LimIn) : State := s.modRol (fun r => { r with lims := smMod LimIn.init r.lims i f })

/-- The axis after whose homing an input is disarmed (R259). -/
def disarmedBy (s : State) (i : Nat) : Option Nat := (List.range 6).find? (fun a => (s.axis a).disarmed = some i)

/-- An input serves INPUT terminations, and their latches: the position is that of the input's axis, or of the moving one where the input has
none (R247, R256; log 123). -/
def inputHits (s : State) (i : Nat) (act : Bool) (latch : Option (List Int × List Nat)) : State :=
  s.each (List.range 6) (fun t a =>
    match (t.axis a).move with
    | none => t
    | some m => match m.segs[m.idx]? with
      | none => t
      | some g =>
        if g.term = 5 && g.inp = i && act != g.edge && !m.hit then
          let t1 := setMove t a (some { m with hit := true })
          match g.latch, latch with
          | true, some l =>
            let b := let x := t.get R.MOT_LIMi_AXIS 0 i; if x ≤ 5 then x else a
            (t1.set64 R.MOT_AXa_LATCH_LO R.MOT_AXa_LATCH_HI (toTwos 48 (l.1.getD b 0)) a).set R.MOT_AXa_LATCH_FRAC (l.2.getD b 0) a
          | _, _ => t1
        else t)

/-- Direction in which an axis, or the group's member, moves; none at rest. -/
def movingNeg (s : State) (a : Nat) : Option Bool :=
  match (s.axis a).move, (s.axis a).lead with
  | some m, _ => some m.neg
  | none, some l => (s.axis l).move.map (fun m => smGet false m.dirs a)
  | none, none => none

/-- LIM_POS or LIM_NEG qualifies active (R257, R260). -/
def limitTrip (s : State) (i role : Nat) : State :=
  let a := s.get R.MOT_LIMi_AXIS 0 i
  if 5 < a || !(Variant.hasAxis s.variant a) then s
  else if homing s a then (if s.get R.MOT_AXa_HOME_IN a = i then s else homeFault (s.raise pgMOT 3) a 1 i)
  else
    let s1 := s.raise pgMOT 3
    let toward := movingNeg s a = some (role == 3)
    let s2 := if toward then (if s.bit R.MOT_AXa_LIM_STOP a then stopOwn s1 a else haltAxis s1 a) else s1
    let s3 := rollerEvent s2 a 1 (role - 1) i
    if toward then advFault s3 a else s3

/-- ESTOP (R257, R260). -/
def estop (s : State) (i : Nat) : State :=
  let s1 := (s.set R.MOT_STAT_ESTOP 1).raise pgMOT 4
  let s2 := s1.each (List.range 6) (fun t a => if homing t a then homeFault t a 4 i else haltAxis t a)
  let s3 := s2.each (List.range 6) (fun t a => t.modAxis a (fun x => { x with rephase := none }))
  let s4 := rollerEvent s3 0xFF 1 3 i
  advFault s4 0

/-- An input qualifies at a level (R256, R257). -/
def limQualify (s : State) (i : Nat) (level : Bool) : State :=
  let l := s.lim i
  if l.raw != level || (disarmedBy s i).isSome then s
  else if l.qual == level then s.modLim i (fun x => { x with latch := none })
  else
    let act := level != s.bit R.MOT_LIMi_POL 0 i
    let s1 := (s.modLim i (fun x => { x with qual := level, latch := none })).set R.MOT_LIM_QUAL (setBit (s.get R.MOT_LIM_QUAL) i act)
    let s2 := inputHits (if act then s1.set R.MOT_LIM_TRIP (setBit (s1.get R.MOT_LIM_TRIP) i true) else s1) i act l.latch
    if !act then s2
    else match s.get R.MOT_LIMi_ROLE 0 i with
      | 2 => limitTrip s2 i 2
      | 3 => limitTrip s2 i 3
      | 4 => estop s2 i
      | _ => s2

/-- A raw transition of a limit input (R256, R259). -/
def limRaw (s : State) (i : Nat) (level : Bool) (frac : Nat) : State :=
  let l := s.lim i
  let s1 := (s.modLim i (fun x => { x with raw := level })).set R.MOT_LIM_RAW (setBit (s.get R.MOT_LIM_RAW) i level)
  if l.raw == level then s1
  else match disarmedBy s i with
    | some a => s1.inc R.MOT_AXa_CHATTER a
    | none =>
      let s2 := if level != l.qual && l.latch.isNone then
          s1.modLim i (fun x => { x with
            latch := some ((List.range 6).map (axPos s), (List.range 6).map (fun a => if (movingNeg s a).isSome then frac else 0)) })
        else s1
      if s.get R.MOT_LIMi_DEB 0 i = 0 then limQualify s2 i level else s2

/-- The levels of the limit inputs show again after a reset, and their activity follows a polarity that comes into force (R281). -/
def limRefresh (s : State) : State :=
  (s.set R.MOT_LIM_RAW (sumN ((List.range 8).map (fun i => if (s.lim i).raw then 2 ^ i else 0)))).set R.MOT_LIM_QUAL (sumN ((List.range 8).map (fun i => if (s.lim i).qual != s.bit R.MOT_LIMi_POL 0 i then 2 ^ i else 0)))

/-! ## Drivers (R262 to R265) -/

/-- Two consecutive samples of MOT_FLTa_L low set DRV_LOST (R262). -/
def drvSample (s : State) (a : Nat) (low : Bool) : State :=
  let s1 := s.modAxis a (fun x => { x with aonLow := low })
  if low && (s.axis a).aonLow && !(s.bit R.MOT_AXa_STAT_DRV_LOST a) then
    (s1.set R.MOT_AXa_STAT_DRV_LOST 1 a).modAxis a (fun x => { x with due := true })
  else s1

/-- MOT_FLTa_L qualifies low: a re-phase is abandoned until the driver returns, and a move or an advance ends (R265, R260, R274, R280). -/
def drvFault (s : State) (a : Nat) : State :=
  let s1 := s.modAxis a (fun x => { x with flt := true, due := x.due || x.rephase.isSome, rephase := none })
  if (movingNeg s a).isNone then (if a ≤ 1 ∧ s.rol.run.isSome then advAbort s1 true else s1)
  else
    let s2 := (s1.set R.MOT_AXa_STAT_DRV_FAULT 1 a).raise (pgAXIS a) 3
    if homing s a then homeFault s2 a 3 0xFF
    else advFault (rollerEvent (haltAxis s2 a) a 1 4 0xFF) a

/-- MOT_FLTa_L qualifies high (R263). -/
def drvReturn (s : State) (a : Nat) : State := s.modAxis a (fun x => { x with flt := false, due := x.due || s.bit R.MOT_AXa_STAT_DRV_LOST a })

/-- A re-phase that is due begins once the driver is there and the axis at rest (R263, R280). -/
def rephaseDue (s : State) : State :=
  if s.pwr.boot = .done then
    s.each ((List.range 6).filter (Variant.hasAxis s.variant)) (fun t a =>
      if (t.axis a).due && !((t.axis a).flt) && !(axisBusy t a) then rephaseStart t a else t)
  else s

/-! ## Spare generators (R266) -/

/-- The generator that drives axis `a`: its own, or the spare that took over (R266, R463). -/
def genActive (s : State) (a : Nat) : Nat :=
  if s.bit R.MOT_AXa_STAT_SPARED a then (shadowOf s a).getD a else a

/-- The good generator that runs in lockstep with the active one: the spare, or, where the spare drives the axis, the axis's own generator once it
has passed its retest (R266, R463; log 124). -/
def genShadow (s : State) (a : Nat) : Option Nat :=
  if s.bit R.MOT_AXa_STAT_SPARED a then (if genActive s a ≠ a ∧ (s.axis a).genBad = false then some a else none)
  else (shadowOf s a).filter (fun g => !((s.axis g).genBad) && !(s.bit R.MOT_AXa_STAT_SUBSTITUTING g))

/-- The balls of axis `a` take the output of generator `g` (R266). -/
def genTakes (s : State) (a g : Nat) : State :=
  let old := genActive s a
  let s1 := if g = a then (s.set R.MOT_AXa_STAT_SPARED 0 a).set R.MOT_AXa_STAT_SUBSTITUTING 0 old
    else (s.set R.MOT_AXa_STAT_SPARED 1 a).set R.MOT_AXa_STAT_SUBSTITUTING 1 g
  rollerEvent ((s1.modAxis old (fun x => { x with genBad := true })).raise (pgAXIS a) 5) a 2 g 0xFF

/-- GEN_SWAP, or GEN_FAULT, which halts the axis: R274 and R303 name it neither for an advance nor for the pacing (R254, R266; log 25). -/
def genReport (s : State) (a : Nat) (r : GenReport) : State :=
  let shadow := genShadow s a
  let fault : State :=
    let s1 := (s.set R.MOT_AXa_STAT_GEN_FAULT 1 a).modAxis (genActive s a) (fun x => { x with genBad := true })
    rollerEvent (haltNow s1 (leadOf s1 a)) a 1 6 0xFF
  if r.active && !(r.differ && r.shadow) then
    match shadow with
    | some g => genTakes s a g
    | none => fault
  else if r.differ && r.active == r.shadow then fault
  else if r.shadow then match shadow with | some g => s.modAxis g (fun x => { x with genBad := true }) | none => s
  else s

/-! ## Advances (R268 to R274) -/

def advPush (s : State) : State :=
  let creep := s.get R.MOT_ADV_CREEP
  let dec := s.get R.MOT_ADV_DEC_TBL
  if !(feedOwner s) then s.err pgMOT 0x510
  else if 4 ≤ s.rol.queue.length then s.err pgMOT 0x515
  else if creep < 10000 ∨ s.get R.MOT_ADV_LEN = 0 then s.err pgMOT 0x516
  else if !(loaded s.rol.ramps dec) ∨ !(loaded s.rol.ramps (s.get R.MOT_ADV_ACC_TBL)) then s.err pgMOT 0x517
  else if (rampAt (rampEnts s.rol.ramps dec) 0).1 < s.get R.MOT_AXa_SS_INT 0 then s.err pgMOT 0x516
  else if s.get R.MOT_FEED_SCALE = 0 then s.err pgMOT 0x519
  else
    let q : AdvReq := { id := s.get R.MOT_ADV_ID, len := s.get R.MOT_ADV_LEN, creep := creep, deadline := s.get R.MOT_ADV_DEADLINE }
    (s.modRol (fun r => { r with queue := r.queue ++ [q] })).set R.MOT_ADV_QUEUED (s.rol.queue.length + 1)

def advFlush (s : State) : State := (s.modRol (fun r => { r with queue := [] })).set R.MOT_ADV_QUEUED 0

/-- S, nm per FEED microstep in Q16.16 (R271). -/
def advScale (s : State) : Nat :=
  if Variant.hasTrk s.variant && s.get R.TRK_CTRL_FB_SRC = 2 then s.get R.TRK_FB_SCALE else s.get R.MOT_FEED_SCALE

/-- The trigger of the head advance (R269 to R271). -/
def advTrigger (s : State) : State :=
  match s.rol.queue with
  | [] => s
  | q :: l =>
    let trig := s.bit R.MOT_CTRL_ADV_TRIG
    if !(feedOwner s) || s.rol.run.isSome || (trig && !s.rol.swath) || (!trig && axisBusy s 0) then s
    else
      let n := s.rol.advNum + 1
      let pl := match s.rol.last with | some x => x.1 | none => s.trk.p
      let chain := s.bit R.MOT_CTRL_ADV_CHAIN && (match s.rol.prev with | some (_, ab) => !ab | none => false)
      let base := if chain then (match s.rol.prev with | some (t, _) => t | none => pl) else pl
      let s16 := advScale s
      let a : Adv := { advNew q n with
        t0 := s.now, base := base, trim := s.rol.trim, target := base + q.len + s.rol.trim, s16 := s16, unchained := !chain, basePos := pl,
        first := s.rol.prev.isNone }
      let s1 := (((s.modRol (fun r => { r with queue := l, run := some a, advNum := n, swath := if trig then false else r.swath })).set
        R.MOT_ADV_QUEUED l.length).set R.MOT_ADV_RUNNING 1)
      let steps := if s16 = 0 then 0 else roundUp ((a.target - q.creep) * 65536 - predict16 s) s16
      let acc := s.get R.MOT_ADV_ACC_TBL
      let dec := s.get R.MOT_ADV_DEC_TBL
      let segs : List RSeg := [{ stopSeg acc with play := 0, ent := s.get R.MOT_ADV_CRUISE_ENT },
        { holdSeg none with term := 1, opd := 2 ^ 31 - 1 }, stopSeg dec]
      let why := match startRefused s1 0 false (if steps ≤ 0 then [stopSeg dec] else segs) false with
        | some c => some c
        | none => if advExit s then startRefused s1 1 (s.bit R.MOT_AXa_MOVE_DIR 1) [] false else none
      match why with
      | some c => advAbort (axErr s1 0 c) true
      | none =>
        if steps ≤ 0 then creepBegin s1 a
        else
          let m := moveOf s1 { what := .advFast, neg := false, velocity := false, budget := some steps.toNat, segs := segs }
          beginMove s1 0 (withExit s1 m)

/-- The deadline passes before PASS_READY (R274). -/
def advDeadline (s : State) : State :=
  match s.rol.run with
  | none => s
  | some a =>
    if a.req.deadline = 0 ∨ a.late then s
    else ((s.modRol (fun r => { r with run := some { a with late := true } })).inc R.MOT_ADV_LATE_CNT).raise pgMOT 1

/-- The trim Roller latches (R270, R229). -/
def trimLatch (s : State) : State :=
  let t := if Variant.hasIns s.variant && s.bit R.INS_CTRL_TRIM_APPLY && feedOwner s then s.getI R.INS_TRIM_NM else 0
  s.modRol (fun r => { r with trim := t })

/-- PASS_BOUNDARY (R276, R33, R204, R227, R270). -/
def passBoundary (s : State) : State :=
  let s1 := s.shadowsTakeEffect .pass
  trimLatch (insPass (trkPass (s1.set R.MOT_PASS_CNT (s1.get R.MOT_PASS_CNT + 1))))

/-- PASS_READY asserts once the settle time has passed; out of feed-owner INSPECT it does not, and there is no PASS boundary (R274, R276, R277). -/
def advSettle (s : State) : State :=
  match s.rol.run with
  | none => s
  | some a =>
    if a.phase ≠ 2 then s
    else if !(feedOwner s) then (s.modRol (fun r => { r with run := none })).set R.MOT_ADV_RUNNING 0
    else
      let line := s.get R.TIMING_LINE_CNT
      let a1 : Adv := { a with
        fromLine := if s.timing.trk.isNone then line else (line + 1) % 2 ^ 32
        need := s.get R.MOT_ADV_SETTLE_LINES
        us := (s.now - a.t0) / 1000 }
      let s1 := (s.modRol (fun r => { r with
        run := none, collect := r.collect ++ [a1], prev := some (a.target, false), ready := true })).set R.MOT_ADV_RUNNING 0
      passBoundary s1

/-- A delivered line goes to prediction and to the settle lines awaited (R272, R274). -/
def rollerLine (s : State) (line : Nat) (pos : LinePos) (cnt : Int) : State :=
  let add (a : Adv) : Adv :=
    if a.lines.length < a.need ∧ (line + 2 ^ 32 - a.fromLine) % 2 ^ 32 < 2 ^ 31 then { a with lines := a.lines ++ [(pos.p, pos.src)] } else a
  let creeps (a : Adv) : Adv := if a.phase = 1 then { a with cMin := min a.cMin pos.conf } else a
  s.modRol (fun r => { r with last := some (pos.p, cnt, pos.src, pos.conf), collect := r.collect.map add, run := r.run.map creeps })

/-- The ADVANCE record once the settle lines are in (R274). -/
def advRecord (s : State) : State :=
  match s.rol.collect with
  | [] => s
  | a :: l =>
    if a.lines.length < a.need then s
    else
      let got := roundDiv (sumI (a.lines.map (·.1))) a.lines.length
      let err := got - a.target
      let dist := got - (if a.first || a.unchained then a.basePos else s.rol.prevPos.getD a.basePos)
      let fb := a.lines.any (fun x => x.2 != 0)
      let src := (a.lines.map (·.2)).foldl max 0
      let s1 := (s.emit 1 0x07 0x10 (advBytes a a.target got err dist (min a.us (2 ^ 32 - 1)) (advFlags a false fb) src)).modRol (fun r =>
        { r with collect := l, prevPos := some got })
      let s2 := ((s1.setI R.MOT_ADV_LAST_ERR err).inc R.MOT_ADV_CNT).raise pgMOT 0
      if a.left.isSome then (s2.inc R.MOT_ADV_FB_CNT).raise pgMOT 2 else s2

/-! ## Pass handshake (R276 to R279) -/

def passProtocol (s : State) (detail : Nat) : State :=
  rollerEvent ((s.inc R.MOT_PASS_PROTO_ERR).raise pgMOT 5) 0xFF 4 detail 0xFF

/-- A qualified rise of PASS_SYNC_IN (R276, R277, R279). -/
def passRise (s : State) : State :=
  let s1 := s.modRol (fun r => { r with psQual := true, badSwath := false })
  if feedOwner s then
    let bad := if !s.rol.ready then 1 else if s.bit R.MOT_HOLD_OUT then 2 else 0
    let s2 := s1.modRol (fun r => { r with ready := false, badSwath := bad != 0 })
    holdUpdate (if bad = 0 then s2 else passProtocol s2 bad)
  else if s.mode == .inspect then
    holdUpdate (passBoundary (if s.bit R.MOT_HOLD_OUT then passProtocol s1 2 else s1))
  else holdUpdate s1

/-- A qualified fall ends the swath (R269, R278, R280). -/
def passFall (s : State) : State :=
  holdUpdate (s.modRol (fun r => { r with psQual := false, swath := r.swath || (feedOwner s && !r.badSwath), badSwath := false }))

/-! ## Job transitions and SERVICE (R39, R270, R274, R277) -/

/-- IDLE-to-job transition: numbering starts afresh, and PASS_READY asserts in feed-owner INSPECT. -/
def rollerJobStart (s : State) : State :=
  let s1 := s.modRol (fun r => { r with
    queue := [], run := none, collect := [], advNum := 0, prev := none, prevPos := none, last := none, swath := false, badSwath := false,
    ready := feedOwner s })
  holdUpdate (trimLatch (((s1.set R.MOT_PASS_CNT 0).set R.MOT_ADV_QUEUED 0).set R.MOT_ADV_RUNNING 0))

/-- Leaving INSPECT or CAPTURE: PASS_READY deasserts (R277). -/
def rollerJobEnd (s : State) : State := holdUpdate (s.modRol (fun r => { r with ready := false, queue := [], swath := false }))

/-- SERVICE entry: moves stop, the advance aborts (R39, R251, R274). -/
def rollerService (s : State) : State :=
  let s1 := advAbort s false
  s1.each (List.range 6) (fun t a => if (t.axis a).move.isSome then stopOwn t a else t)

/-- Every axis is at rest. -/
def allAtRest (s : State) : Bool := (List.range 6).all (fun a => (s.axis a).move.isNone)

end Sys2Proof.Machine
end

