-- ==== Sys2Proof/Machine/Cap.lean ====
section
/-! DEFINITION. Capture (R285 to R313): the speed ladder and its checks, pages, the formatter, rung changes, watermarks, pause, back-up and
return, illumination in a pause, host stalls, and the dropping and reserve of INSPECT. -/
namespace Sys2Proof.Machine
open Sys2Proof

def State.modCap (s : State) (f : Cap → Cap) : State := { s with cap := f s.cap }

/-! ## The speed ladder (R293 to R295) -/

structure Rung where
  period : Nat
  avg : Nat
  tbl : Nat
  ent : Nat
  num : Nat
deriving DecidableEq, Repr

def rungOf (b : List (BitVec 8)) (r : Nat) : Rung :=
  let o := 0x10 + 16 * r
  { period := leAt b o 2, avg := leAt b (o + 2) 1, tbl := leAt b (o + 3) 1, ent := leAt b (o + 4) 2, num := leAt b (o + 8) 4 }

def ladderRungs (b : List (BitVec 8)) : List Rung := (List.range (leAt b 0 1)).map (rungOf b)

/-- The rungs of the ladder in force. -/
def rungs (s : State) : List Rung := match s.cap.ladder with | some b => ladderRungs b | none => []

def rungAt (s : State) (r : Nat) : Rung := (rungs s).getD r { period := 1024, avg := 1, tbl := 0, ent := 0, num := 0 }

/-- Checks of a ladder image as it comes into force: ERR_CODE and rung (R294). -/
def ladderCheck (b : List (BitVec 8)) : Option (Nat × Nat) :=
  let n := leAt b 0 1
  let len := if bitOf (leAt b 1 1) 0 then 41104 else 144
  let bad (r : Nat) : Bool :=
    let g := rungOf b r
    let o := 0x10 + 16 * r
    decide (g.period < 1024) || decide (g.avg < 1) || decide (64 < g.avg) || decide (63 < g.tbl) || decide (1023 < g.ent) ||
      leAt b (o + 6) 2 != 0 || leAt b (o + 12) 4 != 0
  if b.length ≠ len ∨ n < 1 ∨ 8 < n ∨ 1 < leAt b 1 1 ∨ leAt b 2 14 ≠ 0 then some (0x601, 0)
  else match (List.range n).find? bad with
    | some r => some (0x601, r)
    | none =>
      ((List.range (n - 1)).find? (fun r =>
        decide ((rungOf b r).period * (rungOf b r).avg ≤ (rungOf b (r + 1)).period * (rungOf b (r + 1)).avg))).map
        (fun r => (0x602, r + 1))

/-- A staged ladder image comes into force at IDLE, or is rejected (R30, R294). -/
def ladderSwap (s : State) (b : List (BitVec 8)) : State :=
  match ladderCheck b with
  | some (c, r) => s.err pgCAP c r
  | none => s.modCap (fun x => { x with ladder := some b })

/-- The checks of R294 at a request for CAPTURE: ERR_CODE and rung of the first failure. -/
def captureCheck (s : State) : Option (Nat × Nat) :=
  let rs := rungs s
  let idx := List.range rs.length
  let live := bankPeriod (liveSlots s)
  let fpix := s.get R.TIMING_PCLK_KHZ * 1000
  let pitch := s.get R.TIMING_FLOAT_PITCH
  let ents (g : Rung) : List (Nat × Nat × Bool) := rampEnts s.rol.ramps g.tbl
  if rs = [] then some (0x606, 0)
  else match idx.find? (fun r => decide ((rungAt s r).period < live)) with
    | some r => some (0x603, r)
    | none => match idx.find? (fun r => decide ((ents (rungAt s r)).length ≤ (rungAt s r).ent)) with
      | some r => some (0x605, r)
      | none => match idx.find? (fun r =>
          let g := rungAt s r
          let d := g.period * 100000000 * s.get R.MOT_FEED_SCALE * 3 * g.avg
          let t := pitch * 63500 * fpix * (rampAt (ents g) g.ent).1 * 65536
          decide (t < 20 * ((d - t) + (t - d)))) with
        | some r => some (0x604, r)
        | none =>
          if s.bit R.CAP_CTRL_PAGE_MODE ∧ s.get R.PLUMB_CTRL_MODE ≠ 1 then some (0x607, 0)
          else if !(Variant.hasTrk s.variant) &&
              (match s.get R.MOT_CTRL_POS_SRC with
               | 0 => s.get R.MOT_ENCe_SCALE 0 0 = 0
               | 1 => s.get R.MOT_ENCe_SCALE 0 1 = 0
               | _ => s.get R.MOT_FEED_SCALE = 0) then some (0x608, 0)
          else none

/-- Width of the capture area as it stands (R288). -/
def areaWidth (s : State) : Nat :=
  if s.get R.CAP_WIDTH = 0 then s.get R.SCRIM_OUT_PIXELS - s.get R.CAP_X0 else s.get R.CAP_WIDTH

def binnedWidth (s : State) (area : Nat) : Nat := area / max 1 (s.get R.CAP_BIN_X)

/-- Row codes that an output line holds now and that are sent (R288). -/
def sentRoles (s : State) : List Nat :=
  [0, 1, 2, 3, 4].filter (fun r => bitOf (s.get R.CAP_CTRL_ROWS) r &&
    (contribs s).any (fun k => (s.slice k).entry.any (fun e => (segRow? e r).isSome)))

def pad64 (n : Nat) : Nat := 64 * ceilDiv n 64

/-- Length of a line record: formatted, or raw (R289, R291). -/
def lineRecBytes (s : State) (area : Nat) : Nat :=
  let n := (sentRoles s).length
  if s.bit R.CAP_CTRL_RAW then
    let w := s.get R.SCRIM_OUT_PIXELS
    64 + n * pad64 (2 * w + blocksOf w)
  else
    let w := binnedWidth s area
    64 + n * pad64 ((if s.bit R.CAP_CTRL_PACK8 then w else 2 * w) + blocksOf w)

/-! ## Events and pages (R286, R287, R313) -/

/-- The last output line that has left Scrim, 0 before the first. -/
def lastOline (s : State) : Nat := s.flt.scrimNext - 1

/-- R39: the last output line committed to Hod: in CAPTURE the last line record that is committed or that its producer holds ready,
step 3's way to its commit; elsewhere, where no line has a record of its own, the last line that left Scrim (log 125). -/
def lineCommitted (s : State) : Option Nat :=
  if s.mode = .capture then
    ((s.outbox.filter (fun o => decide (o.cls = 3) && decide (o.prod = 8))).filterMap (·.item)).foldl (fun m n => some (max n (m.getD 0))) s.hod.line
  else if s.flt.scrimNext = 0 then none else some (lastOline s)

/-- The class 0 event of this block (R313). -/
def capEvent (s : State) (code value : Nat) : State :=
  s.emit 0 0x08 0x01 (leBytes 1 code ++ leBytes 1 (s.get R.CAP_STATE) ++ leBytes 2 0 ++
    leBytes 4 (match s.cap.page with | some p => p.num | none => 0) ++ leBytes 8 (lastOline s) ++ leBytes 4 value ++ leBytes 12 0)

/-- CAP_PAUSE_CAUSE bits. -/
def causeWM := 0
def causeHOST := 1
def causeLAP := 2
def causeFAULT := 3

def capCauses (s : State) : Nat := s.get R.CAP_PAUSE_CAUSE

def capCauseSet (s : State) (bit : Nat) (b : Bool) : State := s.set R.CAP_PAUSE_CAUSE (setBit (capCauses s) bit b)

def capState (s : State) (n : Nat) : State := s.set R.CAP_STATE n

/-- Lines are moved over: RUN or RETURN. -/
def capMoves (s : State) : Bool := s.get R.CAP_STATE = 0 || s.get R.CAP_STATE = 6

/-- A pause counts, in CAP_PAUSE_CNT and in the open page (R287). -/
def capCountPause (s : State) : State :=
  (s.inc R.CAP_PAUSE_CNT).modCap (fun c => { c with stallSent := false, page := c.page.map (fun p => { p with pauses := p.pauses + 1 }) })

/-- A pause is entered, or joined (R303, R311). -/
def capPause (s : State) (bit : Nat) : State :=
  let s1 := capCauseSet s bit true
  if !(capMoves s1) then s1
  else
    let s2 := (capCountPause s1).modCap (fun c => { c with want := none, pend := none })
    stopOwn (capState s2 1) 0

/-! ## The formatter (R288 to R292) -/

/-- LUT of row code r, in the form of R211 step 2. -/
def ladderLut (b : List (BitVec 8)) (r v : Nat) : Nat :=
  let at_ (e : Nat) : Int := leAt b (0x90 + 8192 * r + 2 * e) 2
  let e := v / 16
  let l0 := at_ e
  let l1 := if e = 4095 then l0 else at_ (e + 1)
  (l0 + ((l1 - l0) * (v % 16 : Nat) + 8) / 16).toNat

def lutMap (s : State) (role v : Nat) : Nat :=
  match s.cap.ladder with
  | some b => if s.bit R.CAP_CTRL_LUT_EN && bitOf (leAt b 1 1) 0 then ladderLut b role v else v
  | none => v

def pack8 (v : Nat) : Nat := min 255 ((v + 128) / 256)

/-- Values of `n` pixels from output pixel `a`, of those inside the line and in blocks not INVALID. -/
def areaValues (d : RowData) (a n : Nat) : List Nat :=
  let p := (d.px.drop a).take n
  (p.zip (List.range p.length)).filterMap (fun (x : Nat × Nat) =>
    if bitOf (d.flags.getD ((a + x.2) / 256) 1) 0 then none else some x.1)

/-- Mean of values, rounded as R289 lays down. -/
def meanUp (l : List Nat) : Nat := (sumN l + l.length / 2) / l.length

/-- One formatted row: bytes of its pixels and flag blocks, padded (R289 to R291). -/
def capFmtRow (s : State) (d : RowData) : List (BitVec 8) :=
  let b := max 1 (s.get R.CAP_BIN_X)
  let x0 := s.get R.CAP_X0
  let wb := binnedWidth s s.cap.area
  let vals := (List.range wb).map (fun (j : Nat) => areaValues d (x0 + j * b) b)
  let px := vals.map (fun (l : List Nat) => lutMap s d.role (if l = [] then 0 else meanUp l))
  let blk (i : Nat) : Nat :=
    if ((vals.drop (256 * i)).take 256).any (fun (l : List Nat) => l.isEmpty) then flINVALID
    else
      let lo := (x0 + 256 * i * b) / 256
      let hi := (min (x0 + min (256 * (i + 1)) wb * b) d.px.length - 1) / 256
      let f := ((d.flags.drop lo).take (hi + 1 - lo)).foldl (fun (a f : Nat) => a ||| f) 0
      let f1 := if bitOf f 0 then f - flINVALID else f
      if bitOf f1 6 then f1 &&& (255 - flRENORM) else f1
  let body := (if s.bit R.CAP_CTRL_PACK8 then px.flatMap (fun v => leBytes 1 (pack8 v)) else px.flatMap (leBytes 2)) ++
    ((List.range (blocksOf wb)).map blk).flatMap (leBytes 1)
  body ++ List.replicate ((64 - body.length % 64) % 64) 0

/-- Rows of a line that are sent (R288). -/
def capRows (s : State) (o : OutLine) : List RowData := o.rows.filter (fun d => bitOf (s.get R.CAP_CTRL_ROWS) d.role)

/-- A formatted line record (R291). -/
def capLineBytes (s : State) (p : CapPage) (idx rung : Nat) (o : OutLine) (flags : Nat) : List (BitVec 8) :=
  let rs := capRows s o
  leBytes 4 p.num ++ leBytes 4 idx ++ leBytes 8 o.n ++ leBytesI 8 o.edge ++ leBytes 8 o.ts ++ leBytes 4 (binnedWidth s s.cap.area) ++
  leBytes 1 (sumN (rs.map (fun d => 2 ^ d.role))) ++ leBytes 1 (o.src % 4 + 4 * b2n (s.bit R.CAP_CTRL_PACK8)) ++ leBytes 1 o.conf ++
  leBytes 1 rung ++ leBytes 2 flags ++ leBytes 22 0 ++ rs.flatMap (capFmtRow s)

/-- The held line goes out, once it is known whether it is its page's last (R289, R291, R306). -/
def capFlush (s : State) (last trunc : Bool) : State :=
  match s.cap.held, s.cap.page with
  | some (o, idx, rung), some p =>
    let re := smFind s.cap.seams o.n
    let s1 := s.modCap (fun c => { c with held := none, seams := smDel c.seams o.n })
    if s.bit R.CAP_CTRL_RAW then s1.emit 3 0x08 0x31 (outLineBytes { o with rows := capRows s o }) (some o.n)
    else
      let fl := o.flags % 128 + 128 * b2n re.isSome + 256 * b2n (re.any (·.1)) + 512 * b2n (p.leadShort && idx == 0) + 1024 * b2n last +
        2048 * b2n (last && trunc)
      s1.emit 3 0x08 0x30 (capLineBytes s p idx rung o fl) (some o.n)
  | _, _ => s.modCap (fun c => { c with held := none })

/-- The latest re-entry of a page is judged (R287). -/
def CapPage.judge (p : CapPage) (reentry : Nat) : CapPage :=
  if !p.re then p
  else if reentry = 0x80000000 then { p with re := false, reUnk := true }
  else { p with re := false, reMax := max p.reMax (ofTwos 32 reentry).natAbs }

/-- A Lap declaration names the page's sheet: the first one awaited, and while that one is still open, the open one (R170, R287). -/
def pageDf (s : State) : Bool :=
  s.bit R.CAP_CTRL_PAGE_MODE && (match s.cap.sheets with
    | h :: _ => h.df || (h.last.isNone && s.plumb.sheet.any (·.declared))
    | [] => false)

/-- The page ends with its last line so far: its record, and the boundary it brings (R287). -/
def capClosePage (s : State) (trunc due : Bool) : State :=
  match s.cap.page with
  | none => s
  | some _ =>
    let s1 := capFlush s true trunc
    match s1.cap.page with
    | none => s1
    | some p0 =>
      let p := p0.judge (s.get R.CAP_REENTRY_NM)
      let df := p.df || pageDf s
      let flags := b2n trunc + 2 * b2n p.leadShort + 4 * b2n df + 8 * b2n p.seamFb
      let body := leBytes 4 p.num ++ leBytes 4 p.count ++ leBytes 8 p.first ++ leBytes 8 p.last ++
        leBytes 2 (min 65535 p.pauses) ++ leBytes 2 flags ++ leBytes 4 (if p.reUnk then 0x80000000 else p.reMax)
      let s2 := (((s1.emit 1 0x08 0x10 body (some p.last)).set R.CAP_STAT_PAGE_OPEN 0).inc R.CAP_PAGE_CNT).raise pgCAP 1
      let s3 := s2.modCap (fun c => { c with page := none, sheets := if s.bit R.CAP_CTRL_PAGE_MODE then c.sheets.drop 1 else c.sheets })
      if !due then s3
      else
        let s4 := { s3 with pageDue := true }
        if s.bit R.CAP_CTRL_STOP_AT_END then capPause s4 causeHOST else s4

/-- Output line `n` opens a page where one is due (R286): LEAD_SHORT or not. -/
def pageOpens (s : State) (n : Nat) : Option Bool :=
  if s.bit R.CAP_CTRL_PAGE_MODE then
    match s.cap.sheets with
    | h :: _ => if h.first ≤ n then some (decide (h.first < n)) else none
    | [] => none
  else if s.cap.arm then some false else none

def capOpenPage (s : State) (n : Nat) (short : Bool) : State :=
  let p : CapPage := { num := s.cap.num + 1, first := n, last := n, count := 0, pauses := 0, leadShort := short, df := false,
                       seamFb := false, reMax := 0, reUnk := false, re := false, prevLines := 0, prev := [] }
  ((s.modCap (fun c => { c with num := c.num + 1, arm := false, page := some p })).set R.CAP_STAT_PAGE_OPEN 1).raise pgCAP 0

/-- P of R292. -/
def prevP (s : State) : Nat := 8 * 2 ^ s.get R.CAP_PREV_BIN

/-- Lowest row code of CAP_CTRL_ROWS. -/
def prevRole (s : State) : Nat := ((List.range 5).find? (bitOf (s.get R.CAP_CTRL_ROWS))).getD 0

/-- A line of the page enters its preview group; a full group goes out (R292). A box with no valid value has none stated (log 8). -/
def capPreview (s : State) (p : CapPage) (o : OutLine) : CapPage × State :=
  if !(s.bit R.CAP_CTRL_PREV_EN) then (p, s)
  else
    let n := prevP s
    let wp := s.cap.area / n
    let row := o.rows.find? (fun d => d.role = prevRole s)
    let old := if p.prevLines = 0 then List.replicate wp (0, 0) else p.prev
    let sums := (old.zip (List.range wp)).map (fun (x : (Nat × Nat) × Nat) =>
      let v := match row with | some d => areaValues d (s.get R.CAP_X0 + x.2 * n) n | none => []
      (x.1.1 + sumN v, x.1.2 + v.length))
    if p.prevLines + 1 < n then ({ p with prevLines := p.prevLines + 1, prev := sums }, s)
    else
      let d := s.draw
      let bytes := sums.flatMap (fun (x : Nat × Nat) =>
        if x.2 = 0 then leBytesI 1 (Config.unstated 18 d.1) else leBytes 1 (pack8 (lutMap s (prevRole s) ((x.1 + x.2 / 2) / x.2))))
      ({ p with prevLines := 0, prev := [] },
       (d.2).emit 2 0x08 0x20 (leBytes 4 p.num ++ leBytes 4 (p.count + 1 - n) ++ leBytes 4 wp ++ leBytes 20 0 ++ bytes))

/-- Sheets whose last line has gone by without a page of theirs. -/
def sheetsLeft (l : List CapSheet) (n : Nat) : List CapSheet :=
  l.dropWhile (fun h => match h.last with | some e => decide (e < n) | none => false)

/-- An output line leaves Scrim for the capture formatter (R286 to R292). -/
def capLine (s0 : State) (o : OutLine) : State :=
  if s0.mode ≠ .capture then s0
  else
    let s := if s0.cap.page.isNone then s0.modCap (fun c => { c with sheets := sheetsLeft c.sheets o.n }) else s0
    let s1 := match s.cap.page, pageOpens s o.n with
      | none, some short => capOpenPage s o.n short
      | _, _ => s
    match s1.cap.page with
    | none => s1
    | some p0 =>
      let df := pageDf s1
      let v := capPreview (capFlush s1 false false) p0 o
      let p : CapPage := { v.1 with last := o.n, count := v.1.count + 1, df := v.1.df || df }
      let s2 := v.2.modCap (fun c => { c with page := some p, held := some (o, v.1.count, c.rung) })
      let long := s.get R.CAP_MAX_LEN_NM != 0 &&
        decide (3 * s.get R.CAP_MAX_LEN_NM ≤ (o.n + 1 - p.first) * s.get R.TIMING_FLOAT_PITCH * 63500)
      let ends := s.bit R.CAP_CTRL_PAGE_MODE && (match s2.cap.sheets with
        | h :: _ => (match h.last with | some e => decide (e ≤ o.n) | none => false)
        | [] => false)
      if long || ends then capClosePage s2 long true else s2

/-- The output line whose bin holds a position, nm. -/
def binAt (s : State) (y : Int) : Nat := (gridU y / binUnits s).toNat

/-- Plumb's sheet logic has taken a capture line: sheets open, are declared and close (R286, R287). -/
def capSheets (s : State) (wasOpen : Bool) : State :=
  let take (t : State) : State := { t with plumb := { t.plumb with ended := none } }
  if s.mode ≠ .capture || !(s.bit R.CAP_CTRL_PAGE_MODE) then take s
  else
    let s1 := match s.plumb.sheet, wasOpen with
      | some sh, false =>
        let lead := minI (sh.cols.filterMap (fun (c : Nat × SheetCol) => c.2.lead))
        let h : CapSheet := { first := binAt s (lead - s.get R.CAP_LEAD_NM), last := none, df := sh.declared }
        s.modCap (fun c => { c with sheets := c.sheets ++ [h] })
      | _, _ => s
    let upd (f : CapSheet → CapSheet) (t : State) : State :=
      t.modCap (fun c => { c with sheets := c.sheets.map (fun h => if h.last.isNone then f h else h) })
    let s2 := match s1.plumb.sheet with
      | some sh => if sh.declared then upd (fun h => { h with df := true }) s1 else s1
      | none => s1
    match s2.plumb.ended with
    | none => s2
    | some (trail, _, df) =>
      let e := max (binAt s (trail + s.get R.CAP_TRAIL_NM)) (lastOline s)
      let s3 := take (upd (fun h => { h with last := some e, df := h.df || df }) s2)
      match s3.cap.page, s3.cap.sheets with
      | some p, h :: _ =>
        if h.last.any (fun x => decide (x ≤ p.last)) then
          capClosePage (s3.modCap (fun c => { c with page := some { p with df := p.df || h.df } })) false true
        else s3
      | _, _ => s3

/-- CAP_CMD PAGE_START and PAGE_END, in host mode (R286). -/
def capPageStart (s : State) : State :=
  if s.mode = .capture && !(s.bit R.CAP_CTRL_PAGE_MODE) && s.cap.page.isNone then s.modCap (fun c => { c with arm := true }) else s

def capPageEnd (s : State) : State :=
  if s.mode = .capture && !(s.bit R.CAP_CTRL_PAGE_MODE) then capClosePage (s.modCap (fun c => { c with arm := false })) false true else s

/-- An IDLE request closes the open page with TRUNCATED (R287). -/
def capIdleRequest (s : State) : State :=
  if s.mode = .capture then capClosePage (s.modCap (fun c => { c with arm := false })) true false else s

/-! ## Rates (R295, R297, R298) -/

/-- CAP_FILL (R297). -/
def capFill (s : State) : Nat := min 256 (256 * hodFill s / (s.get R.CAP_BUF_PAGES * 4096))

/-- D_est (R298), B/s. -/
def drainEst (s : State) : Nat := 4096 * 10 * sumN (s.cap.grants.take 10)

/-- D_est of `d` × CAP_MARGIN / 256 is at least R_r (R295, R299, R304). -/
def drainCarries (s : State) (d r : Nat) : Bool :=
  let g := rungAt s r
  decide (256 * (s.get R.CAP_LINE_BYTES * s.get R.TIMING_PCLK_KHZ * 1000) ≤ d * s.get R.CAP_MARGIN * (g.period * g.avg))

/-- D_est as the latest update left it, which is a whole number of KiB/s (R298). -/
def drainHeld (s : State) : Nat := 1024 * s.get R.CAP_DRAIN_EST

/-- Stream credit units not used (R405). -/
def unusedCredit (s : State) : Nat :=
  if s.get R.TYREX_SESS_ID = 0 then 0 else (s.get R.TYREX_CREDIT_LIMIT + 2 ^ 32 - s.get R.TYREX_SENT_UNITS) % 2 ^ 32

/-- S of R271 in Q16.16 at the moment of use. -/
def capScale (s : State) : Nat := advScale s

def topRung (s : State) : Nat := min ((rungs s).length - 1) (s.get R.CAP_TOP_RUNG)

/-! ## Rung changes (R295, R296) -/

/-- EXIT follows FEED (R285). -/
def capExit (s : State) : Bool := s.bit R.CAP_CTRL_EXIT && Variant.hasAxis s.variant 1

/-- The rung whose PERIOD, A and EXIT numerator are in force. -/
def rungInForce (s : State) (r : Nat) : State :=
  let g := rungAt s r
  let s1 := { s with cap := { s.cap with rung := r }, flt := { s.flt with rungAvg := some g.avg } }
  let s2 := match (s1.axis 0).move with
    | some m => setMove s1 0 (some { m with nums := m.nums.map (fun (x : Nat × Nat) => (x.1, g.num)) })
    | none => s1
  s2.set R.TIMING_LINE_PERIOD g.period

/-- A rung is selected: CAP_RUNG reads it, and the change follows at the next LINE boundary. -/
def capSelect (s : State) (r : Nat) : State :=
  ((s.modCap (fun c => { c with want := some r, since := some s.now })).set R.CAP_RUNG r).raise pgCAP 2

/-- FEED's deceleration segment has ended (R296). -/
def feedSettled (s : State) : Bool :=
  match (s.axis 0).move with
  | none => true
  | some m => m.sel.isNone && (match m.segs[m.idx]? with | some g => g.play = 1 | none => true)

/-- What the pacing does at a LINE boundary that starts capture line `line` (R296, R305). -/
def capLineStart (s : State) (line : Nat) : State :=
  if s.mode ≠ .capture then s
  else
    let s1 := if s.cap.start then
        rungInForce (s.modCap (fun c => { c with
          start := false, admits := true, from_ := line, upTo := none, was := c.upTo.map (fun e => (c.from_, e)) })) (s.get R.CAP_RUNG)
      else s
    let s2 := match s1.cap.want with
      | some w =>
        if !(capMoves s1) then s1
        else
          let g := rungAt s1 w
          let t := velSelect (((s1.modCap (fun c => { c with want := none })).set R.MOT_AXa_VEL_SEL_TBL g.tbl 0).set R.MOT_AXa_VEL_SEL_ENT g.ent 0)
            0 g.tbl g.ent
          if s1.cap.rung < w then rungInForce (t.modCap (fun c => { c with pend := none })) w else t.modCap (fun c => { c with pend := some w })
      | none => s1
    let s3 := match s2.cap.pend with
      | some w => if feedSettled s2 then rungInForce (s2.modCap (fun c => { c with pend := none })) w else s2
      | none => s2
    s3.set R.TIMING_LINE_PERIOD (rungAt s3 s3.cap.rung).period

/-- Capture line `line` is line `n` or a later one. -/
def lineFrom (n line : Nat) : Bool := decide ((line + 2 ^ 32 - n) % 2 ^ 32 < 2 ^ 31)

/-- Capture line `line` is admitted to Float (R302, R303, R305). -/
def capAdmits (s : State) (line : Nat) : Bool :=
  s.mode != .capture || (s.cap.admits && lineFrom s.cap.from_ line && s.cap.upTo.all (lineFrom line)) ||
    s.cap.was.any (fun w => lineFrom w.1 line && lineFrom line w.2)

/-! ## Pause, back-up and return (R302 to R306, R311) -/

/-- Output lines whose bins hold the rows' positions at rest (R306). -/
def restLines (s : State) (p : Int) (src : Nat) (yaw : List (Nat × Int)) : List Nat :=
  (contribs s).flatMap (fun k => match (s.slice k).entry with
    | none => []
    | some e =>
      let y : Int := if s.bit R.TIMING_FLOAT_YAW && src = 0 then smGet 0 yaw k else 0
      (segDescs e).filterMap (fun (d : Nat) =>
        let x := gridU (p - segStagger e + y) - 16 * descOfs d
        if x < 0 then none else some (x / binUnits s).toNat))

/-- FEED has come to rest: the capture line in progress is the line at rest, and the last one admitted; the illumination timer starts (R303; log
115). -/
def capRest (s : State) (keep : Bool) : State :=
  let n := s.get R.TIMING_LINE_CNT
  s.modCap (fun c => { c with
    restAt := some (c.restAt.getD (n, keep)), upTo := some (c.upTo.getD n), start := false, ledTimer := true })

/-- The line at rest has its position: hw_stop, and the lines that will carry RESTART (R303, R306). -/
def capRested (s : State) (line : Nat) (pos : LinePos) : State :=
  match s.cap.restAt with
  | none => s
  | some (n, keep) =>
    if !(lineFrom n line) then s
    else
      let new := match s.cap.hw with | none => true | some h => !keep && decide (h < pos.p)
      s.modCap (fun c => { c with
        restAt := none
        hw := if new then some pos.p else c.hw
        seams := if new then (restLines s pos.p pos.src pos.yaw).eraseDups.foldl (fun m n => smPut m n ((smGet (false, true) m n).1, true)) c.seams
          else c.seams })

/-- A limit, ESTOP, driver or ball fault: FEED halts (R303, R311). -/
def capFault (s : State) : State :=
  let s1 := if capMoves s then capCountPause s else s
  let s2 := haltAxis (s1.modCap (fun c => { c with want := none, pend := none })) 0
  capState (capCauseSet (capRest s2 true) causeFAULT true) 7

/-- A move of the paced feed starts, EXIT following, and true; false where Roller refuses it (R285, R249). -/
def capMove (s : State) (back velocity : Bool) (budget : Option Nat) (segs : List RSeg) : State × Bool :=
  let exit := capExit s
  let why := match startRefused s 0 back segs false with
    | some c => some c
    | none => if exit then startRefused s 1 (s.bit R.MOT_AXa_MOVE_DIR 1 != back) [] false else none
  match why with
  | some c => (axErr s 0 c, false)
  | none =>
    let m : Move := { moveOf s { what := .host, neg := back, velocity := velocity, budget := budget, segs := segs } with rev := back }
    let den := s.get R.MOT_GRPg_DDA_DEN 0 0
    (beginMove s 0 (if exit then { m with
      followers := [(1, den / 2)], den := den, nums := [(1, (rungAt s s.cap.rung).num)] } else m), true)

/-- The restart rung, and whether even rung 0 lacks lead-in (R304). -/
def restartRung (s : State) : Nat × Bool :=
  let nm := s.get R.CAP_BACKUP_NM
  let lead (r : Nat) : Bool :=
    let g := rungAt s r
    nm = 0 || decide (3 * cumSteps (rampEnts s.rol.ramps g.tbl) g.ent * capScale s + s.get R.CAP_LEADIN_LINES * 63500 * 65536 ≤ 3 * nm * 65536)
  match ((List.range (topRung s + 1)).filter (fun r => drainCarries s (drainHeld s) r && lead r)).getLast? with
  | some r => (r, false)
  | none => (0, !(lead 0))

/-- The feed starts forward (R304, R305, R312). -/
def capRestart (s : State) : State :=
  let r : Nat × Bool := if s.cap.first then (s.get R.CAP_RUNG, false) else restartRung s
  let s1 := s.modCap (fun c => { c with first := false, want := none, pend := none, ledTimer := false })
  let s2 := if s1.get R.CAP_RUNG = r.1 then s1 else ((s1.modCap (fun c => { c with since := some s.now })).set R.CAP_RUNG r.1).raise pgCAP 2
  let s3 := (if r.2 then s2.set R.CAP_STAT_SHORT_LEADIN 1 else s2).set R.CAP_STAT_LED_UNSTABLE 0
  let g := rungAt s3 r.1
  let m := capMove s3 false true none [{ stopSeg g.tbl with play := 0, ent := g.ent }, holdSeg none]
  if m.2 then (capState m.1 (if s.cap.first then 0 else 6)).modCap (fun c => { c with start := true }) else capFault m.1

/-- Setpoints of every contributing segment, scaled (R307, R75). -/
def capIllum (s : State) (num : Nat) : State :=
  s.each (contribs s) (fun t k => match (t.slice k).entry with
    | none => t
    | some e => illumWrite t k .illum ((segIllum e).map (fun v => v * num / 256)))

/-- Restart begins where every cause has cleared: RETURN from PAUSED, STABILISE from STANDBY (R304). -/
def capTryRestart (s : State) : State :=
  if s.mode ≠ .capture || capCauses s != 0 then s
  else if s.get R.CAP_STATE = 3 then capRestart s
  else if s.get R.CAP_STATE = 4 then capState (capIllum s 256) 5
  else s

/-- The back-up ends: PAUSED (R303 step 5). -/
def capPaused (s : State) : State := capTryRestart ((capState s 3).raise pgCAP 3)

/-- Step 4: the back-up (R303). Where S is 0 the number of steps has no stated value (log 8). -/
def capBackup (s : State) : State :=
  let nm := s.get R.CAP_BACKUP_NM
  if nm = 0 then capPaused s
  else
    let d := s.draw
    let sc := capScale s
    let n := if sc = 0 then (Config.unstated 18 d.1).toNat % 2 ^ 32 else (roundDiv (nm * 65536 : Nat) sc).toNat
    let s1 := if sc = 0 then d.2 else s
    let t := s.get R.CAP_BACKUP_TBL
    let e := s.get R.CAP_BACKUP_ENT
    if n = 0 then capPaused s1
    else
      let m := capMove s1 true false (some n)
        [{ stopSeg t with play := 0, ent := e }, { stopSeg t with play := 1, ent := e, term := 1, opd := 2 ^ 31 - 1 }, stopSeg t]
      if m.2 then capState m.1 2 else capFault m.1

/-- FEED at rest after STOPPING: steps 3 and 4 (R303). -/
def capFeedRest (s : State) : State :=
  if s.mode = .capture && s.get R.CAP_STATE = 1 && (s.axis 0).move.isNone then capBackup (capRest s false) else s

def capBackupEnd (s : State) : State :=
  if s.mode = .capture && s.get R.CAP_STATE = 2 && (s.axis 0).move.isNone then capPaused s else s

/-- CAP_CMD PAUSE. -/
def capHostPause (s : State) : State := if s.mode = .capture then capPause s causeHOST else s

/-- The fault that led to FAULT is gone (R303). -/
def faultGone (s : State) : Bool :=
  !(s.bit R.MOT_STAT_ESTOP) && !(s.bit R.MOT_AXa_STAT_DRV_FAULT 0) && !(capExit s && s.bit R.MOT_AXa_STAT_DRV_FAULT 1) &&
    !(limitAhead s 0 false none) && !(capExit s && limitAhead s 1 (s.bit R.MOT_AXa_MOVE_DIR 1) none)

/-- CAP_CMD RESUME (R303, R304). -/
def capDoResume (s : State) : State :=
  if s.mode ≠ .capture then s
  else
    let s1 := capCauseSet (capCauseSet s causeHOST false) causeLAP false
    if s.get R.CAP_STATE = 7 then (if faultGone s then capBackup (capCauseSet s1 causeFAULT false) else s1) else capTryRestart s1

/-- CAP_CMD RESUME_FORCE also ends STABILISE at once (R304). -/
def capDoForce (s : State) : State :=
  let s1 := capDoResume s
  if s1.mode = .capture && s1.get R.CAP_STATE = 5 && capCauses s1 = 0 then capRestart s1 else s1

/-- A delivered capture line: hw_stop, the re-entry, and the tracker's return after one (R303, R305, R306). -/
def capDelivered (s0 : State) (line : Nat) (pos : LinePos) : State :=
  if s0.mode ≠ .capture then s0
  else
    let s := capRested s0 line pos
    let back := s.cap.reacq && pos.src = 0
    let s1 := if back then
        let v := s.getI R.TRK_REACQ_STEP
        let t := (s.modCap (fun c => { c with reacq := false })).setI R.CAP_REENTRY_NM v
        if 2646 < v.natAbs then (capEvent t 2 (toTwos 32 v)).raise pgCAP 6 else t
      else s
    match s1.get R.CAP_STATE, s1.cap.hw with
    | 6, some h =>
      if s1.cap.start || !(capAdmits s1 line) || decide (pos.p ≤ h) then s1
      else
        let fb := pos.src != 0
        let page := s1.cap.page.map (fun p => let q := p.judge (s1.get R.CAP_REENTRY_NM); { q with re := true, seamFb := q.seamFb || fb })
        let s2 := s1.modCap (fun c => { c with
          hw := none
          reacq := fb
          page := page
          seams := c.seams.map (fun (x : Nat × (Bool × Bool)) => (x.1, (x.2.1 || (x.2.2 && fb), false))) })
        let s3 := (capState s2 0).raise pgCAP 4
        if fb then (s3.set R.CAP_REENTRY_NM 0x80000000).inc R.CAP_SEAM_FB_CNT else s3.set R.CAP_REENTRY_NM 0
    | _, _ => s1

/-- What Roller and Lap have left for the pacing: a fault on FEED or EXIT, a Lap halt (R171, R303). -/
def capHooks (s : State) : State :=
  let s1 := if s.rol.fault then
      let t := s.modRol (fun r => { r with fault := false })
      if t.mode = .capture && decide (t.get R.CAP_STATE ∈ [0, 1, 2, 6]) then capFault t else t
    else s
  if s1.plumb.halt then
    let t := { s1 with plumb := { s1.plumb with halt := false } }
    if t.mode = .capture then capPause t causeLAP else t
  else s1

/-! ## Fill and credit (R297 to R301, R308 to R310) -/

/-- The class 0 reserve in INSPECT (R310). -/
def capReserve (s : State) : State :=
  let r := s.get R.CAP_C0_RESERVE * 4096
  let on := if s.bit R.MOT_HOLD_RESERVE then !(decide (2 * r < hodFree s 0)) else decide (hodFree s 0 < r)
  if on = s.bit R.MOT_HOLD_RESERVE then s else holdUpdate (s.setB R.MOT_HOLD_RESERVE on)

/-- Dropping by policy in INSPECT; each dropped run ends with its gap record (R309). -/
def capPolicy (s : State) : State :=
  let f := capFill s
  if s.cap.dropping then
    if f ≤ s.get R.CAP_WM_LOW then hodGaps (s.modCap (fun c => { c with dropping := false })) else s
  else if s.get R.CAP_WM_STOP ≤ f then s.modCap (fun c => { c with dropping := true }) else s

/-- Watermarks in CAPTURE (R300, R301). -/
def capMarks (s : State) : State :=
  let f := capFill s
  let wm := bitOf (capCauses s) causeWM
  let s1 :=
    if s.get R.CAP_WM_STOP ≤ f then (if wm then s else capPause s causeWM)
    else if f ≤ s.get R.CAP_WM_LOW && wm then capTryRestart (capCauseSet s causeWM false)
    else s
  let high := decide (s.get R.CAP_WM_HIGH ≤ f)
  let s2 := s1.modCap (fun c => { c with hi := high })
  if high && !s.cap.hi && capMoves s2 && s2.get R.CAP_RUNG != 0 then capSelect s2 (s2.get R.CAP_RUNG - 1) else s2

/-- Fill and credit meet the second condition of R299. -/
def creditIdle (s : State) : Bool :=
  s.get R.CAP_UP_CREDIT != 0 && decide (capFill s ≤ s.get R.CAP_WM_LOW) && decide (s.get R.CAP_UP_CREDIT ≤ unusedCredit s)

/-- The fill, the free space or the credit may have changed. -/
def capWatch (s : State) : State :=
  match s.mode with
  | .capture =>
    let s1 := if creditIdle s then s else s.modCap (fun c => { c with okTicks := 0 })
    capMarks s1
  | .inspect => capReserve (capPolicy s)
  | .idle => s
  | .calibrate => s
  | .service => s

/-- CREDIT raised the limit by `units` (R298, R308). -/
def capCredit (s : State) (units : Nat) : State :=
  let g := match s.cap.grants with | x :: l => (x + units) :: l | [] => [units]
  (s.modCap (fun c => { c with grants := g })).set R.CAP_STAT_STALL 0

/-- PACING_UPDATE, every 10 ms (R298, R299). An estimate too large for CAP_DRAIN_EST reads as its largest value (log 113). -/
def capPacing (s : State) : State :=
  let d := drainEst s
  let s1 := s.set R.CAP_DRAIN_EST (min (d / 1024) (Row.max R.CAP_DRAIN_EST))
  let s2 := s1.modCap (fun c => { c with
    grants := 0 :: c.grants.take 9, okTicks := if creditIdle s then c.okTicks + 1 else 0 })
  let r := s.cap.rung
  if s.mode = .capture && capMoves s && decide (s.get R.CAP_RUNG ≠ r + 1) && s.cap.since.all (fun t => decide (t + 1000000 * s.get R.CAP_RUNG_HOLD ≤ s.now)) && decide (r < topRung s) &&
      decide (capFill s < s.get R.CAP_WM_HIGH) && (drainCarries s d (r + 1) || decide (11 ≤ s2.cap.okTicks)) then capSelect s2 (r + 1)
  else s2

/-- RUNG_HIGH_HOLD (R300). -/
def capHighHold (s : State) : State :=
  if s.mode = .capture && capMoves s && decide (s.get R.CAP_WM_HIGH ≤ capFill s) && s.get R.CAP_RUNG != 0 then
    capSelect s (s.get R.CAP_RUNG - 1)
  else s

/-! ## Illumination in a pause, stalls (R307, R308) -/

/-- The sums of the two bar-end tabs in a capture line: Skim values of GRN (R307). -/
def tabSums (s : State) (cl : CapLine) : Nat × Nat :=
  let w := s.get R.CAP_TAB_W
  let one (k : Option Nat) (at_ : Nat) : Nat :=
    match k.bind (fun k => (smGet [] cl.slices k).find? (fun d => d.role = 1)) with
    | some d => sumN ((d.px.drop at_).take w)
    | none => 0
  (one (contribs s).head? (s.get R.CAP_TAB_L_PIX), one (contribs s).getLast? (s.get R.CAP_TAB_R_PIX))

/-- A capture line has been judged in CAPTURE: its tabs are kept. -/
def capTabs (s : State) (cl : CapLine) : State :=
  if s.mode = .capture && s.get R.CAP_TAB_W != 0 then s.modCap (fun c => { c with tabs := tabSums s cl :: c.tabs.take 63 }) else s

/-- Sums over the lines kept, as (left, right), with the number of lines. -/
def tabTotal (l : List (Nat × Nat)) : Nat × Nat × Nat := (sumN (l.map (·.1)), sumN (l.map (·.2)), l.length)

/-- CAP_LED_STANDBY: the tabs are recorded and the setpoints scaled (R307 step 1). -/
def capStandby (s : State) : State :=
  if s.mode = .capture && s.get R.CAP_STATE = 3 && s.cap.ledTimer then
    capState (capIllum (s.modCap (fun c => { c with tabRec := c.tabs, ledTimer := false })) (s.get R.CAP_LED_STBY)) 4
  else s

/-- Departure of a tab's mean from its record as numerator and denominator (R307). -/
def tabDev (now rec : Nat × Nat) : Nat × Nat := ((now.1 * rec.2 - rec.1 * now.2) + (rec.1 * now.2 - now.1 * rec.2), rec.1 * now.2)

/-- Both tabs lie within CAP_TAB_TOL of their records; and the worse deviation in 1/1024 (a record of 0 has none stated: log 8). -/
def tabsOk (s : State) : Bool × Nat × State :=
  let n := tabTotal s.cap.tabs
  let r := tabTotal s.cap.tabRec
  let l := tabDev (n.1, n.2.2) (r.1, r.2.2)
  let g := tabDev (n.2.1, n.2.2) (r.2.1, r.2.2)
  let ok (x : Nat × Nat) : Bool := decide (1024 * x.1 ≤ s.get R.CAP_TAB_TOL * x.2)
  let d := s.draw
  let free := l.2 = 0 ∨ g.2 = 0
  let dev := if free then (Config.unstated 18 d.1).toNat % 2 ^ 32 else max (1024 * l.1 / l.2) (1024 * g.1 / g.2)
  (s.get R.CAP_TAB_W = 0 || (ok l && ok g), dev, if free then d.2 else s)

/-- CAP_STABILISE_CHECK (R307 step 3). -/
def capStabilise (s : State) : State :=
  if s.mode = .capture && s.get R.CAP_STATE = 5 && capCauses s = 0 && (tabsOk s).1 then capRestart s else s

/-- CAP_STAB_MAX (R307 step 4). -/
def capStabExpire (s : State) : State :=
  let t := tabsOk s
  if s.mode = .capture && s.get R.CAP_STATE = 5 && !(s.bit R.CAP_STAT_LED_UNSTABLE) && !t.1 then
    (capEvent (t.2.2.set R.CAP_STAT_LED_UNSTABLE 1) 3 t.2.1).raise pgCAP 7
  else s

/-- CAP_STALL (R308). -/
def capStallExpire (s : State) : State :=
  if s.mode = .capture && decide (s.get R.CAP_STATE ∈ [3, 4, 5]) && s.get R.CAP_STALL_TO != 0 then
    let s1 := (s.set R.CAP_STAT_STALL 1).raise pgCAP 5
    if s.cap.stallSent then s1 else capEvent (s1.modCap (fun c => { c with stallSent := true })) 1 (s.get R.CAP_STALL_TO)
  else s

/-! ## Job transitions -/

/-- The IDLE-to-job transition (R288, R291, R312). -/
def capJobStart (s : State) : State :=
  let area := areaWidth s
  let s1 := { s with cap := { Cap.init with ladder := s.cap.ladder, area := area, grants := s.cap.grants }, pageDue := false }
  if s1.mode ≠ .capture then s1
  else
    let r := min (s.get R.CAP_START_RUNG) ((rungs s).length - 1)
    let s2 := (s1.set R.CAP_RUNG r).set R.CAP_LINE_BYTES (lineRecBytes s1 area)
    rungInForce (capState (s2.set R.CAP_PAUSE_CAUSE 2) 3) r

/-- CAPTURE or INSPECT is left: the page, the pacing and the class 0 hold end (R40, R287, R310). -/
def capJobEnd (s : State) : State :=
  let was := s.mode == .capture
  let s1 := capClosePage s true false
  let s2 := if was then stopOwn s1 0 else s1
  let s3 := (capState (s2.set R.CAP_PAUSE_CAUSE 2) 3).set R.CAP_STAT_LED_UNSTABLE 0
  let s4 := { s3 with cap := { Cap.init with ladder := s.cap.ladder, grants := s.cap.grants }, pageDue := false
                      flt := { s3.flt with rungAvg := none } }
  let s5 := if was then s4.set R.TIMING_LINE_PERIOD (bankPeriod (liveSlots s4)) else s4
  hodGaps (if s5.bit R.MOT_HOLD_RESERVE then holdUpdate (s5.set R.MOT_HOLD_RESERVE 0) else s5)

/-- The counters clear on the block's SOFT_RESET (R312). -/
def capClearCounters (s : State) : State :=
  [R.CAP_PAGE_CNT, R.CAP_PAUSE_CNT, R.CAP_SEAM_FB_CNT, R.CAP_DROP_CNT].foldl (fun (t : State) r => t.set r 0) s

end Sys2Proof.Machine
end

