-- ==== Sys2Proof/Machine/Dma.lean ====
section
/-! DEFINITION. The DMA engine (R340 to R357): descriptors, the checks at fetch, element order and regrouping, completion, errors
and abort. -/
namespace Sys2Proof.Machine
open Sys2Proof

def dmaCh (s : State) (c : Nat) : DmaCh := smGet DmaCh.init s.dma c

def dmaPut (s : State) (c : Nat) (x : DmaCh) : State := { s with dma := smPut s.dma c x }

/-- Channel states (R357). -/
def dmaIDLE := 0
def dmaFETCH := 1
def dmaRUN := 2
def dmaDRAIN := 3
def dmaSTOPPED := 4

/-- Set a channel's state, and its bit of DMA_ACTIVE (R356). -/
def dmaState (s : State) (c st : Nat) : State :=
  (s.set R.DMA_CHc_STATE st c).set R.DMA_ACTIVE (setBit (s.get R.DMA_ACTIVE) c (decide (1 ≤ st ∧ st ≤ 3)))

/-- Raise an interrupt of channel `c`; the DMA page's bit c mirrors it (R356, R357). -/
def dmaRaise (s : State) (c bit : Nat) : State := (s.raise (pgDMACH c) bit).raise pgDMA c

/-- R509, R356: events `mask` of a page; an interrupt of channel page `c` is mirrored in bit `c` of the DMA page's IRQ_RAW. -/
def raiseEvents (s : State) (page mask : Nat) : State :=
  let s1 := s.raiseMask page mask
  if pgDMACH 0 ≤ page ∧ page < pgDMACH 16 ∧ mask ≠ 0 then s1.raise pgDMA (page - pgDMACH 0) else s1

/-- Element width in bytes for a width code (R343). -/
def dmaWidth (code : Nat) : Nat := 2 ^ code

def DmaCh.srcW (x : DmaCh) : Nat := dmaWidth (bits x.ctrl 0 3)
def DmaCh.dstW (x : DmaCh) : Nat := dmaWidth (bits x.ctrl 3 3)
def DmaCh.packed (x : DmaCh) : Bool := bitOf x.ctrl 6 && x.srcW != x.dstW
def DmaCh.signExt (x : DmaCh) : Bool := bitOf x.ctrl 7
def DmaCh.tag (x : DmaCh) : Nat := bits x.ctrl 16 16
def DmaCh.total (x : DmaCh) : Nat := x.c0 * x.c1 * x.c2

/-- Inner destination count (R345). -/
def DmaCh.dc0 (x : DmaCh) : Nat := if x.packed then x.c0 * x.srcW / x.dstW else x.c0

/-- The descriptor that 64 bytes spell (R342). -/
def dmaParse (x : DmaCh) (b : List (BitVec 8)) : DmaCh :=
  let f (o n : Nat) : Nat := leNat ((b.drop o).take n)
  { x with src := f 0 8, dst := f 8 8, c0 := f 0x10 4 % 2 ^ 24, c1 := f 0x14 2, c2 := f 0x16 2,
           ss0 := ofTwos 32 (f 0x18 4), ds0 := ofTwos 32 (f 0x1C 4), ss1 := ofTwos 32 (f 0x20 4), ds1 := ofTwos 32 (f 0x24 4),
           ss2 := ofTwos 32 (f 0x28 4), ds2 := ofTwos 32 (f 0x2C 4), ctrl := f 0x30 4, next := f 0x38 8,
           idx := 0, acked := 0, queue := [], out := [], halfRaised := false, undef := false, abort := false, abortRun := false, error := none, burst := 0,
           began := false, told := false, hold := [] }

/-- Check 2 of R347: counts, width codes, reserved bits, whole packing, alignment of addresses and steps. -/
def dmaFieldBad (x : DmaCh) (b : List (BitVec 8)) : Bool :=
  let f (o n : Nat) : Nat := leNat ((b.drop o).take n)
  x.c0 = 0 || x.c1 = 0 || x.c2 = 0 || decide (5 ≤ bits x.ctrl 0 3) || decide (5 ≤ bits x.ctrl 3 3) ||
  f 0x13 1 != 0 || bits x.ctrl 12 4 != 0 || f 0x34 4 != 0 ||
  (x.packed && x.c0 * x.srcW % x.dstW != 0) ||
  x.src % x.srcW != 0 || x.ss0 % x.srcW != 0 || x.ss1 % x.srcW != 0 || x.ss2 % x.srcW != 0 ||
  x.dst % x.dstW != 0 || x.ds0 % x.dstW != 0 || x.ds1 % x.dstW != 0 || x.ds2 % x.dstW != 0 ||
  x.next % 128 != 0

/-- First and last byte of a bounding box (R348). -/
def dmaBox (base : Nat) (c0 c1 c2 : Nat) (s0 s1 s2 : Int) (w : Nat) : Int × Int :=
  let e0 := ((c0 : Int) - 1) * s0
  let e1 := ((c1 : Int) - 1) * s1
  let e2 := ((c2 : Int) - 1) * s2
  ((base : Int) + min 0 e0 + min 0 e1 + min 0 e2, (base : Int) + max 0 e0 + max 0 e1 + max 0 e2 + w - 1)

def DmaCh.srcBox (x : DmaCh) : Int × Int := dmaBox x.src x.c0 x.c1 x.c2 x.ss0 x.ss1 x.ss2 x.srcW
def DmaCh.dstBox (x : DmaCh) : Int × Int := dmaBox x.dst x.dc0 x.c1 x.c2 x.ds0 x.ds1 x.ds2 x.dstW

def boxesMeet (a b : Int × Int) : Bool := decide (a.1 ≤ b.2) && decide (b.1 ≤ a.2)

/-- The device region (R316). -/
def deviceLo : Nat := 0x3_A000_0000

/-- Does a range of bytes touch the device region (R316)? -/
def inDevice (lo len : Nat) : Bool := decide (lo < dramEnd) && decide (deviceLo < lo + len) && decide (0 < len)

/-- Does a range meet the region of a table read in place that is in force or staged (R32)? -/
def meetsInPlace (s : State) (lo hi : Int) : Bool :=
  s.inPlace.any (fun t => boxesMeet (lo, hi) ((t.addr : Int), (t.addr : Int) + t.len - 1))

/-- Source addresses strictly increase in element order, or strictly decrease (R348). -/
def DmaCh.rising (x : DmaCh) : Bool :=
  (x.c0 ≤ 1 || decide (0 < x.ss0)) && (x.c1 ≤ 1 || decide (((x.c0 : Int) - 1) * x.ss0 < x.ss1)) &&
  (x.c2 ≤ 1 || decide (((x.c0 : Int) - 1) * x.ss0 + ((x.c1 : Int) - 1) * x.ss1 < x.ss2))

def DmaCh.falling (x : DmaCh) : Bool :=
  (x.c0 ≤ 1 || decide (x.ss0 < 0)) && (x.c1 ≤ 1 || decide (x.ss1 < ((x.c0 : Int) - 1) * x.ss0)) &&
  (x.c2 ≤ 1 || decide (x.ss2 < ((x.c0 : Int) - 1) * x.ss0 + ((x.c1 : Int) - 1) * x.ss1))

/-- The result of an overlapping descriptor is defined (R348). -/
def DmaCh.overlapDefined (x : DmaCh) : Bool :=
  x.srcW = x.dstW && (x.c0 ≤ 1 || x.ss0 = x.ds0) && (x.c1 ≤ 1 || x.ss1 = x.ds1) && (x.c2 ≤ 1 || x.ss2 = x.ds2) &&
  ((x.rising && decide (x.dst ≤ x.src)) || (x.falling && decide (x.src ≤ x.dst)))

/-- The cause at the first check that fails (R347), or none. -/
def dmaCheck (s : State) (c : Nat) (x : DmaCh) (b : List (BitVec 8)) : Option Nat :=
  if dmaFieldBad x b then some 2
  else
    let sb := x.srcBox
    let db := x.dstBox
    let out (p : Int × Int) : Bool := decide (p.1 < 0) || decide ((dramEnd : Int) ≤ p.2)
    if out sb || out db || (decide (c < 14) && (decide ((deviceLo : Int) ≤ db.2) || meetsInPlace s db.1 db.2)) then some 3
    else if boxesMeet sb db && !(bitOf x.ctrl 11) then some 4
    else none

/-- The indexes of source element `n` of a descriptor (R344). -/
def DmaCh.index (x : DmaCh) (n : Nat) : Nat × Nat × Nat := (n % x.c0, n / x.c0 % x.c1, n / x.c0 / x.c1)

def DmaCh.srcAddr (x : DmaCh) (n : Nat) : Nat :=
  let (i0, i1, i2) := x.index n
  ((x.src : Int) + i0 * x.ss0 + i1 * x.ss1 + i2 * x.ss2).toNat

/-- Address of destination element (j0, i1, i2) (R344, R345). -/
def DmaCh.dstAddr (x : DmaCh) (j0 i1 i2 : Nat) : Nat := ((x.dst : Int) + j0 * x.ds0 + i1 * x.ds1 + i2 * x.ds2).toNat

/-- Bytes of the aligned transaction that moves `n` bytes from address `a` (R318). -/
def dmaSpan (a n : Nat) : Nat := 64 * (ceilDiv (a + n) 64 - a / 64)

/-- How many elements the burst that begins at element `n0` holds: one aligned transaction of up to 256 B within one 2 KiB block, consecutive
addresses (R318, R346). -/
def dmaBurstGo (x : DmaCh) (n0 : Nat) : Nat → Nat → Nat
  | 0, k => k
  | fuel + 1, k =>
    if x.total ≤ n0 + k then k
    else if x.srcAddr (n0 + k) != x.srcAddr n0 + k * x.srcW then k
    else if x.srcAddr (n0 + k) % 2048 = 0 then k
    else if 256 < dmaSpan (x.srcAddr n0) ((k + 1) * x.srcW) then k
    else dmaBurstGo x n0 fuel (k + 1)

def dmaBurst (x : DmaCh) : Nat := if x.total ≤ x.idx then 0 else dmaBurstGo x x.idx 256 1

/-- A source element widened or narrowed to the destination width (R345, unpacked). -/
def dmaResize (dw : Nat) (sx : Bool) (bs : List (BitVec 8)) : List (BitVec 8) :=
  let ext : BitVec 8 := if sx && (match bs.getLast? with | some b => b.msb | none => false) then 0xFF else 0
  bs.take dw ++ List.replicate (dw - bs.length) ext

/-- The writes of one burst: elements `n` and their bytes in order, the held bytes carried; with each write the source elements that end in it
(R345, R346). -/
def dmaWrites (x : DmaCh) : List (Nat × List (BitVec 8)) → List (BitVec 8) → List DmaTx × List (BitVec 8)
  | [], hold => ([], hold)
  | (n, bs) :: rest, hold =>
    let (i0, i1, i2) := x.index n
    if x.packed then
      let have_ := hold ++ bs
      let dw := x.dstW
      let whole := have_.length / dw
      -- first destination element still incomplete before this source element
      let j := (i0 * x.srcW - hold.length) / dw
      let ws := (List.range whole).map (fun q => ({
        addr := x.dstAddr (j + q) i1 i2, n := (j + q + 1) * dw / x.srcW - (j + q) * dw / x.srcW, bytes := (have_.drop (q * dw)).take dw } : DmaTx))
      let r := dmaWrites x rest (have_.drop (whole * dw))
      (ws ++ r.1, r.2)
    else
      let r := dmaWrites x rest hold
      ({ addr := x.dstAddr i0 i1 i2, n := 1, bytes := dmaResize x.dstW x.signExt bs } :: r.1, r.2)

/-- Writes that follow one another, joined to the one before, `cur`, as far as they are consecutive and R318 and the input's 256 B allow. -/
def dmaJoin (cur : DmaTx) : List DmaTx → List DmaTx
  | [] => [cur]
  | w :: ws =>
    if w.addr = cur.addr + cur.bytes.length ∧ w.addr % 2048 ≠ 0 ∧ dmaSpan cur.addr (cur.bytes.length + w.bytes.length) ≤ 256
    then dmaJoin { addr := cur.addr, n := cur.n + w.n, bytes := cur.bytes ++ w.bytes } ws
    else cur :: dmaJoin w ws

/-- The write transactions of a burst, in order (log 117). -/
def dmaGroup : List DmaTx → List DmaTx
  | [] => []
  | w :: ws => dmaJoin w ws

/-- The bytes of a write as it is issued; where the result is undefined, those that the source box shares take free values (R348). -/
def dmaBytesOut (s : State) (t : DmaTx) (u : Option (Int × Int)) : List (BitVec 8) × State :=
  match u with
  | some b =>
    let (d, s0) := s.draw
    (((List.range t.bytes.length).zip t.bytes).map (fun (p : Nat × BitVec 8) =>
      if b.1 ≤ ((t.addr + p.1 : Nat) : Int) ∧ ((t.addr + p.1 : Nat) : Int) ≤ b.2 then Config.undefByte (d * 256 + p.1) else p.2), s0)
  | none => (t.bytes, s)

/-- Carry destination bytes into DMA_BYTES_MB (R356). -/
def dmaCountBytes (s : State) (n : Nat) : State :=
  let t := s.dmaBytes + n
  { (s.incBy R.DMA_BYTES_MB (t / 2 ^ 20)) with dmaBytes := t % 2 ^ 20 }

/-- Bytes of a write are in memory: of one answered without error all of them, of one that the watchdog ended those it had received (R325, R326). -/
def dmaLand (s : State) (a : Nat) (bs : List (BitVec 8)) : State :=
  if bs = [] then s else dmaCountBytes (dramFresh { s with mem := memPutBytes s.mem a bs } a bs.length) bs.length

/-- A write answered with an error: what memory holds there the spec does not say (log 125). -/
def dmaSpoilt (s : State) (o : DmaOut) : State :=
  if o.bytes = [] then s
  else
    let (d, s0) := s.draw
    { s0 with mem := memPutBytes s0.mem o.addr ((List.range o.bytes.length).map (fun i => Config.undefByte (d * 256 + i))) }

/-- The residue (R350). -/
def DmaCh.residue (x : DmaCh) : Nat × Nat × Nat :=
  if x.total ≤ x.idx then (0, 0, 0)
  else let (i0, i1, i2) := x.index x.idx; (x.c0 - i0, x.c1 - i1, x.c2 - i2)

def dmaShowRes (s : State) (c : Nat) : State :=
  let (r0, r1, r2) := (dmaCh s c).residue
  ((s.set R.DMA_CHc_RES0 r0 c).set R.DMA_CHc_RES1 r1 c).set R.DMA_CHc_RES2 r2 c

/-- Write a status record (R349) and show its code, and its cause where it tells of a failure; OVERLAP_UNDEF raises its own interrupt (R357). -/
def dmaStatus (s : State) (c desc ctrl code cause : Nat) (undef : Bool) (res : Nat × Nat × Nat) (addr : Nat) : State :=
  let word := code + 16 * cause + 256 * b2n undef + 65536 * bits ctrl 16 16
  let rec_ := leBytes 4 word ++ leBytes 4 res.1 ++ leBytes 2 res.2.1 ++ leBytes 2 res.2.2 ++ leBytes 4 0 ++ leBytes 8 addr ++ leBytes 8 0
  let s1 := dramFresh { s with mem := memPutBytes s.mem (desc + 0x40) rec_ } (desc + 0x40) 32
  let s2 := (s1.set R.DMA_CHc_LAST_CODE code c).set R.DMA_CHc_LAST_CAUSE (if cause = 0 then s1.get R.DMA_CHc_LAST_CAUSE c else cause) c
  if undef then dmaRaise s2 c 4 else s2

def dmaFailAddr (s : State) (c addr : Nat) : State := s.set64 R.DMA_CHc_FAIL_LO R.DMA_CHc_FAIL_HI addr c

/-- A failing descriptor: the chain stops, ERROR is raised, ERR_CODE reads 0x700 + cause (R347). -/
def dmaReject (s : State) (c cause : Nat) : State :=
  let x := dmaCh s c
  let s1 := if cause = 1 then s else dmaStatus s c x.desc x.ctrl 4 cause false (x.c0, x.c1, x.c2) 0
  let s2 := ((s1.set R.DMA_CHc_LAST_CAUSE cause c).inc R.DMA_ERR_CNT).err (pgDMACH c) (0x700 + cause)
  dmaRaise (dmaState (if cause = 1 then s2 else dmaPut s2 c { x with asked := x.asked + 1 }) c dmaSTOPPED) c 2

/-- A channel as it stops: nothing is under way but the write of its status. -/
def DmaCh.stopped (x : DmaCh) : DmaCh :=
  { x with abort := false, abortRun := false, error := none, queue := [], out := [], burst := 0, began := false, told := false, asked := 1, hold := [], earlier := [],
           withdrawn := none }

/-- The descriptor stops with ERROR (R352, R353). -/
def dmaError (s : State) (c cause addr : Nat) : State :=
  let x := dmaCh s c
  let s1 := dmaStatus s c x.desc x.ctrl 2 cause x.undef x.residue addr
  let s2 := dmaRaise (dmaState ((dmaFailAddr s1 c addr).inc R.DMA_ERR_CNT) c dmaSTOPPED) c 2
  dmaPut (if x.abort then dmaRaise s2 c 3 else s2) c x.stopped

/-- The descriptor stops with ABORTED and its residue (R354). -/
def dmaAborted (s : State) (c : Nat) : State :=
  let x := dmaCh s c
  let s1 := dmaStatus s c x.desc x.ctrl 3 0 x.undef x.residue 0
  dmaPut (dmaRaise (dmaState s1 c dmaSTOPPED) c 3) c x.stopped

/-- An error on a descriptor `e` that had reported DONE: the later one, where it runs, is written ABORTED (ERROR where it has an error of its own), the
earlier rewritten ERROR, one ERROR interrupt raised (R352). Each status write is a transaction of its own (R341). -/
def dmaWithdraw (s : State) (c : Nat) (e : DmaDone) (why addr : Nat) : State :=
  let x := dmaCh s c
  let s1 :=
    if x.began then
      match x.error with
      | some (cause, a) => (dmaStatus s c x.desc x.ctrl 2 cause x.undef x.residue a).inc R.DMA_ERR_CNT
      | none => dmaStatus s c x.desc x.ctrl 3 0 x.undef x.residue 0
    else s
  let s2 := dmaStatus s1 c e.desc e.ctrl 2 why e.undef (0, 0, 0) addr
  let s3 := dmaRaise (dmaState ((dmaFailAddr s2 c addr).inc R.DMA_ERR_CNT) c dmaSTOPPED) c 2
  dmaPut s3 c { x.stopped with asked := 1 + b2n x.began }

/-- Descriptor written DONE (R351): counted, and FULL raised once every response is in. -/
def dmaDone (s : State) (c : Nat) : State :=
  let x := dmaCh s c
  ((dmaStatus s c x.desc x.ctrl 1 0 x.undef (0, 0, 0) 0).inc R.DMA_DESC_CNT).inc R.DMA_CHc_DONE_CNT c

/-- Begin fetching the descriptor at `desc` (R340, R351). -/
def dmaFetch (s : State) (c desc : Nat) : State :=
  dmaPut (dmaState (s.set64 R.DMA_CHc_CUR_LO R.DMA_CHc_CUR_HI desc c) c dmaFETCH) c { dmaCh s c with
    desc := desc, abort := false, abortRun := false, began := false, told := false, queue := [], out := [], burst := 0, error := none, asked := (dmaCh s c).asked + 1 }

/-- R340, R355, R357: START. -/
def dmaStart (s : State) (ag : Agent) (c : Nat) : State :=
  if 14 ≤ c ∧ Agent.firmware ag = false then s.err (pgDMACH c) 0x710
  else if 1 ≤ s.get R.DMA_CHc_STATE c ∧ s.get R.DMA_CHc_STATE c ≤ 3 then s.err (pgDMACH c) 0x711
  else dmaFetch (dmaPut s c DmaCh.init) c (s.get64 R.DMA_CHc_DESC_LO R.DMA_CHc_DESC_HI c)

/-- R354: ABORT, as the channel's state decides. -/
def dmaAbort (s : State) (c : Nat) : State :=
  let st := s.get R.DMA_CHc_STATE c
  if 1 ≤ st ∧ st ≤ 3 then dmaPut s c { dmaCh s c with abort := true, abortRun := (dmaCh s c).abortRun || st == dmaRUN } else s

/-- The last write is issued (R351): with BARRIER, or where the channel stops, it waits for the responses; without, it reports DONE and fetches NEXT. -/
def dmaAllIssued (s : State) (c : Nat) : State :=
  let x := dmaCh s c
  if bitOf x.ctrl 10 || x.abort || x.withdrawn.isSome then dmaState s c dmaDRAIN
  else
    let out := x.out ++ [{ addr := x.desc + 0x40, n := 0, status := true, bytes := [] }]
    let s1 := dmaDone s c
    if x.next = 0 then dmaState (dmaPut s1 c { x with out := out, told := true, asked := x.asked + 1 }) c dmaDRAIN
    else
      let d : DmaDone := { desc := x.desc, ctrl := x.ctrl, n := x.total, acked := x.acked, out := out, halfRaised := x.halfRaised, undef := x.undef }
      dmaFetch (dmaPut s1 c { x with earlier := x.earlier ++ [d], asked := x.asked + 1 }) c x.next

/-- Every write of a burst is issued (R346): the next burst's reads are, unless the channel stops or there are none. -/
def dmaNextBurst (s : State) (c : Nat) : State :=
  let x := dmaCh s c
  if x.total ≤ x.idx then dmaAllIssued s c
  else if x.abort || x.withdrawn.isSome then s
  else
    let k := dmaBurst x
    dmaShowRes (dmaPut s c { x with idx := x.idx + k, burst := k, asked := x.asked + 1 }) c

/-- A data write of the channel is outstanding; there is one at most (R341). -/
def DmaCh.writing (x : DmaCh) : Bool := x.out.any (fun o => !o.status) || x.earlier.any (fun e => e.out.any (fun o => !o.status))

/-- Issue the next write that waits, once none is outstanding (R341, R346). Memory takes its bytes with the response (R326). -/
def dmaIssue (s : State) (c : Nat) : State :=
  let x := dmaCh s c
  match x.queue with
  | [] => s
  | t :: ts =>
    if x.writing then s
    else
      let (bs, s1) := dmaBytesOut s t (if x.undef then some x.srcBox else none)
      let s2 := dmaPut s1 c { x with queue := ts, out := x.out ++ [{ addr := t.addr, n := t.n, status := false, bytes := bs }], asked := x.asked + 1 }
      if ts.isEmpty then dmaNextBurst s2 c else s2

/-- Responses, reads and writes have all come: what the descriptor ends with (R351 to R354). -/
def dmaSettle (s : State) (c : Nat) : State :=
  let x := dmaCh s c
  let st := s.get R.DMA_CHc_STATE c
  if x.burst ≠ 0 ∨ !x.queue.isEmpty ∨ !x.out.isEmpty ∨ !x.earlier.isEmpty ∨ st = dmaFETCH then s
  else match x.withdrawn with
  | some (e, why, a) => dmaWithdraw s c e why a
  | none =>
    if st ≠ dmaRUN ∧ st ≠ dmaDRAIN then s
    else match x.error with
    | some (cause, a) => dmaError s c cause a
    | none =>
      if x.idx < x.total ∨ x.abortRun = true then dmaAborted s c
      else if !x.told then
        dmaPut (dmaDone s c) c { x with out := [{ addr := x.desc + 0x40, n := 0, status := true, bytes := [] }], told := true, asked := x.asked + 1 }
      else
        let s1 := if bitOf x.ctrl 9 then dmaRaise s c 1 else s
        if x.abort then dmaPut (dmaRaise (dmaState s1 c dmaSTOPPED) c 3) c { x.stopped with asked := 0 }
        else if bitOf x.ctrl 10 && x.next != 0 then dmaFetch s1 c x.next
        else dmaState s1 c dmaIDLE

/-- A block of `n` bytes from `a` carries an uncorrectable mark, which a copy of Filler's left there (R333). -/
def dramMarked (s : State) (a n : Nat) : Bool := s.mc.marks.any (fun b => meetsBlock a n b)

/-- R347: the descriptor's bytes are in. -/
def dmaFetchDone (s : State) (c : Nat) (err : Bool) : State :=
  if s.get R.DMA_CHc_STATE c = dmaFETCH then
    let x := dmaCh s c
    if x.withdrawn.isSome then dmaSettle (dmaState s c dmaDRAIN) c
    else if x.abort then dmaPut (dmaRaise (dmaState s c dmaSTOPPED) c 3) c { x with abort := false, abortRun := false }
    else if err || decide (dramEnd ≤ x.desc) || dramMarked s x.desc 64 then dmaReject s c 1
    else
      let b := memBytes s.mem x.desc 64
      let y := dmaParse x b
      match dmaCheck s c y b with
      | some cause => dmaReject (dmaPut s c y) c cause
      | none =>
        let u := boxesMeet y.srcBox y.dstBox && !y.overlapDefined
        dmaNextBurst (dmaState (dmaPut s c { y with undef := u, began := true }) c dmaRUN) c
  else s

/-- R346, R352: a burst's reads are in; its writes issue, or the first error stops the descriptor. After an earlier error they are dropped. -/
def dmaReadDone (s : State) (c : Nat) (err : Option Nat) : State :=
  let x := dmaCh s c
  if s.get R.DMA_CHc_STATE c = dmaRUN ∧ x.burst ≠ 0 then
    let n := x.idx - x.burst
    let a0 := x.srcAddr n
    if x.error.isSome then dmaSettle (dmaPut s c { x with burst := 0 }) c
    else match (if err.isNone && dramMarked s a0 (x.burst * x.srcW) then some a0 else err) with
    | some a => dmaSettle (dmaPut s c { x with error := some (5, a), burst := 0 }) c
    | none =>
      let elems := (List.range x.burst).map (fun i => (n + i, memBytes s.mem (x.srcAddr (n + i)) x.srcW))
      let (ws, hold) := dmaWrites x elems x.hold
      let s1 := dmaPut s c { x with queue := dmaGroup ws, hold := hold, burst := 0 }
      dmaSettle (if ws.isEmpty then dmaNextBurst s1 c else dmaIssue s1 c) c
  else s

/-- HALF: the responses of the first ⌈N / 2⌉ source elements are all in, without error (R351). -/
def dmaHalf (ctrl n acked : Nat) (raised : Bool) : Bool := bitOf ctrl 8 && !raised && decide ((n + 1) / 2 ≤ acked) && decide (0 < acked)

/-- The end of the oldest write outstanding of a descriptor `e` that has reported DONE, `err` the cause where it failed (R351, R352): FULL with the last, or
its completion withdrawn. -/
def dmaEarlierAnswered (s : State) (c : Nat) (x : DmaCh) (e : DmaDone) (es : List DmaDone) (err : Option Nat) : State :=
  match e.out with
  | [] => dmaPut s c { x with earlier := es }
  | o :: rest =>
    let gone : Option (DmaDone × Nat × Nat) := match err with
      | some why => some (x.withdrawn.getD ({ e with out := [] }, why, o.addr))
      | none => x.withdrawn
    let lost := match gone with | some (d, _) => decide (d.desc = e.desc) | none => false
    let acked := if err.isSome then e.acked else e.acked + o.n
    let half := dmaHalf e.ctrl e.n acked e.halfRaised && !lost
    let s1 := if half then dmaRaise s c 0 else s
    let s2 := if rest.isEmpty && bitOf e.ctrl 9 && !lost then dmaRaise s1 c 1 else s1
    dmaPut s2 c { x with
      withdrawn := gone
      earlier := if rest.isEmpty then es else { e with acked := acked, out := rest, halfRaised := e.halfRaised || half } :: es }

/-- The end of the oldest write outstanding of the descriptor in progress (R351 to R353): HALF, or the first error, after which nothing more is issued. -/
def dmaAnswered (s : State) (c : Nat) (x : DmaCh) (err : Option Nat) : State :=
  match x.out with
  | [] => s
  | o :: rest =>
    match err with
    | some why => dmaPut s c { x with out := rest, queue := [], error := some (x.error.getD (why, o.addr)) }
    | none =>
      let acked := x.acked + o.n
      let half := dmaHalf x.ctrl x.total acked x.halfRaised && x.error.isNone
      dmaPut (if half then dmaRaise s c 0 else s) c { x with acked := acked, out := rest, halfRaised := x.halfRaised || half }

/-- The oldest write outstanding of the channel ends; `s` has what of it is in memory. -/
def dmaWriteEnds (s : State) (c : Nat) (err : Option Nat) : State :=
  let x := dmaCh s c
  match x.earlier with
  | e :: es => dmaSettle (dmaIssue (dmaEarlierAnswered s c x e es err) c) c
  | [] => dmaSettle (dmaIssue (dmaAnswered s c x err) c) c

/-- The oldest write outstanding of the channel. -/
def DmaCh.oldest (x : DmaCh) : Option DmaOut := match x.earlier with | e :: _ => e.out.head? | [] => x.out.head?

/-- R341, R351 to R353: one write response arrives, the oldest outstanding one. The failing address is that of the write it answers. -/
def dmaWriteResponse (s : State) (c : Nat) (err : Bool) : State :=
  let x := dmaCh s c
  if x.earlier = [] ∧ x.out = [] then s
  else match x.oldest with
    | none => dmaWriteEnds s c (if err then some 6 else none)
    | some o => dmaWriteEnds (if err then dmaSpoilt s o else dmaLand s o.addr o.bytes) c (if err then some 6 else none)

/-- R325, R326, R352, R355: the watchdog ends the transaction that holds the grant, of which `moved` bytes had been moved: cause 7, the first error unless
there was one. Of a write, only those bytes are in memory; a burst counts as issued. The responses still outstanding are waited for. -/
def dmaWatchdog (s : State) (c : Nat) (g : Grant) (moved : Nat) : State :=
  let x := dmaCh s c
  let st := s.get R.DMA_CHc_STATE c
  let held := match x.oldest with | some o => g.write && decide (g.addr / 64 = o.addr / 64) | none => false
  if held then
    match x.oldest with
    | some o => dmaWriteEnds (dmaLand s o.addr (o.bytes.take (g.addr + moved - o.addr))) c (some 7)
    | none => s
  else if st = dmaRUN ∨ st = dmaDRAIN then
    dmaSettle (dmaPut s c { x with burst := 0, queue := [], error := some (x.error.getD (7, g.addr)) }) c
  else if st = dmaFETCH then (if x.withdrawn.isSome then dmaSettle (dmaState s c dmaDRAIN) c else dmaReject s c 1)
  else s

/-- R504: a soft reset stops a channel in FETCH, RUN or DRAIN without a status record. -/
def dmaSoftReset (s : State) (c : Nat) : State :=
  dmaState (dmaPut s c DmaCh.init) c dmaIDLE

end Sys2Proof.Machine
end

