-- ==== Sys2Proof/Machine/Mc.lean ====
section
/-! DEFINITION. The DRAM controller and its arbiter (R314 to R339): rounds, quotas and windows, refresh, the watchdog, ECC,
scrubbing, retraining and section migration. -/
namespace Sys2Proof.Machine
open Sys2Proof

/-- The 32-byte class 0 event of MC and ARB (R339). -/
def State.mcEvent (s : State) (code input value addr : Nat) : State :=
  s.emit 0 0x09 0x01 (leBytes 1 code ++ leBytes 1 input ++ leBytes 2 0 ++ leBytes 4 value ++ leBytes 8 addr ++ leBytes 8 s.ts ++ leBytes 8 0)

/-- 64-byte units of a transaction (R320). -/
def arbUnits (bytes : Nat) : Nat := ceilDiv bytes 64

/-- Largest transaction of an input, in bytes (R317). -/
def arbLargest (i : Nat) : Nat := if i = 0 ∨ i = 2 then 64 else if i = 1 ∨ i = 4 ∨ i = 7 then 256 else 2048

/-- A transaction as R317 and R318 lay down: 64 B to the input's largest in multiples of 64, aligned, within a 2 KiB block. -/
def arbLegal (r : ArbReq) : Bool :=
  decide (r.input ≤ 12) && decide (64 ≤ r.bytes) && decide (r.bytes ≤ arbLargest r.input) && r.bytes % 64 = 0 && r.addr % 64 = 0 &&
  decide (r.addr % 2048 + r.bytes ≤ 2048)

/-- Quota units an input has left in this window (R320). -/
def arbLeft (s : State) (i : Nat) : Nat := smGet 0 s.mc.left i

/-- What every input has left at the start of a window: its quota in force (R320). -/
def windowQuotas (s : State) : List (Nat × Nat) := (List.range 13).map (fun i => (i, s.get R.ARB_QUOTA_INF_i 0 i))

/-- The chunk under migration is locked against every other input (R330, R336). -/
def chunkLocked (s : State) (input addr : Nat) : Bool :=
  match s.mc.locked, s.mc.migration with
  | some ch, some m => input != 3 && addr / 2048 = m.sect * 32768 + ch
  | _, _ => false

/-- A pending request not masked by its quota nor held by a chunk lock takes part in the round (R318, R320, R330). -/
def arbEligible (s : State) (r : ArbReq) : Bool :=
  arbLegal r && decide (arbUnits r.bytes ≤ arbLeft s r.input) && !(chunkLocked s r.input r.addr)

/-- Effective rank: input number plus age (R319). -/
def arbRank (s : State) (r : ArbReq) : Nat := r.input + s.get R.ARB_AGE_i 0 r.input

/-- The request that wins: highest rank, then higher input number (R319). -/
def arbWinner (s : State) : List ArbReq → Option ArbReq
  | [] => none
  | r :: rs =>
    match arbWinner s rs with
    | none => some r
    | some w =>
      if arbRank s w < arbRank s r ∨ (arbRank s w = arbRank s r ∧ w.input < r.input) then some r else some w

/-- An eligible input that loses ages by one, up to 15, and counts the round (R319, R338). -/
def arbLose (s : State) (i : Nat) : State :=
  (s.set R.ARB_AGE_i (min 15 (s.get R.ARB_AGE_i 0 i + 1)) 0 i).inc R.ARB_WAITS_i 0 i

/-- The DMA channel that input 4 serves next: round robin, after the one served last, among those with a transaction pending (R341). -/
def dmaNext (s : State) : Nat :=
  let waits (c : Nat) : Bool := decide (0 < (smGet DmaCh.init s.dma c).asked)
  match ((List.range 16).map (fun k => (s.mc.dmaServed + 1 + k) % 16)).find? waits with
  | some c => c
  | none => s.mc.dmaServed

/-- R315: a transaction at or above the end of the address space is not performed. -/
def dramAddrError (s : State) (input addr : Nat) : State :=
  (((((s.set R.MC_ADDR_ERR 1).set R.MC_ADDR_ERR_INPUT input).set64 R.MC_ADDR_ERR_ADDR_LO R.MC_ADDR_ERR_ADDR_HI addr).raise pgMC 4).mcEvent
    4 input 0 addr)

/-- R320: a window starts and every input's remaining quota is its quota in force. -/
def arbWindowStart (s : State) : State :=
  { s with mc := { s.mc with left := windowQuotas s, window := (s.mc.window + 1) % 3, dbgUsed := false } }

/-- Controller clocks of the window that has just started (R320). -/
def windowClocks (w : Nat) : Nat := if w % 3 = 2 then 1066 else 1067

/-- R324: a refresh falls due. During a transaction it is postponed; at the 8th postponement it takes the grant. -/
def refreshDue (s : State) : State :=
  match s.mc.grant with
  | none => { s with mc := { s.mc with postponed := 0 } }
  | some _ =>
    if s.mc.postponed + 1 < 8 then { s with mc := { s.mc with postponed := s.mc.postponed + 1 } }
    else ({ s with mc := { s.mc with postponed := 0 } }).inc R.ARB_PREEMPT_REF

/-- R325, R326: a grant held 20 µs is ended, and the block of R317 soft-reset with the endpoints of its crossings between the core and the
controller (R545; R542 numbers them 0x01 and 0x10). What the reset leaves: a DMA channel stopped, Hod in its fallback; every other block issues
its transaction again in full, so that it holds nothing here. A chunk under migration stays locked: the write response is still to come (R330). -/
def arbWatchdog (s : State) (moved : Nat) : State :=
  match s.mc.grant with
  | none => s
  | some g =>
    let s1 : State := { s with
      mc := { s.mc with grant := none, postponed := 0 }, pwr := { s.pwr with xings := s.pwr.xings.filter (fun e => e.1 != 0x01 && e.1 != 0x10) } }
    let s2 := ((((s1.inc R.ARB_WDOG_CNT).set R.ARB_WDOG_LAST g.input).raise pgARB 0).mcEvent 1 g.input moved g.addr)
    if g.input = 4 then dmaWatchdog s2 g.ch g moved
    else if g.input = 8 ∨ g.input = 9 then hodPath { s2 with hod := { s2.hod with spillReset := true } }
    else s2

/-- The address and input of the last ECC error (R337). -/
def eccLast (s : State) (addr input : Nat) (ue : Bool) : State :=
  ((s.set64 R.MC_ECC_LAST_ADDR_LO R.MC_ECC_LAST_ADDR_HI addr).set R.MC_ECC_LAST_INPUT input).setB R.MC_ECC_LAST_UE ue

/-- The 64 MiB section of an address (R330). -/
def sectionOf (addr : Nat) : Nat := addr / 2 ^ 26

/-- R332: a correctable error is counted (Filler's part is in Health.lean). -/
def eccCorrectable (s : State) (addr input : Nat) : State :=
  (eccLast (s.inc R.MC_ECC_CE_CNT) addr input false).raise pgMC 0

/-- R332: an uncorrectable error is counted, recorded and reported. -/
def eccUncorrectable (s : State) (addr input : Nat) : State :=
  ((eccLast (s.inc R.MC_ECC_UE_CNT) addr input true).raise pgMC 1).mcEvent 2 input 0 addr

/-- MC_STAT_RETRAIN_DUE sets (R329). -/
def retrainDue (s : State) : State :=
  if s.bit R.MC_STAT_RETRAIN_DUE then s else (s.set R.MC_STAT_RETRAIN_DUE 1).raise pgMC 3

/-- R329: at an IDLE boundary a due retraining starts; at a PAGE boundary only with the FIFOs at most 25 % full and none in the
last second, and otherwise the boundary is skipped and counted. -/
def retrainAt (s : State) (idle : Bool) : State :=
  if s.bit R.MC_STAT_RETRAIN_DUE && !(s.bit R.MC_STAT_RETRAIN_ACTIVE) then
    let recent := match s.mc.lastRetrain with | some t => decide (s.now < t + 1000000000) | none => false
    if idle || ((List.range 24).all (fun k => decide (fifoBytes s k ≤ 49152)) && !recent) then
      let s1 := s.set R.MC_STAT_RETRAIN_ACTIVE 1
      hodPath { s1 with hod := { s1.hod with retraining := true } }
    else s.inc R.MC_RETRAIN_DEFER
  else s

/-- R329, R371: retraining ends; the port serves again and Hod leaves its fallback. -/
def retrainDone (s : State) : State :=
  if s.bit R.MC_STAT_RETRAIN_ACTIVE then
    let s1 := (((s.set R.MC_STAT_RETRAIN_ACTIVE 0).set R.MC_STAT_RETRAIN_DUE 0).inc R.MC_RETRAIN_CNT).raise pgMC 2
    hodPath { s1 with
      hod := { s1.hod with retraining := false }
      mc := { s1.mc with lastRetrain := some s.now, trainT := s.mc.dieT, driftSent := false } }
  else s

/-- R329: the drift of DQS timing, against its limit. -/
def dqsDrift (s : State) (ps limit : Nat) : State :=
  let s1 := if limit < ps then retrainDue s else s
  if 2 * limit ≤ ps ∧ limit < ps ∧ s.mc.driftSent = false then
    ({ s1 with mc := { s1.mc with driftSent := true } }).mcEvent 3 0xFF ps 0
  else s1

/-- R324, R329: a die reports its temperature: above 85 °C the hot refresh rate; a move of more than 10 K since the last training
makes a retraining due. -/
def dramDieTemperature (s : State) (die : Nat) (centi : Int) : State :=
  let s1 := { s with mc := { s.mc with dieT := smPut s.mc.dieT die centi } }
  let hot := [0, 1].any (fun d => match smFind s1.mc.dieT d with | some t => decide ((8500 : Int) < t) | none => false)
  let s2 := s1.setB R.MC_STAT_HOT hot
  match smFind s.mc.trainT die with
  | some t => if 1000 < (centi - t).natAbs then retrainDue s2 else s2
  | none => { s2 with mc := { s2.mc with trainT := smPut s2.mc.trainT die centi } }

/-- R331: the next scrub address, and the end of a pass. -/
def scrubAdvance (s : State) : State :=
  let a := s.get64 R.MC_SCRUB_ADDR_LO R.MC_SCRUB_ADDR_HI + 64
  if dramEnd ≤ a then
    let s1 := ((s.set64 R.MC_SCRUB_ADDR_LO R.MC_SCRUB_ADDR_HI 0).set R.MC_SCRUB_PASS_S ((s.now - s.mc.passStart.getD s.now) / 1000000000)).inc R.MC_SCRUB_PASSES
    { s1 with mc := { s1.mc with passStart := some s.now } }
  else s.set64 R.MC_SCRUB_ADDR_LO R.MC_SCRUB_ADDR_HI a

/-- R330: a chunk's copy is written: its addresses map to the spare, and after the last chunk the section is retired. -/
def migrationChunk (s : State) : State :=
  match s.mc.migration, s.mc.locked with
  | some m, some ch =>
    if ch + 1 < 32768 then
      { s with mc := { s.mc with locked := none, migration := some { m with chunk := ch + 1 } } }
    else
      { (s.inc R.MC_SECT_RETIRED) with mc := { (s.inc R.MC_SECT_RETIRED).mc with
          locked := none, migration := none, remap := smPut s.mc.remap m.sect m.spare } }
  | _, _ => s

/-- ARB_QUOTA_SUM: the quotas in force plus one unit for the debug port (R322). -/
def quotaSum (s : State) : Nat := ((List.range 13).map (fun i => s.get R.ARB_QUOTA_INF_i 0 i)).foldl (· + ·) 1

/-- The quota an input would have in force with the automatic needs `n10` and `nRing` (R321). -/
def quotaFor (s : State) (n10 nRing i : Nat) : Nat :=
  let q := s.get R.ARB_QUOTA_i 0 i
  let auto (need : Nat) : Nat := max 32 (ceilDiv (3 * need) 2)
  if q = 0 then (if i = 10 then auto n10 else if i = 11 ∨ i = 12 then auto nRing else q) else q

def quotaSumFor (s : State) (n10 nRing : Nat) : Nat := ((List.range 13).map (quotaFor s n10 nRing)).foldl (· + ·) 1

/-- Put the quotas in force, the automatic ones from the given demands, which later boundaries keep (R321). -/
def quotasInForce (s : State) (n10 nRing : Nat) : State :=
  (List.range 13).foldl (fun t i => t.set R.ARB_QUOTA_INF_i (quotaFor s n10 nRing i) 0 i) { s with mc := { s.mc with needCap := n10, needRing := nRing } }

/-- An IDLE boundary puts the quotas written in force; the automatic ones keep their last computed values (R321). -/
def quotasKeep (s : State) : State := quotasInForce s s.mc.needCap s.mc.needRing

/-- R338: ARB_CNT_CLEAR clears every counter of the page. -/
def arbCntClear (s : State) : State :=
  let s1 := ((s.set R.ARB_WDOG_CNT 0).set R.ARB_PREEMPT_REF 0).set R.ARB_PREEMPT_DBG 0
  (List.range 13).foldl (fun t i => ((t.set R.ARB_GRANTS_i 0 0 i).set R.ARB_WAITS_i 0 0 i).set R.ARB_MAXWAIT_i 0 0 i) s1

end Sys2Proof.Machine
end

