-- ==== Sys2Proof/Machine/Poe.lean ====
section
/-! DEFINITION. Power over the cable: the power-interface die and its frames (R384 to R387, R524 to R529, R554) and the budget (R388 to
R391). -/
namespace Sys2Proof.Machine
open Sys2Proof

def State.modPd (s : State) (f : PdDie → PdDie) : State := { s with pd := f s.pd }

/-- P_class (R384), mW. -/
def classPower (c : Nat) : Nat :=
  match c with | 1 => 3840 | 2 => 6490 | 3 => 13000 | 4 => 25500 | 5 => 40000 | 6 => 51000 | 7 => 62000 | 8 => 71300 | _ => 0

/-- The 32-byte class 0 event of power, clocks and reset (R555). -/
def State.pwrEvent (s : State) (code detail value ts : Nat) : State :=
  s.emit 0 0x15 0x01 (leBytes 1 code ++ leBytes 1 detail ++ leBytes 2 0 ++ leBytes 4 value ++ leBytes 8 ts ++ leBytes 16 0)

/-! ## The budget (R388 to R391) -/

def budgetNow (s : State) : Nat :=
  let g := s.get R.POE_CLASS_GRANT
  if s.bit R.POE_STAT_AUX_ACTIVE ∧ s.get R.POE_AUX_MW ≠ 0 then s.get R.POE_AUX_MW
  else if g < 4 then 0
  else if s.bit R.POE_STAT_LLDP_AGREED then min (classPower g) (s.get R.POE_ALLOC_MW) else classPower g

/-- Powered segments left, and those switched off, highest first, until the rest fit (R390); `l` ascending, reversed. -/
def shedGo (s : State) : List Nat → List Nat × List Nat
  | [] => ([], [])
  | k :: l =>
    if needPower s (claimOf s (k :: l)) ≤ availPower s then (k :: l, [])
    else let r := shedGo s l; (r.1, k :: r.2)

/-- Segments switched off by a fall of the budget (R390). -/
def poeShed (s : State) : State :=
  match (shedGo s (segsPowered s).reverse).2.reverse with
  | [] => s
  | k :: l =>
    let off := k :: l
    let s1 := s.each off.reverse (fun t j => segOff (((t.set R.SLC_SEG_STAT_BUDGET_DENIED 1 j).inc R.POE_SHED_CNT)) j)
    let s2 := { s1 with staggerQ := s1.staggerQ.filter (fun j => decide (j ∉ off)) }
    ((deniedFirst s2).raise pgPOE 2).linkEvent 5 k (sumN (off.map (fun j => 2 ^ j)))

/-- The budget is decided anew; a change is reported, and a fall, and nothing else, sheds (R388, R390). -/
def budgetUpdate (s : State) : State :=
  let b := budgetNow s
  let old := s.get R.POE_BUDGET_MW
  if b = old then s
  else
    let s1 := ((s.set R.POE_BUDGET_MW b).raise pgPOE 0).linkEvent 3 (s.get R.POE_CLASS_GRANT) b
    if b < old then poeShed s1 else s1

/-- Segments whose entries are in effect enabled. -/
def enabledSegs (s : State) : List Nat := (List.range (Variant.slices s.variant)).filter (segEn s)

/-- A request goes to the PSE, at most one a second (R389). -/
def lldpSend (s : State) : State :=
  let free := match s.poe.reqAt with | none => true | some t => decide (t + 1000000000 ≤ s.now)
  if s.poe.reqDue && free && s.bit R.POE_CTRL_LLDP_EN && s.bit R.LINK_STAT_UP then
    ({ s with poe := { s.poe with reqDue := false, reqAt := some s.now } }).send (.lldp (s.get R.POE_REQ_MW))
  else s

/-- POE_REQ_MW follows the class and the enabled segments (R389). -/
def poeReq (s : State) : State :=
  let r := min (classPower (s.get R.POE_CLASS_GRANT)) (needPower s (claimOf s (enabledSegs s)) + s.get R.POE_RESERVE_MW)
  lldpSend (if r = s.get R.POE_REQ_MW then s else { s.set R.POE_REQ_MW r with poe := { s.poe with reqDue := true } })

/-- The start-up wait for the PSE is over: segments that waited are powered (R389). -/
def poeWaitOver (s : State) : State :=
  if s.poe.wait then segGrantNow { s with poe := { s.poe with wait := false, waiting := [] } } s.poe.waiting else s

/-- LLDP_ALLOCATION (R389, R390). -/
def lldpAlloc (s : State) (mw : Nat) : State :=
  if s.bit R.POE_CTRL_LLDP_EN then
    poeWaitOver (budgetUpdate ((s.set R.POE_ALLOC_MW mw).setB R.POE_STAT_LLDP_AGREED (mw != 0)))
  else s

/-- An IDLE entry that finds POE_CTRL_LLDP_EN = 0 in force: nothing is agreed any more (R388, R389; log 110). -/
def lldpLapse (s : State) : State :=
  if s.bit R.POE_CTRL_LLDP_EN then s else (s.set R.POE_STAT_LLDP_AGREED 0).set R.POE_ALLOC_MW 0

/-- The requests of R391 are refused: the device alone does not fit. -/
def noPower (s : State) : Bool := decide (availPower s < needPower s 0)

/-! ## The power-interface die -/

/-- The most the PSE can grant after `n` classification events (R384; log 30). -/
def classByEvents (n : Nat) : Nat := if n = 0 then 0 else if n = 1 then 3 else if n < 4 then 4 else if n = 4 then 6 else 8

/-- CLASSIFICATION_EVENT (R384, R386), before the cable input has risen: PD_ACLOAD is high throughout an Autoclass window. -/
def pdClassify (s : State) (autoclass : Bool) : State :=
  if s.pd.input then s
  else if autoclass then s.modPd (fun p => { p with acload := s.bit R.POE_STAT_ACLASS })
  else
    let n := min 5 (s.pd.events + 1)
    s.modPd (fun p => { p with events := n, grant := min (s.get R.POE_CLASS_REQ) (classByEvents n), acload := false })

/-- A fault of the die (R525, R526): 5 retry wait, or lockout. -/
def pdFault (s : State) (code state : Nat) : State :=
  s.modPd (fun p => { p with fault := code, faults := min 65535 (p.faults + 1), state := state, limit := p.limit && decide (4 ≤ code) })

/-- The cable rises through 39.5 V: hot-swap begins (R525). -/
def pdRise (s : State) : State := s.modPd (fun p => { p with input := true, limit := false, acload := false, state := if p.state = 6 then 1 else p.state })

/-- The cable falls through 34.0 V: the path turns off and the die forgets its class; the converter goes on from the auxiliary input
where that is in use (R525, R527, R529). -/
def pdFall (s : State) : State :=
  if !s.pd.input then s
  else
    let dip := decide (s.pd.state ∈ [2, 3])
    if s.pd.auxActive then s.modPd (fun p => { p with input := false, limit := false, events := 0, grant := 0 })
    else
      s.modPd (fun p => { p with
        input := false, limit := false, events := 0, grant := 0, state := 6, fault := if dip then 3 else p.fault, faults := 0 })

/-- The drain has fallen below 1.0 V: the limit rises to 2.2 A (R525). The converter follows 1 ms later (R526). -/
def pdInrush (s : State) : State := if s.pd.input then s.modPd (fun p => { p with limit := true }) else s

/-- PD_INRUSH_TIMEOUT and PD_CURRENT_LIMIT open the FET (R525). -/
def pdOpen (s : State) (code : Nat) : State :=
  if s.pd.input && (if code = 1 then !s.pd.limit && s.pd.state = 1 else s.pd.limit && decide (s.pd.state ∈ [1, 2, 3])) then pdFault s code 5 else s

/-- PD_RETRY, 1 s after a fault of the power path (R525). -/
def pdRetryNow (s : State) : State := if s.pd.state = 5 && s.pd.input && decide (s.pd.fault < 4) then s.modPd (fun p => { p with state := 1, limit := false }) else s

/-- CONVERTER_START (R526, R385, R387): the converter soft-starts from the cable, or from the auxiliary input. -/
def convStart (s : State) : State :=
  let cable := s.pd.input && s.pd.limit && decide (4 ≤ s.pd.grant) && s.pd.state = 1
  let aux := s.pd.auxPresent && (s.pd.prio || !cable)
  if aux && decide (s.pd.state ∈ [1, 6]) then s.modPd (fun p => { p with state := 2, auxActive := true })
  else if cable then s.modPd (fun p => { p with state := 2, auxActive := false })
  else s

/-- CONVERTER_FAULT (R526). -/
def convFault (s : State) (overTemp : Bool) : State :=
  if decide (s.pd.state ∈ [2, 3, 4]) then pdFault s (if overTemp then 5 else 4) 5 else s

/-- CONVERTER_RESTART, 100 ms after a converter fault (R526). -/
def convRestart (s : State) : State :=
  if s.pd.state = 5 && decide (s.pd.fault ∈ [4, 5]) then s.modPd (fun p => { p with state := 2 }) else s

/-- AUX_PRESENT (R387, R527). -/
def auxOn (s : State) : State :=
  s.modPd (fun p =>
    let go := p.prio && decide (p.state ∈ [3, 4])
    { p with auxPresent := true, auxActive := p.auxActive || go, state := if go then 4 else p.state })

/-- AUX_FAIL: back to the cable, or the bar bus falls (R387, R527, R550). -/
def auxOff (s : State) : State :=
  s.modPd (fun p =>
    let was := p.auxActive
    let st := if !was then p.state else if p.input && decide (4 ≤ p.grant) then (if p.state = 4 then 3 else p.state) else 6
    { p with auxPresent := false, auxActive := false, state := st })

/-- The command frame: auxiliary priority, unless the auxiliary input is never to be used (R417, R528). -/
def pdCommand (s : State) : State :=
  let prio := s.bit R.POE_CTRL_AUX_PRIO && s.get R.POE_AUX_MW != 0
  s.modPd (fun p =>
    let on := p.auxPresent && prio && decide (p.state ∈ [3, 4])
    let off := p.auxActive && !prio && p.input && decide (4 ≤ p.grant) && p.state = 4
    { p with prio := prio, auxActive := (p.auxActive || on) && !off, state := if on then 4 else if off then 3 else p.state })

/-- The converter, which soft-starts, has the bar bus good (R526). -/
def PdDie.settled (p : PdDie) (busGood : Bool) : PdDie := if p.state = 2 && busGood then { p with state := if p.auxActive then 4 else 3 } else p

/-- A status frame (R528, R554): the POE fields follow the die, and the budget with them. -/
def pdShow (s0 : State) (vin iin : Nat) (busGood : Bool) : State :=
  let s := (pdCommand s0).modPd (·.settled busGood)
  let p := s.pd
  let aux := s.bit R.POE_STAT_AUX_PRESENT != p.auxPresent || s.bit R.POE_STAT_AUX_ACTIVE != p.auxActive
  let s1 := ((s.setB R.POE_STAT_AUX_PRESENT p.auxPresent).setB R.POE_STAT_AUX_ACTIVE p.auxActive).set R.POE_CLASS_GRANT p.grant
  let s2 := if aux then s1.raise pgPOE 3 else s1
  let new := decide (s.get R.POE_PD_FAULT_CNT < p.faults) || p.fault != 0 && p.fault != s.get R.POE_PD_FAULT
  let s3 := (((s2.set R.POE_PD_STATE p.state).set R.POE_PD_FAULT p.fault).set R.POE_PD_FAULT_CNT p.faults).set R.POE_BARRIER_OK 1
  let s4 := (s3.set R.POE_PD_VIN_MV vin).set R.POE_PD_IIN_MA iin
  let s5 := if new then (s4.raise pgPWR 2).pwrEvent 6 p.fault 0 s.ts else s4
  let s6 := if s5.bit R.PWR_BUS_GOOD && !busGood then s5.raise pgPWR 1 else s5
  poeReq (budgetUpdate (s6.setB R.PWR_BUS_GOOD busGood))

/-- PD_STATUS_FRAME: in a full reset the die goes on by itself, and the controller die's fields hold their reset values (R529, R582). -/
def pdFrame (s : State) (vin iin : Nat) (busGood : Bool) : State :=
  if s.pwr.boot = .held then s.modPd (·.settled busGood) else pdShow s vin iin busGood

/-- BARRIER_FAIL: 100 µs without a frame (R528). -/
def barrierLost (s : State) : State :=
  if s.bit R.POE_BARRIER_OK then ((s.set R.POE_BARRIER_OK 0).raise pgPWR 3).pwrEvent 5 0 0 s.ts else s

end Sys2Proof.Machine
end

