-- ==== Sys2Proof/Machine/Sync.lean ====
section
/-! DEFINITION. What a PAGE or IDLE boundary does to segments (R56 to R60, R66, R121, R137): the reload of named entries, and the
set of contributing segments. -/
namespace Sys2Proof.Machine
open Sys2Proof

/-! ## Automatic quotas (R321) -/

/-- Least PERIOD × A of the ladder: its highest output line rate (R295, R321). -/
def ladderFastest (s : State) : Nat :=
  match rungs s with
  | [] => 0
  | g :: l => l.foldl (fun m x => min m (x.period * x.avg)) (g.period * g.avg)

/-- Clocks of the pixel clock per output line at the highest rate, in a mode (R321). -/
def outClocks (s : State) (m : Mode) : Nat :=
  match m with | .capture => ladderFastest s | _ => bankPeriod (liveSlots s)

/-- Peak demand of the ring inputs for contributing entries `es`, in 64-byte units per µs, rounded up (R321). -/
def ringDemand (s : State) (m : Mode) (es : List Entry) : Nat :=
  let b := sumN (es.map (fun e => segRows e * (2 * segRowPx e + 64) + 64))
  let p := outClocks s m
  if p = 0 then 0 else ceilDiv (s.get R.TIMING_PCLK_KHZ * 1000 * b) (p * 64000000)

/-- Peak demand of the capture formatter (R321, R295). -/
def captureDemand (s : State) (m : Mode) (bytes : Nat) : Nat :=
  match m with
  | .capture => let p := ladderFastest s; if p = 0 then 0 else ceilDiv (bytes * s.get R.TIMING_PCLK_KHZ * 1000) (p * 64000000)
  | _ => 0

def contribEntries (s : State) : List Entry := (contribs s).filterMap (fun k => (s.slice k).entry)

/-- Automatic quotas computed for the mode `m` (R321). -/
def quotasFor (s : State) (m : Mode) : State :=
  quotasInForce s (captureDemand s m (s.get R.CAP_LINE_BYTES)) (ringDemand s m (contribEntries s))

/-! ## SEG_SYNC (R56 to R58) -/

/-- Slice k's entry as it would stand with the slices `ks` reloaded. -/
def entryWith (s : State) (ks : List Nat) (k : Nat) : Option Entry := if k ∈ ks then some (segDram s k) else (s.slice k).entry

/-- A neighbour that counts for the checks of R49 and R55: enabled, present, not denied. -/
def neighbour (s : State) (ks : List Nat) (k : Nat) : Option Entry :=
  let e := entryWith s ks k
  if entryEn s k e && !(segDenied s k) then e else none

/-- The pattern book bank that is live with the new entries: the inactive one where a commit is pending, else the live one with its edits (R66, R68). -/
def bankToCome (s : State) : List Slot := bankSlots s (if s.bit R.TIMING_PB_STAT_PENDING then 1 - liveBank s else liveBank s)

/-- First failure of one named entry: code and byte offset (R55, R66, R121). -/
def entryFailure (s : State) (ks : List Nat) (k : Nat) : Option (Nat × Nat) :=
  let e := segDram s k
  match segCheck e (if k = 0 then none else neighbour s ks (k - 1)) (neighbour s ks (k + 1)) with
  | some x => some x
  | none =>
    if !(segEnabled e) then none
    else if [false, true].any (fun odd => !(pbSampleOk (bankToCome s) (segLead e + segPpt e) odd)) then some (0x203, 0x04)
    else if !(deadOk s k e) then some (0x10A, 0xC0)
    else none

/-- Entries that contribute once the slices `ks` are reloaded (R60, R137). -/
def contribAfter (s : State) (ks : List Nat) : List Entry :=
  (List.range (Variant.slices s.variant)).filterMap (fun k =>
    let e := entryWith s ks k
    if entryEn s k e && ((s.slice k).contributing || (s.slice k).readyOnce) then e else none)

/-- First failure of a reload, as ERR_CODE and ERR_INFO (R57, R137, R322). -/
def syncFailure (s : State) (ks : List Nat) : Option (Nat × Nat) :=
  match ks.findSome? (fun k => (entryFailure s ks k).map (fun x => (x.1, k + 256 * x.2))) with
  | some x => some x
  | none =>
    let es := contribAfter s ks
    if s.inJob && decide (s.get R.MC_RING_LINES < ringNeed (s.get R.TIMING_FLOAT_PITCH) es) then some (0x10C, 0)
    else if decide (s.get R.ARB_WIN_CAP <
        quotaSumFor s (captureDemand s s.mode (s.get R.CAP_LINE_BYTES)) (ringDemand s s.mode es)) then some (0x10D, 0)
    else none

/-- A checked entry comes into force in slice k (R57, R82, R121, R144, R585). -/
def entryInForce (s : State) (k : Nat) : State :=
  let e := segDram s k
  let old := (s.slice k).entry
  let s1 := (s.set R.SLC_SEG_STAT_VALID 1 k).modSlice k (fun x => { x with
    entry := some e, dead := if segEnabled e then deadKeys e (deadList s e) else [] })
  let s2 := deadRefresh (afeApply s1 k e) k
  let s3 := if (s2.slice k).contributing && segEnabled e then rowsNewEntry s2 k e else s2
  if old = some e then s3 else scrimEntryChanged s3 k old (some e)

/-- SEG_SYNC_LOAD: the slices `ks` are read, checked, and brought into force together or not at all (R57). -/
def segSyncLoad (s : State) (ks : List Nat) : State :=
  match ks with
  | [] => s
  | _ => match syncFailure s ks with
    | some (c, i) => (s.set R.TIMING_SYNC_FAIL 1).err pgTIMING c i
    | none => s.each ks entryInForce

/-- Segments turned on, off, or named while unpowered (R59, R60, R94); then the contributing set (R60). `ks`: slices just named, whether or not their entries
passed (log 114). One whose light is still being turned off comes up when that is done (`turnedOff`). -/
def segsSwitch (s : State) (ks : List Nat) : State :=
  let all := List.range 24
  let off := all.filter (fun k => ((s.slice k).wasEn || (s.slice k).contributing) && !(segEn s k))
  let s1 := s.each off (fun t k =>
    let was := (t.slice k).contributing
    let t1 := if was then scrimEntryChanged (rowsStop (t.modSlice k (fun x => { x with contributing := false })) k) k none none else t
    segDisable t1 k)
  let on := all.filter (fun k => segEn s1 k && (s1.slice k).bring = .off && (!(s1.slice k).wasEn || decide (k ∈ ks)))
  let s2 := if on = [] then s1 else segGrant s1 on
  let s3 := s2.each all (fun t k => let b := segEn t k; if (t.slice k).wasEn = b then t else t.modSlice k (fun x => { x with wasEn := b }))
  let new := all.filter (fun k => segEn s3 k && (s3.slice k).readyOnce && !((s3.slice k).contributing))
  let s4 := s3.each new (fun t k => scrimEntryChanged (t.modSlice k (fun x => { x with contributing := true })) k none none)
  domSync s4

/-- What a PAGE or IDLE boundary does to segments, with the slices of `mask` allowed to reload (R57, R58, R60, R137, R153, R178,
R321); whether seam zones still fit is judged once the boundary's tables are in (`seamClip`, R33, R150). -/
def segBoundary (s : State) (mask : Nat) : State :=
  let m := s.get R.TIMING_SEG_SYNC
  let ks := (maskList (m &&& mask) 24).filter (fun k => decide (k < Variant.slices s.variant))
  let s0 := { (s.set R.TIMING_SEG_SYNC ((m - (m &&& mask)) ||| s.timing.segLate)) with timing := { s.timing with segLate := 0 } }
  let before := contribs s0
  let loaded := ks != [] && (syncFailure s0 ks).isNone
  let s1 := segsSwitch (segSyncLoad s0 ks) ks
  if !loaded && decide (contribs s1 = before) then s1
  else
    let s2 := quotasFor (widthFix (ringNeedSet s1 (ringNeed (s1.get R.TIMING_FLOAT_PITCH) (contribEntries s1)))) s1.mode
    let s3 := if loaded then poeReq s2 else s2
    if s3.inJob then { s3 with scrim := { s3.scrim with dirty := true } } else s3

end Sys2Proof.Machine
end

