-- ==== Sys2Proof/Machine/Cal.lean ====
section
/-! DEFINITION. Primer (R420 to R442): what is pending, runs and their captures, results and their checks, records. -/
namespace Sys2Proof.Machine
open Sys2Proof

def State.modCal (s : State) (f : Cal → Cal) : State := { s with cal := f s.cal }

def State.modRun (s : State) (f : CalRun → CalRun) : State := s.modCal (fun c => { c with run := c.run.map f })

def kAFE := 0
def kSHD := 1
def kBASE := 2
def kSTITCH := 3
def kCOLOUR := 4

/-- The SHUTTER and FEED axes (R422, R425). -/
def axSHUTTER := 3

def maskOf (l : List Nat) : Nat := sumN (l.map (fun k => 2 ^ k))

/-- Remove the bits of `b` from `a`. -/
def maskDrop (a b : Nat) : Nat := a - (a &&& b)

/-! ## Events and status (R439, R442) -/

/-- The class 0 event of Primer (R442). -/
def calEvent (s : State) (code kind slice cause figure : Nat) : State :=
  s.emit 0 0x11 0x01 (leBytes 1 code ++ leBytes 1 kind ++ leBytes 1 slice ++ leBytes 1 cause ++ leBytes 4 figure ++ leBytes 8 s.ts ++
    leBytes 16 0)

/-- CAL_PENDING, CAL_PENDING_SLICES and CAL_STAT_RECOVERY from what is pending (R429, R439). -/
def calShow (s : State) : State :=
  let c := s.cal
  let p := b2n (c.pendAfe != 0) + 2 * b2n (c.pendShd != 0) + s.get R.CAL_REQ / 4 * 4
  let s1 := (s.set R.CAL_PENDING p).set R.CAL_PENDING_SLICES (c.pendAfe ||| c.pendShd)
  let s2 := s1.modCal (fun x => { x with overdue := x.overdue &&& p })
  if (c.lackAfe ||| c.lackShd) &&& maskOf (contribs s) = 0 then s2.set R.CAL_STAT_RECOVERY 0 else s2

/-- A rejected result (R433): slice or seam `i`. -/
def calReject (s : State) (kind i cause : Nat) (figure : Int) : State :=
  (((calEvent s 1 kind i cause (toTwos 32 figure)).set R.CAL_STAT_LAST_FAIL 1).set R.CAL_FAIL_INFO (kind + 256 * (i % 32) + 65536 * cause)).raise
    pgCAL 1

/-- Values that the quality figures read outside their window: 0 (R439). -/
def calFiguresShown (s : State) : Bool :=
  s.pwr.boot != .done || s.mode == .calibrate || s.mode == .service || s.bit R.CAL_STAT_RECOVERY

/-! ## Temperatures (R428) -/

/-- T(x_c(k)) in 0.01 °C, where a reading exists. -/
def barTemp (s : State) (k : Nat) : Option Frac :=
  let l := thermValid s
  match (s.slice k).entry with
  | some e => if l = [] then none else some (thermAt l (segCentre6 e))
  | none => none

/-- Bar temperature rounded to 0.01 °C; without a reading the recorded value is a free value (log 40). -/
def barTempRec (s : State) (k : Nat) : Int × State :=
  match barTemp s k with
  | some t => (roundDiv t.num t.den, s)
  | none => let d := s.draw; (Config.unstated 23 d.1, d.2)

def dieTemp (s : State) (k : Nat) : Int := s.getI R.MON_Ti 0 k

/-- Mean bar temperature: of the valid thermistors (log 40). -/
def meanTemp (s : State) : Int × State :=
  let l := thermValid s
  if l = [] then let d := s.draw; (Config.unstated 23 d.1, d.2) else (roundDiv (sumI (l.map (·.2))) l.length, s)

/-! ## What falls due (R428, R429) -/

/-- A slice is in the run in progress for the kind. -/
def calRunning (s : State) (shd : Bool) (k : Nat) : Bool :=
  match s.cal.run with
  | some r => (smFind r.slices k).any (fun x => if shd then x.shd else x.afe)
  | none => false

/-- Make kinds pending for slice k, which must be powered (R428, R429). -/
def calDue (s : State) (k : Nat) (afe shd : Bool) : State :=
  if !((s.slice k).powered) then s
  else calShow (s.modCal (fun c => { c with
    pendAfe := if afe then c.pendAfe ||| 2 ^ k else c.pendAfe
    pendShd := if shd then c.pendShd ||| 2 ^ k else c.pendShd }))

/-- AFE_SPARE_STALE makes both tile kinds due (R107, R428). -/
def calStaleSlice (s : State) (k : Nat) : State :=
  if s.bit R.AFE_SPARE_STALE k && !(calRunning s false k) then calDue s k true true else s

/-- The temperature and spare triggers for slice k (R428, R440). -/
def calTriggerSlice (s : State) (k : Nat) : State :=
  let dt := s.get R.CAL_DT
  let dd := s.get R.CAL_DT_DIE
  let auto := s.bit R.CAL_CTRL_AUTO_EN
  let s1 := if auto && dt != 0 && (s.slice k).shaded && !(calRunning s true k) then
      match barTemp s k with
      | some t =>
        if decide ((10 * dt * t.den : Nat) < (t.num - s.getI R.CAL_SLCk_T_SHD 0 k * t.den).natAbs) then calDue s k false true else s
      | none => s
    else s
  let s2 := if auto && dd != 0 && s1.bit R.MON_Ti_VALID 0 k && !(bitOf s1.cal.lackAfe k) && !(calRunning s1 false k) &&
      decide (10 * dd < (dieTemp s1 k - s1.getI R.CAL_SLCk_T_AFE 0 k).natAbs) then calDue s1 k true true
    else s1
  calStaleSlice s2 k

/-- Primer looks at AFE_SPARE_STALE of every powered slice, at a PAGE boundary (R107). -/
def calStale (s : State) : State :=
  ((List.range (Variant.slices s.variant)).filter (fun k => (s.slice k).powered)).foldl calStaleSlice s

/-- CAL_TRIGGER over every powered slice (R428). -/
def calTrigger (s : State) : State :=
  ((List.range (Variant.slices s.variant)).filter (fun k => (s.slice k).powered && bitOf s.cal.seen k)).foldl calTriggerSlice s

/-- A kind pending for CAL_OVERDUE_S (R429). -/
def calOverdueNow (s : State) (kind : Nat) : State :=
  if s.get R.CAL_OVERDUE_S = 0 || !(bitOf (s.get R.CAL_PENDING) kind) || bitOf s.cal.overdue kind then s
  else
    let s1 := (calEvent s 2 kind 0xFF 0 (s.get R.CAL_PENDING_SLICES)).modCal (fun c => { c with overdue := setBit c.overdue kind true })
    (s1.set R.CAL_STAT_OVERDUE 1).raise pgCAL 2

/-! ## Host requests (R427, R428, R199) -/

def chartAddr (s : State) : Nat := s.get64 R.CAL_CHART_BASE_LO R.CAL_CHART_BASE_HI

def chartSpace (s : State) : Nat := leNat (memBytes s.mem (chartAddr s + 2) 1) % 2

/-- Why a requested kind is refused: ERR_CODE of the CAL page, 0 where none is named (R11, R199, R427). -/
def calRefusal (s : State) (kind : Nat) : Option Nat :=
  if kind = kBASE then
    if !(Variant.hasTrk s.variant) then some 0x901
    else if s.get R.TRK_CAL_SPACING_NM = 0 || decide (s.get R.TRK_CAL_BARS < 3) then some 0
    else none
  else if kind = kCOLOUR then
    if s.get R.PLUMB_CTRL_MODE ≠ 1 then some 0x905
    else if chartSpace s = 0 && !(Variant.hasIns s.variant) then some 0x906
    else none
  else none

/-- 1s written to CAL_REQ: a refused kind stays out (R12), the others wait. -/
def calRequest (s : State) (mask : Nat) : State :=
  let one (t : State) (kind : Nat) : State :=
    match calRefusal t kind with
    | some c => (if c = 0 then t else t.err pgCAL c).err pgSYS 0x21
    | none =>
      let t1 := t.set R.CAL_REQ (setBit (t.get R.CAL_REQ) kind true)
      let ks := (contribs t1).filter (fun k => (t1.slice k).powered)
      if kind = kAFE then t1.modCal (fun c => { c with pendAfe := c.pendAfe ||| maskOf ks })
      else if kind = kSHD then t1.modCal (fun c => { c with pendShd := c.pendShd ||| maskOf ks }) else t1
  calShow ((maskList mask 5).foldl one s)

/-! ## Records (R435, R436) -/

def calKey (kind slice : Nat) : Nat := 32 * kind + (if slice = 0xFF then 31 else slice)

/-- SHAKE256 with 256-bit output (R435; log 6). -/
def shake (b : List (BitVec 8)) : List (BitVec 8) := shake256 32 b

/-- Magic, CRC-32C and digest all hold (R436). -/
def recValid (b : List (BitVec 8)) : Bool :=
  leAt b 0 4 == 0x5052494D && leAt b 0x2C 4 == crc32c (b.take 0x2C ++ b.drop 0x60) &&
  (b.drop 0x30).take 32 == shake (b.take 0x30 ++ b.drop 0x60)

def recSlot (s : State) (key slot : Nat) : Option (List (BitVec 8)) := (smFind s.cal.nor (2 * key + slot)).filter recValid

def recGen (b : List (BitVec 8)) : Nat := leAt b 8 4

/-- Slot A is the newer of two valid records (serial arithmetic). -/
def recNewerA (a b : List (BitVec 8)) : Bool := decide ((recGen a + 2 ^ 32 - recGen b) % 2 ^ 32 < 2 ^ 31)

/-- The record in use, and its slot (R436). -/
def recInUse (s : State) (key : Nat) : Option (List (BitVec 8) × Nat) :=
  match recSlot s key 0, recSlot s key 1 with
  | some a, some b => if recNewerA a b then some (a, 0) else some (b, 1)
  | some a, none => some (a, 0)
  | none, some b => some (b, 1)
  | none, none => none

def recPayload (b : List (BitVec 8)) : List (BitVec 8) := b.drop 0x60

/-- Bytes of a payload of each kind (R435). -/
def recLength (kind : Nat) (b : List (BitVec 8)) : Nat :=
  match kind with | 0 => 24 | 1 => 245880 | 2 => 200 | 3 => 104 | _ => leAt b 0x0C 4

/-- Pixels that row r of a shading payload gives words to: one more than the last that does not read as a pixel without a table (R435). -/
def payRowPx (p : List (BitVec 8)) (r : Nat) : Nat :=
  (List.range 12288).foldl (fun n j => if leAt p (4 * (12288 * r + j)) 4 = shadeUnity then n else j + 1) 0

/-- R436: the payload matches the row count and pixel count of the segment's entry: an AFE_TRIM record trims no input beyond the entry's, a SHADING
record has words for the pixels of the entry's rows, and for them alone (log 119). -/
def payMatches (kind : Nat) (e : Entry) (p : List (BitVec 8)) : Bool :=
  if kind = 0 then (List.range 10).all (fun c => segAssigned e c || leAt p (2 * c) 2 == 0)
  else if kind = 1 then
    (List.range 5).all (fun r => payRowPx p r == if (segDescs e).any (fun ds => descRole ds == r) then segRowPx e else 0)
  else true

/-- A valid record of the kind that is valid for the segment of slice k (R436). -/
def recUsable (s : State) (kind slice : Nat) (b : List (BitVec 8)) : Bool :=
  leAt b 4 1 == kind && (recPayload b).length == recLength kind b &&
  (if slice = 0xFF then true
   else leAt b 0x18 8 == s.get R.SLC_SEG_SERIAL slice && (s.slice slice).entry.all (fun e => payMatches kind e (recPayload b)))

/-- The slice a record key stands for (R435). -/
def keySlice (key : Nat) : Nat := if key % 32 = 31 then 0xFF else key % 32

/-- The record in force of a kind and slice: in use, and usable (R436, R441). -/
def recInForce (s : State) (key : Nat) : Option (List (BitVec 8)) :=
  ((recInUse s key).map (·.1)).filter (recUsable s (key / 32) (keySlice key))

/-- The 96-byte header and the payload of a new record (R435). -/
def recBuild (s : State) (kind slice time serial : Nat) (tBar tDie : Int) (count : Nat) (payload : List (BitVec 8)) : List (BitVec 8) :=
  let gen := match recInUse s (calKey kind slice) with | some (b, _) => recGen b + 1 | none => 1
  let trace := if kind ≤ 1 then s.get R.CAL_TILE_ID else if kind ≤ 3 then s.get R.CAL_RETICLE_ID else 0
  let h := leBytes 4 0x5052494D ++ leBytes 1 kind ++ leBytes 1 slice ++ leBytes 2 1 ++ leBytes 4 gen ++ leBytes 4 payload.length ++
    leBytes 8 time ++ leBytes 8 serial ++ leBytesI 2 tBar ++ leBytesI 2 tDie ++ leBytes 4 trace ++ leBytes 4 count
  let h1 := h ++ leBytes 4 (crc32c (h ++ payload))
  h1 ++ shake (h1 ++ payload) ++ leBytes 16 0 ++ payload

/-- An accepted result: counted, timed, and its record queued (R436, R439). -/
def calAccept (s : State) (kind slice time : Nat) (tBar tDie : Int) (payload : List (BitVec 8)) (store : Bool) : State :=
  let s1 := (s.inc R.CAL_COUNT).set64 R.CAL_LAST_TIME_LO R.CAL_LAST_TIME_HI time
  if store then
    let serial := if slice = 0xFF then 0 else s1.get R.SLC_SEG_SERIAL slice
    let b := recBuild s1 kind slice time serial tBar tDie (s1.get R.CAL_COUNT) payload
    s1.modCal (fun c => { c with stores := c.stores ++ [{ kind := kind, slice := slice, bytes := b, tried := false }] })
  else s1

/-- CAL_DIGEST (R441): over the digests of the records in force, in kind and slice order. -/
def calDigest (s : State) : State :=
  let ds := (List.range 160).flatMap (fun key => match recInForce s key with | some b => (b.drop 0x30).take 32 | none => [])
  let d := if ds = [] then [] else shake ds
  s.each (List.range 8) (fun t w => t.set R.CAL_DIGEST_w (leAt d (4 * w) 4) 0 w)

/-- CAL_COUNT and CAL_LAST_TIME as start-up restores them, from the record in use that was made last, and CAL_DIGEST with them (R439, R441). -/
def calCounts (s : State) : State :=
  let l := (List.range 160).filterMap (fun key => (recInUse s key).map (·.1))
  let last := l.foldl (fun (m : Nat × Nat) b => if m.1 ≤ leAt b 0x28 4 then (leAt b 0x28 4, leAt b 0x10 8) else m) (0, 0)
  calDigest ((s.set R.CAL_COUNT last.1).set64 R.CAL_LAST_TIME_LO R.CAL_LAST_TIME_HI last.2)

/-- The slot a waiting record is written to: the one that does not hold the newest valid generation, and the other where that could not be
written (R436). -/
def storeSlot (s : State) (x : CalStore) : Nat :=
  let first := match recInUse s (calKey x.kind x.slice) with | some (_, i) => 1 - i | none => 0
  if x.tried then 1 - first else first

/-- The oldest record waiting has been written, read back and checked, or could not be written (R436). -/
def calStored (s : State) (ok : Bool) : State :=
  match s.cal.stores with
  | [] => s
  | x :: l =>
    let key := calKey x.kind x.slice
    let s1 := s.modCal (fun c => { c with stores := l })
    if ok then calDigest (s1.modCal (fun c => { c with nor := smPut c.nor (2 * key + storeSlot s x) x.bytes }))
    else if !x.tried then s.modCal (fun c => { c with stores := { x with tried := true } :: l })
    else ((calEvent s1 4 x.kind x.slice 0 0).set R.CAL_STAT_UNSTORED 1).raise pgCAL 3

/-- At IDLE a slot found invalid is rewritten from the valid one (R436). -/
def calMirror (s : State) : State :=
  (List.range 160).foldl (fun t key =>
    match recSlot t key 0, recSlot t key 1 with
    | some a, none => t.modCal (fun c => { c with nor := smPut c.nor (2 * key + 1) a })
    | none, some b => t.modCal (fun c => { c with nor := smPut c.nor (2 * key) b })
    | _, _ => t) s

/-! ## Shading blocks (R119, R424, R437) -/

/-- The shading block of R119 that holds the words. -/
def shadeBlock (words : List (Nat × Nat)) (target time : Nat) : List (BitVec 8) :=
  let body := (List.range 61440).flatMap (fun j => leBytes 4 (smGet shadeUnity words j))
  body ++ leBytes 4 (crc32c body) ++ leBytes 4 target ++ leBytes 8 time ++ leBytes 48 0

/-- The blocks in force go to the region at the IDLE boundary that first brings in a TIMING_SHD_BASE (R437). -/
def calBase (s : State) : State :=
  if s.cal.based || s.get64 R.TIMING_SHD_BASE_LO R.TIMING_SHD_BASE_HI = 0 then s
  else
    let ks := (List.range (Variant.slices s.variant)).filter (fun k => (s.slice k).shaded)
    let put (t : State) (k : Nat) : State :=
      let x := t.slice k
      dramFresh { t with mem := memPutBytes t.mem (shadeBase t k) (shadeBlock x.shading x.shdTgt x.shdAt) } (shadeBase t k) 245824
    (s.each ks put).modCal (fun c => { c with based := true })

/-! ## Captures (R421, R423, R424) -/

/-- Codes of one tap as Primer sums them, in LOC_PIX order: what the tap match takes (R114). -/
def calCodes (s : State) (k : Nat) (e : Entry) (j : TapJudged) (t : Nat) (codes : List (Nat × Bool)) : List (Nat × Bool) :=
  (tapPixels e t 0 codes).map (fun y => ((tapCode s k j y.1).toNat, y.2))

/-- One line of one input. -/
def CalAcc.add (a : CalAcc) (valid : Bool) (codes : List (Nat × Bool)) : CalAcc :=
  if !valid then { a with lost := a.lost + 1 }
  else
    let sums := if a.sums = [] then codes.map (·.1) else (a.sums.zip codes).map (fun x => x.1 + x.2.1)
    let hot := (codes.zip (List.range codes.length)).filterMap (fun (x : (Nat × Bool) × Nat) => if x.1.2 then some x.2 else none)
    { a with n := a.n + 1, sums := sums, beyond := a.beyond ++ hot.filter (fun p => decide (p ∉ a.beyond)) }

/-- Something that discards the slice's result has happened (R440, R545, R79). -/
def calSpoilt (s : State) (k : Nat) : Bool :=
  (assignedOf s k).any (fun c => decide (s.get R.AFE_CHc_STATE k c ∈ [chSUSPECT, chOPEN, chSHORT])) ||
  s.bit R.SLC_SEG_STAT_LINK_FAILED k || s.bit R.SLC_SEG_STAT_REJECTED k || (s.slice k).bring != .ready ||
  !(bitOf (s.get R.CLK_LOCKED) (5 + k / 4))

/-- A slice takes part in the capture of a stage. -/
def CalSlice.takes (x : CalSlice) (st : CalStage) : Bool := match st with | .trim => x.afe | .check => true | _ => x.shd

def CalRun.stage (r : CalRun) : Option CalStage := r.stages.head?

/-- Capture lines that a stage sums. -/
def stageLines : CalStage → Nat
  | .trim => 256 | .white => 256 | .dark => 256 | .verify => 64 | .check => 64 | _ => 0

/-- The stage captures lines of the tile now. -/
def calCapturing (s : State) : Bool :=
  match s.cal.run with
  | some r => r.phase == .run && r.stage.any (fun st => stageLines st != 0 && decide (r.lines < stageLines st))
  | none => false

/-- A judged line of slice k enters the capture: the taps, and whether each input is valid. -/
def calLineSlice (s : State) (k : Nat) (taps : List TapIn) (js : List TapJudged) : State :=
  match s.cal.run, (s.slice k).entry with
  | some r, some e =>
    match r.stage, smFind r.slices k with
    | some st, some x =>
      if !(calCapturing s) || !(CalSlice.takes x st) then s
      else
        let acc := (segInputs e).foldl (fun m i =>
          let j := tapJudged js i.1
          smMod CalAcc.init m i.1 (fun a => a.add j.valid (calCodes s k e j i.2.2 (taps.getD i.1 TapIn.none_).codes))) x.acc
        let x1 := { x with acc := acc, out := x.out || calSpoilt s k, entry := e, time := if x.time = 0 then s.ts else x.time }
        s.modRun (fun r => { r with slices := smPut r.slices k x1 })
    | _, _ => s
  | _, _ => s

/-- The line has been judged for every slice. -/
def calLineEnd (s : State) : State := if calCapturing s then s.modRun (fun r => { r with lines := r.lines + 1 }) else s

/-- Capture lines go on past Skim: always in a job, and in CALIBRATE while FEED moves the reticle or the chart (R421). -/
def linesPass (s : State) : Bool :=
  s.inJob || (s.mode == .calibrate && (match s.cal.run with
    | some r => r.phase == .run && r.stage.any (fun st => st == .reticle || st == .chart)
    | none => false))

/-! ## AFE_TRIM (R423) -/

/-- Δ of one input: where the mean has no pixel or no line, a free value (log 41). -/
def trimDelta (s : State) (k : Nat) (e : Entry) (role tap : Nat) (a : CalAcc) : Int × State :=
  let px := (List.range a.sums.length).filter (fun p => decide (pxKey role (tap * segPpt e + p) ∉ (s.slice k).dead))
  let d := a.n * px.length
  if d = 0 then let f := s.draw; (Config.unstated 22 f.1, f.2)
  else (roundDiv (((512 + s.get R.CAL_AFE_TGT) * d : Nat) - (sumN (px.map (fun p => a.sums.getD p 0)) : Nat)) (16 * d), s)

/-- New trims of a slice, with the greatest |Δ|, or the cause and figure of a failure (R423, R434). -/
def trimJudge (s : State) (k : Nat) (x : CalSlice) : (List (Nat × Int) × Nat) ⊕ (Nat × Int) × State :=
  let e := x.entry
  let step (a : (List (Nat × Int) × Nat) × Option (Nat × Int) × State) (i : Nat × Nat × Nat) :
      (List (Nat × Int) × Nat) × Option (Nat × Int) × State :=
    let acc := smGet CalAcc.init x.acc i.1
    if 32 < acc.lost then (a.1, a.2.1 <|> some (3, (acc.lost : Int)), a.2.2)
    else
      let d := trimDelta a.2.2 k e i.2.1 i.2.2 acc
      let t := s.getI R.AFE_CHc_TRIM k i.1 + d.1
      let o := ofTwos 9 (bits (segAfe e i.1) 16 9) + t
      let bad : Option (Nat × Int) := if s.get R.CAL_AFE_MAXSTEP < d.1.natAbs then some (1, d.1)
        else if o < -128 ∨ 128 < o then some (2, o) else none
      ((a.1.1 ++ [(i.1, t)], max a.1.2 d.1.natAbs), a.2.1 <|> bad, d.2)
  let r := (segInputs e).foldl step (([], 0), none, s)
  match r.2.1 with
  | some f => .inr (f, r.2.2)
  | none => .inl r.1

/-! ## SHADING (R424) -/

/-- t_r of a row code. -/
def tileTarget (s : State) (role : Nat) : Nat := (roundDiv (57344 * s.get R.CAL_TILE_ROWr 0 role : Nat) 10000).toNat

/-- The white target a shading block holds: t_r of GRN, or of the lowest row code without it (R424 step 7). -/
def tileWhite (s : State) (e : Entry) : Nat :=
  let roles := (segDescs e).map descRole
  tileTarget s (if 1 ∈ roles then 1 else (sortBy id roles).headD 0)

/-- A mean code over n lines through the tap match, exact: numerator over 16,384 n, limited (R114). -/
def meanMatch (sum n ofs gain : Nat) : Int := clampI 0 (65535 * 16384 * n : Nat) ((4 * (sum : Int) - ofs * n) * gain)

/-- Pixel p of a row: its input, and the place in that input's sums. -/
def rowPlace (e : Entry) (ds p : Nat) : Nat × Nat := (descInput ds (p / segPpt e), p % segPpt e)

def accSum (m : List (Nat × CalAcc)) (c p : Nat) : Nat := (smGet CalAcc.init m c).sums.getD p 0
def accN (m : List (Nat × CalAcc)) (c : Nat) : Nat := (smGet CalAcc.init m c).n

/-- TAPM_GAIN of tap 1 (R424 step 4); none where tap 1 shows no light. -/
def tapGain (e : Entry) (white dark : List (Nat × CalAcc)) (ds : Nat) : Option Nat :=
  let c0 := descInput ds 0
  let c1 := descInput ds 1
  let s64 (m : List (Nat × CalAcc)) (c lo : Nat) : Nat := sumN ((((smGet CalAcc.init m c).sums).drop lo).take 64)
  let lo := segPpt e - 64
  let a : Int := (s64 white c0 lo * accN dark c0 : Nat) - (s64 dark c0 lo * accN white c0 : Nat)
  let b : Int := (s64 white c1 0 * accN dark c1 : Nat) - (s64 dark c1 0 * accN white c1 : Nat)
  let na := accN white c0 * accN dark c0
  let nb := accN white c1 * accN dark c1
  if b ≤ 0 ∨ na = 0 then none
  else some (max 0 (roundDiv (16384 * a * nb) (b.toNat * na))).toNat

/-- Shading word of one pixel; gain 0 where a per-pixel check fails (R424 step 5, R434). -/
def shadePixel (s : State) (x : CalSlice) (e : Entry) (gains : List (Nat × Nat)) (role ds p : Nat) : Nat :=
  let pl := rowPlace e ds p
  let g := smGet 0x4000 gains pl.1
  let nw := accN x.white pl.1
  let nd := accN x.dark pl.1
  let w := meanMatch (accSum x.white pl.1 pl.2) nw 2048 g
  let d := meanMatch (accSum x.dark pl.1 pl.2) nd 2048 g
  let diff := w * nd - d * nw
  let dark := if nd = 0 then 0 else (roundDiv d (16384 * nd)).toNat
  if nw = 0 ∨ nd = 0 ∨ pl.2 ∈ (smGet CalAcc.init x.white pl.1).beyond ∨ diff ≤ 0 then dark
  else
    let gain := tileTarget s role * 16384 * (16384 * nw * nd) / diff.toNat
    if s.get R.CAL_GAIN_MIN ≤ gain ∧ gain ≤ s.get R.CAL_GAIN_MAX then gain * 65536 + dark else dark

/-- Sum of gains and number of pixels that have one, in a row. -/
def gainSum (words : List (Nat × Nat)) (role n : Nat) : Nat × Nat :=
  (List.range n).foldl (fun a p => let g := shadeWord words role p / 65536; if g = 0 then a else (a.1 + g, a.2 + 1)) (0, 0)

/-- The row checks of R434: cause and figure. -/
def shadeRowCheck (s : State) (k : Nat) (e : Entry) (words : List (Nat × Nat)) (role : Nat) : Option (Nat × Int) :=
  let n := segRowPx e
  let old := (s.slice k).shading
  let g (w : List (Nat × Nat)) (p : Nat) : Nat := shadeWord w role p / 65536
  let new := ((List.range n).filter (fun p => g words p = 0 && g old p != 0)).length
  let run := longestRun ((List.range n).map (isDead words (s.slice k).dead role)) 0 0
  let a := gainSum words role n
  let b := gainSum old role n
  let da : Int := (a.1 * b.2 : Nat) - (b.1 * a.2 : Nat)
  if s.get R.CAL_DEAD_MAX < new then some (18, new)
  else if 16 < run then some (19, run)
  else if (s.slice k).shaded ∧ s.get R.CAL_GAIN_DRIFT * (b.1 * a.2) < 1000 * da.natAbs then
    some (20, if b.1 * a.2 = 0 then 0 else roundDiv (1000 * da) (b.1 * a.2))
  else none

/-- RMS of (out − t_r) / t_r over non-dead pixels, 0.1 ‰ (R424 step 6; log 14). -/
def shadeResidual (s : State) (k : Nat) (e : Entry) (acc : List (Nat × CalAcc)) (ofs gains : Nat → Nat) (words : List (Nat × Nat)) : Nat :=
  let row (ds : Nat) : Nat × Nat :=
    let role := descRole ds
    let t := tileTarget s role
    (List.range (segRowPx e)).foldl (fun (a : Nat × Nat) (p : Nat) =>
      let w := shadeWord words role p
      let pl := rowPlace e ds p
      let n := accN acc pl.1
      if isDead words (s.slice k).dead role p || n = 0 || t = 0 then a
      else
        let m := meanMatch (accSum acc pl.1 pl.2) n (ofs pl.1) (gains pl.1)
        let den : Nat := 16384 * n
        let out := clampI 0 65535 (((m - (w % 65536 * den : Nat)) * (w / 65536 : Nat) + 8192 * den) / (16384 * den : Nat))
        let d := (out - t).natAbs
        (a.1 + d * d * 10 ^ 16 / (t * t), a.2 + 1)) (0, 0)
  let r := (segDescs e).foldl (fun (a : Nat × Nat) ds => let b := row ds; (a.1 + b.1, a.2 + b.2)) (0, 0)
  if r.2 = 0 then 0 else (isqrt (r.1 / r.2) + 5000) / 10000

/-- TAPM gains of every assigned input, or the row whose tap 1 has none in range (R424, R434 cause 21). -/
def shadeGains (x : CalSlice) : List (Nat × Nat) × Option (Nat × Int) :=
  let e := x.entry
  (segDescs e).foldl (fun (a : List (Nat × Nat) × Option (Nat × Int)) ds =>
    let a0 := smPut a.1 (descInput ds 0) 0x4000
    if segTaps e = 2 then
      match tapGain e x.white x.dark ds with
      | some g => (smPut a0 (descInput ds 1) g, a.2 <|> (if 0x3000 ≤ g ∧ g ≤ 0x5000 then none else some (21, (g : Int))))
      | none => (smPut a0 (descInput ds 1) 0, a.2 <|> some (21, 0))
    else (a0, a.2)) ([], none)

/-- Words of every pixel of every row, those that differ from unity (R424). -/
def shadeWords (s : State) (x : CalSlice) (gains : List (Nat × Nat)) : List (Nat × Nat) :=
  let e := x.entry
  sortBy (·.1) ((segDescs e).flatMap (fun ds => (List.range (segRowPx e)).filterMap (fun p =>
    let w := shadePixel s x e gains (descRole ds) ds p
    if w = shadeUnity then none else some (pxKey (descRole ds) p, w))))

/-! ## The tile kinds' results come into force (R424 step 7, R432, R436, R440) -/

/-- The entry differs in what a Primer result rests on (R440). -/
def entryMoved (a b : Entry) : Bool :=
  segDescs a != segDescs b || segRowPx a != segRowPx b || segTaps a != segTaps b ||
  (List.range 10).any (fun c => segAssigned a c && segAfe a c != segAfe b c)

/-- Primer's writes for one slice: trims, and the shading block with TAPM (R423, R424). -/
def calWriteTrims (s : State) (k : Nat) (ts : List (Nat × Int)) : State :=
  s.each ts (fun t x => t.shadowWrite R.AFE_CHc_TRIM k x.1 (toTwos R.AFE_CHc_TRIM.width x.2))

def calWriteShade (s : State) (k : Nat) (x : CalSlice) (words : List (Nat × Nat)) : State :=
  let base := s.get64 R.TIMING_SHD_BASE_LO R.TIMING_SHD_BASE_HI
  let tgt := tileWhite s x.entry
  let s1 := if base = 0 then s else
    { (s.set R.TIMING_SHD_SYNC (s.get R.TIMING_SHD_SYNC ||| 2 ^ k)) with
      mem := memPutBytes s.mem (shadeBase s k) (shadeBlock words tgt (x.time / 2 ^ 30 % 2 ^ 33)) }
  let s2 := if base = 0 then s1 else dramFresh s1 (shadeBase s k) 245824
  s2.each x.gains (fun t g => (t.shadowWrite R.SLC_CHc_TAPM_OFS k g.1 2048).shadowWrite R.SLC_CHc_TAPM_GAIN k g.1 g.2)

/-- Primer's own values still wait: no host write has replaced them (R20, R440). -/
def trimsStand (s : State) (k : Nat) (ts : List (Nat × Int)) : Bool :=
  ts.all (fun x => s.seen R.AFE_CHc_TRIM k x.1 == toTwos R.AFE_CHc_TRIM.width x.2)

def tapmStand (s : State) (k : Nat) (gs : List (Nat × Nat)) : Bool :=
  gs.all (fun g => s.seen R.SLC_CHc_TAPM_OFS k g.1 == 2048 && s.seen R.SLC_CHc_TAPM_GAIN k g.1 == g.2)

/-- Record an accepted result of a kind in the run's summary. -/
def calResult (s : State) (kind bit figure : Nat) : State :=
  s.modRun (fun r => { r with results := smMod (0, 0) r.results kind (fun x => (x.1 ||| 2 ^ bit, max x.2 figure)) })

/-- A trim has come into force (R423, R428, R436). -/
def trimsIn (s : State) (k : Nat) (x : CalSlice) (ts : List (Nat × Int)) (store : Bool) : State :=
  let b := barTempRec s k
  let t := dieTemp s k
  let pay := (List.range 10).flatMap (fun c => leBytesI 2 (smGet 0 ts c)) ++ leBytes 4 0
  let s1 := calAccept b.2 kAFE k x.time b.1 t pay store
  let s2 := baselinesDrop ((s1.set R.AFE_SPARE_STALE 0 k).setI R.CAL_SLCk_T_AFE t 0 k) k
  calResult (s2.modCal (fun c => { c with pendAfe := setBit c.pendAfe k false, lackAfe := setBit c.lackAfe k false })) kAFE k x.fig

/-- A shading table has come into force (R424, R428, R436). -/
def shadeIn (s : State) (k : Nat) (x : CalSlice) (words : List (Nat × Nat)) (store : Bool) : State :=
  let b := barTempRec s k
  let pay := shadeBlock words (tileWhite s x.entry) (x.time / 2 ^ 30 % 2 ^ 33) ++
    (List.range 10).flatMap (fun c => leBytes 2 (s.get R.SLC_CHc_TAPM_OFS k c) ++ leBytes 2 (s.get R.SLC_CHc_TAPM_GAIN k c)) ++
    (List.range 5).flatMap (fun r => leBytes 2 (s.get R.CAL_TILE_ROWr 0 r)) ++ leBytes 6 0
  let s1 := calAccept b.2 kSHD k x.time b.1 (dieTemp s k) pay store
  let s2 := (s1.setI R.CAL_SLCk_T_SHD b.1 0 k).set R.CAL_QF_SHD_k x.fig 0 k
  calResult (s2.modCal (fun c => { c with pendShd := setBit c.pendShd k false, lackShd := setBit c.lackShd k false })) kSHD k x.fig

/-- The boundary of R432 for the slices of the run. -/
def calBoundary (s : State) : State :=
  match s.cal.run with
  | none => s
  | some r =>
    let ks := r.slices.map (·.1)
    let m := maskOf ks
    let s1 := seamClip (segBoundary (contentKeep s) m)
    -- an entry that takes the ground from a result has come in (R440)
    let drop (t : State) (y : Nat × CalSlice) : State :=
      let k := y.1
      if (y.2.trims.isSome || y.2.words.isSome) && (t.slice k).entry.any (fun e => entryMoved y.2.entry e) then
        let t1 := (List.range 10).foldl (fun u c =>
          ((u.unshadow R.AFE_CHc_TRIM k c).unshadow R.SLC_CHc_TAPM_OFS k c).unshadow R.SLC_CHc_TAPM_GAIN k c) t
        (t1.set R.TIMING_SHD_SYNC (setBit (t1.get R.TIMING_SHD_SYNC) k false)).modRun (fun r => { r with
          slices := smPut r.slices k { y.2 with trims := none, words := none, out := true } })
      else t
    let s2 := r.slices.foldl drop s1
    let now := match s2.cal.run with | some q => q.slices | none => []
    let stand := now.map (fun y => (y.1, (y.2.trims.any (fun (ts : List (Nat × Int)) => trimsStand s2 y.1 ts), tapmStand s2 y.1 y.2.gains)))
    let s3 := s2.each ks (fun t k => (t.pageTakesEffect (pgAFE k) .page).pageTakesEffect (pgSLC k) .page)
    let s4 := trkBoundary (shdSync (afeTrims s3) m)
    let fin (t : State) (y : Nat × CalSlice) : State :=
      let k := y.1
      let st := smGet (false, false) stand k
      let t1 := match y.2.trims with | some ts => trimsIn t k y.2 ts st.1 | none => t
      let t2 := match y.2.words with
        | some w =>
          let u := if t1.get64 R.TIMING_SHD_BASE_LO R.TIMING_SHD_BASE_HI = 0 then
              deadRefresh (t1.modSlice k (fun z => { z with
                shading := w, shaded := true, shdTgt := tileWhite t1 y.2.entry, shdAt := y.2.time / 2 ^ 30 % 2 ^ 33 })) k else t1
          shadeIn u k y.2 w st.2
        | none => t1
      t2.modRun (fun r => { r with slices := smPut r.slices k { y.2 with trims := none, words := none } })
    calShow (now.foldl fin s4)

/-- The boundary between AFE_TRIM and SHADING in a run of start-up: the new trims alone come into force, which SHADING needs, and the rest
waits for the IDLE entry (R424, R432, R437; log 128). -/
def calTrimBoundary (s : State) : State :=
  match s.cal.run with
  | none => s
  | some r =>
    let one (t : State) (y : Nat × CalSlice) : State :=
      match y.2.trims with
      | none => t
      | some ts =>
        let st := trimsStand t y.1 ts
        let u := afeTrims (t.each ts (fun t x => (t.set R.AFE_CHc_TRIM (t.seen R.AFE_CHc_TRIM y.1 x.1) y.1 x.1).unshadow R.AFE_CHc_TRIM y.1 x.1))
        (trimsIn u y.1 y.2 ts st).modRun (fun r => { r with slices := smPut r.slices y.1 { y.2 with trims := none } })
    calShow (r.slices.foldl one s)

/-! ## Setpoints and axes (R422, R423, R425) -/

/-- Setpoints of the slices that take part in a stage. -/
def calSetpoints (s : State) (st : CalStage) (vals : Nat → CalSlice → List Nat) : State :=
  match s.cal.run with
  | none => s
  | some r => (r.slices.filter (fun x => x.2.takes st)).foldl (fun t x => illumWrite t x.1 .illum (vals x.1 x.2)) s

def calDarken (s : State) (st : CalStage) : State := calSetpoints s st (fun _ _ => [0, 0, 0, 0])

/-- The setpoints as they stood before the run (R423 step 5, R424 step 3). -/
def calRestore (s : State) (st : CalStage) : State := calSetpoints s st (fun _ x => x.sets)

/-- Those of the entry (R424 step 1), where others stand. -/
def calLight (s : State) (st : CalStage) : State :=
  match s.cal.run with
  | none => s
  | some r => (r.slices.filter (fun x => x.2.takes st)).foldl (fun t x =>
      match (t.slice x.1).entry with
      | some e => if (t.slice x.1).illumSet = segIllum e then t else illumWrite t x.1 .illum (segIllum e)
      | none => t) s

/-- A positioning move of Primer's: accelerates to an entry, cruises, and decelerates on the same table (R422, R425, R248). -/
def calMove (s : State) (a : Nat) (d : Int) (t e : Nat) : State × Bool :=
  let segs := [{ stopSeg t with play := 0, ent := e }, { stopSeg t with play := 1, ent := e, term := 1, opd := 2 ^ 31 - 1 }, stopSeg t]
  match startRefused s a (decide (d < 0)) segs false with
  | some c => (axErr s a c, false)
  | none =>
    let m := moveOf s { what := .host, neg := decide (d < 0), velocity := false, budget := some d.natAbs, segs := segs }
    let s1 := (beginMove s a m).modRol (fun r => { r with primer := a :: r.primer.filter (fun b => b != a) })
    (if d = 0 then clearMove s1 a else s1, true)

/-- FEED starts forward at the run's interval (R425). -/
def calFeed (s : State) : State × Bool :=
  let t := s.get R.CAL_RUN_TBL
  let segs := [{ stopSeg t with play := 0, ent := s.get R.CAL_RUN_ENT }, holdSeg none]
  match startRefused s 0 false segs false with
  | some c => (axErr s 0 c, false)
  | none =>
    let m := moveOf s { what := .host, neg := false, velocity := true, budget := none, segs := segs }
    ((beginMove s 0 m).modRol (fun r => { r with primer := 0 :: r.primer.filter (fun b => b != 0) }), true)

/-- Primer no longer moves the axis. -/
def calFree (s : State) (a : Nat) : State := s.modRol (fun r => { r with primer := r.primer.filter (fun b => b != a) })

def shutMove (s : State) (r : Row) : State × Bool :=
  calMove s axSHUTTER (s.getI r - axPos s axSHUTTER) (s.get R.CAL_SHUT_TBL) (s.get R.CAL_SHUT_ENT)

/-- AFE_TRIM or SHADING may run with the shutter's help (R422). -/
def shutReady (s : State) : Bool :=
  s.bit R.CAL_CTRL_SHUT_AUTO && s.bit R.MOT_AXa_STAT_HOMED axSHUTTER && (s.axis axSHUTTER).move.isNone

/-! ## The end of a run (R432, R439, R440) -/

/-- Lock 23 is released and the run's marks are cleared. -/
def calOver (s : State) : State :=
  let s1 := lockWrite ((s.set R.CAL_STAT_RUNNING 0).set R.CAL_STAT_KIND 0) 23 3 1
  domSync { s1.modCal (fun c => { c with run := none }) with runSlices := [], runColour := false }

/-- A gap ends: what was held acts (R431). -/
def calGapEnd (s : State) : State :=
  if !(s.bit R.CAL_STAT_GAP) then s
  else
    let s1 := ((s.set R.CAL_STAT_GAP 0).raise pgCAL 5).modCal (fun c => { c with resume := 0 })
    if s.cal.resume = 1 then capDoResume s1 else if s.cal.resume = 2 then capDoForce s1 else s1

/-- Seams and gain as the run found them (R426). -/
def stitchRestore (s : State) (r : CalRun) : State :=
  match r.gain0 with
  | some g => ((r.corr0.foldl (fun t x => t.setI R.CLU_SEAMj_CORR x.2 (x.1 / 4) (x.1 % 4)) s).set R.SCRIM_CORR_GAIN g).modRun
      (fun q => { q with gain0 := none })
  | none => s

/-- STITCH begins to measure: SCRIM_CORR_GAIN is held at 0 (R426). -/
def stitchHold (s : State) : State :=
  (s.modRun (fun r => { r with corr0 := (List.range 23).map (fun j => (j, seamCorr s j)), gain0 := some (s.get R.SCRIM_CORR_GAIN) })).set
    R.SCRIM_CORR_GAIN 0

/-- A write of `n` to SCRIM_CORR_GAIN that lands while STITCH holds it: the host's value is kept for afterwards (R426). -/
def stitchGain (s : State) (n : Nat) : State :=
  if s.cal.run.any (fun r => r.gain0.isSome) then (s.modRun (fun r => { r with gain0 := some n })).set R.SCRIM_CORR_GAIN 0 else s

/-- A tile kind with nothing pending any more is no longer requested. -/
def calTileReqs (s : State) : State :=
  let one (t : State) (kind pend : Nat) : State := if pend = 0 then t.set R.CAL_REQ (setBit (t.get R.CAL_REQ) kind false) else t
  one (one s kAFE s.cal.pendAfe) kSHD s.cal.pendShd

/-- A run is stopped before its end. `keep`: a tile kind that it has completed comes into force (R35, R440); else every old value stays
(R431, R439, R440). `still`: the axes are being stopped by someone else. -/
def calStop (s : State) (still keep : Bool) : State :=
  match s.cal.run with
  | none => calGapEnd s
  | some r =>
    let s1 := r.slices.foldl (fun t x => if (t.slice x.1).illumSet = x.2.sets then t else illumWrite t x.1 .illum x.2.sets) (stitchRestore s r)
    let unwrite (t : State) (x : Nat × CalSlice) : State :=
      if x.2.trims.isNone && x.2.words.isNone then t
      else
        let k := x.1
        let t1 := (List.range 10).foldl (fun u c =>
          ((u.unshadow R.AFE_CHc_TRIM k c).unshadow R.SLC_CHc_TAPM_OFS k c).unshadow R.SLC_CHc_TAPM_GAIN k c) t
        t1.set R.TIMING_SHD_SYNC (setBit (t1.get R.TIMING_SHD_SYNC) k false)
    let s0 := { s1 with trk := { s1.trk with alone := false, bars := false } }
    let s2 := if keep then (if r.slices = [] then s0 else calTileReqs (calBoundary s0)) else r.slices.foldl unwrite s0
    let s3 := if still then s2
      else
        let f := if 0 ∈ s2.rol.primer then stopMove s2 0 (s2.get R.CAL_RUN_TBL) else s2
        if s2.bit R.CAL_CTRL_SHUT_AUTO && r.slices != [] && (f.axis axSHUTTER).move.isNone && axPos f axSHUTTER != f.getI R.CAL_SHUT_OPEN then
          (shutMove f R.CAL_SHUT_OPEN).1 else f
    calGapEnd (calShow (calOver s3))

/-- A run is abandoned: every old value stays (R431, R439, R440). -/
def calAbandon (s : State) (still : Bool) : State := calStop s still false

/-- A gap ends at once on a STOP watermark cause or a FAULT cause (R431). -/
def calGapWatch (s : State) : State :=
  if s.bit R.CAL_STAT_GAP && (bitOf (capCauses s) causeWM || bitOf (capCauses s) causeFAULT) then calAbandon s false else s

/-! ## Stages -/

def stageKind (r : CalRun) : CalStage → Nat
  | .trim => 0 | .between => 0 | .tileIn => (if r.slices.any (fun x => x.2.afe) then 0 else 1)
  | .reticle => if bitOf r.bar kBASE then 2 else 3
  | .chart => 4
  | _ => 1

/-- Clear the sums. The captures that date a result are those of AFE_TRIM and the white ones (R424 step 7, R435). -/
def calFresh (s : State) (st : CalStage) : State :=
  let keep := !(st == .trim || st == .white || st == .check)
  s.modRun (fun r => { r with
    lines := 0, slices := r.slices.map (fun x => (x.1, { x.2 with acc := [], time := if keep then x.2.time else 0 })) })

/-- The job-like start of a run over moving media (R421). -/
def calLinesStart (s : State) : State := scrimGeometry (plumbJobStart (trkJobStart (floatJobStart s))) true

/-- A reticle pass starts: every used segment looks for the bars, and for TRK_BASE chains alone from here (R200, R425); with the first pass of
a set, the results of earlier sets go. -/
def calPassStart (s : State) : State :=
  match s.cal.run with
  | none => s
  | some r =>
    let c := countNow s
    let base := bitOf r.bar kBASE
    let t := if base && r.passes = 0 then
        { s with trk := { s.trk with segs := s.trk.segs.map (fun g => (g.1, { g.2 with runs := [] })) } } else s
    let u := t.each (trkUsed t) (fun u k => u.modTrkSeg k (fun g => { g with alone := { TrkAlone.init with p := u.trk.p, a := (u.trk.p, c) } }))
    ({ u with trk := { u.trk with alone := base, bars := true } }).modRun (fun r => { r with from_ := axPos s 0, at_ := s.trk.p, barsAt := none })

/-- A line of a reticle pass stands at position `p`: where every used segment has by then seen every bar, the rest of the travel counts from
there (R425). -/
def calTravel (s : State) (p : Int) : State :=
  match s.cal.run with
  | some r =>
    if r.stage = some .reticle ∧ r.phase = .run then
      let seen := (trkUsed s).all (fun k => decide (s.get R.TRK_CAL_BARS ≤ (s.trkSeg k).alone.edges.length))
      s.modRun (fun r => { r with at_ := p, barsAt := r.barsAt <|> (if seen then some p else none) })
    else s
  | none => s

/-- A pass has gone far enough: 64 lines of travel beyond the last bar that a used segment had to see (R425). -/
def CalRun.passed (r : CalRun) : Bool := r.barsAt.any (fun b => decide (64 * 63500 ≤ 3 * (r.at_ - b).natAbs))

/-- Begin the stage at the head, going on past stages that need no wait. -/
def calEnter : Nat → State → State
  | 0, s => s
  | n + 1, s =>
    match s.cal.run with
    | none => s
    | some r =>
      match r.stages with
      | [] => s
      | st :: rest =>
        let s0 := calFresh ((s.set R.CAL_STAT_KIND (stageKind r st)).modRun (fun r => { r with phase := .wait })) st
        let skip := calEnter n (s0.modRun (fun r => { r with stages := rest }))
        match st with
        | .tileIn =>
          if s.bit R.CAL_CTRL_SHUT_AUTO then
            let m := shutMove s0 R.CAL_SHUT_CLOSED
            if !m.2 then calAbandon m.1 true
            else if (m.1.axis axSHUTTER).move.isNone then calEnter n ((calFree m.1 axSHUTTER).modRun (fun r => { r with stages := rest }))
            else m.1
          else s0
        | .tileOut =>
          if s.bit R.CAL_CTRL_SHUT_AUTO then
            let m := shutMove s0 R.CAL_SHUT_OPEN
            if (m.1.axis axSHUTTER).move.isNone then calEnter n ((calFree m.1 axSHUTTER).modRun (fun r => { r with stages := rest })) else m.1
          else skip
        | .trim => calDarken s0 .trim
        | .dark => calDarken s0 .dark
        | .white => calLight s0 .white
        | .verify => s0
        | .check => calLight s0 .check
        | .between => calEnter n ((if r.startup then calTrimBoundary s0 else calBoundary s0).modRun (fun r => { r with stages := rest }))
        | .reticle =>
          let s1 := if r.passes = 0 then calLinesStart (if bitOf r.bar kSTITCH then stitchHold s0 else s0) else s0
          let m := calFeed (calPassStart s1)
          if m.2 then m.1.modRun (fun r => { r with phase := .run }) else calAbandon m.1 true
        | .chart =>
          let m := calFeed (calLinesStart s0)
          if m.2 then m.1.modRun (fun r => { r with phase := .run, from_ := axPos s 0 }) else calAbandon m.1 true

/-- The stage at the head is done. -/
def calNext (s : State) : State :=
  match s.cal.run with
  | none => s
  | some r => calEnter (r.stages.length + 1) (s.modRun (fun r => { r with stages := r.stages.tail }))

/-- Stages of the tile kinds for slices that need them. -/
def tileStages (afe shd : Bool) : List CalStage :=
  (if afe then [.trim] else []) ++ (if afe && shd then [.between] else []) ++ (if shd then [.white, .dark, .verify] else [])

def CalSlice.new (s : State) (afe shd : Bool) (k : Nat) : CalSlice :=
  { afe := afe, shd := shd, out := false, sets := (s.slice k).illumSet, entry := (s.slice k).entry.getD [], time := 0, acc := [], white := [],
    dark := [], trims := none, words := none, gains := [], step := 0, fig := 0 }

/-- A run begins with these slices, bar kinds and stages (R429, R430, R516). -/
def calBegin (s : State) (gap startup : Bool) (slices : List (Nat × CalSlice)) (bar : Nat) (stages : List CalStage) : State :=
  let l := lockAttempt s 23 3
  if l.1 % 4 = 0 then s
  else
    let colour := bitOf bar kCOLOUR && chartSpace s = 0
    let r : CalRun :=
      { gap := gap, startup := startup, slices := slices, bar := bar, stages := stages, phase := .wait, lines := 0, passes := 0, from_ := 0
        at_ := 0, barsAt := none, corr0 := [], gain0 := none, wins := [], olines := [], lead := none
        results := [] }
    let s1 := { (l.2.set R.CAL_STAT_RUNNING 1).modCal (fun c => { c with run := some r }) with
      runSlices := slices.map (·.1), runColour := colour }
    calEnter (stages.length + 1) (domSync s1)

/-- Slices with READY segments among those of a mask. -/
def readyOf (s : State) (mask : Nat) : List Nat := (maskList mask 24).filter (fun k => (s.slice k).bring == .ready)

/-- Slices that a tile kind may run on: by hand only what the host has requested runs (R422). -/
def calAsked (s : State) (kind mask : Nat) : List Nat :=
  if s.bit R.CAL_CTRL_SHUT_AUTO || bitOf (s.get R.CAL_REQ) kind then readyOf s mask else []

def calTiles (s : State) : List Nat :=
  (List.range 24).filter (fun k => decide (k ∈ calAsked s kAFE s.cal.pendAfe) || decide (k ∈ calAsked s kSHD s.cal.pendShd))

/-- Primer starts a run where it may (R421, R422, R429 to R431, R437). -/
def calRunStart (s : State) : State :=
  if s.cal.run.isSome then s
  else
    let afe := calAsked s kAFE s.cal.pendAfe
    let shd := calAsked s kSHD s.cal.pendShd
    let ks := calTiles s
    let sl (l : List Nat) : List (Nat × CalSlice) := l.map (fun k => (k, CalSlice.new s (decide (k ∈ afe)) (decide (k ∈ shd)) k))
    let tile := [CalStage.tileIn] ++ tileStages (afe != []) (shd != []) ++ [.tileOut]
    if s.pwr.boot = .segs then
      let all := (readyOf s (2 ^ 24 - 1)).filter (fun k => !(bitOf s.cal.checked k))
      if shutReady s && all != [] then
        calBegin s false true (all.map (fun k => (k, CalSlice.new s false false k))) 0 [.tileIn, .check, .tileOut]
      else s
    else match s.mode with
      | .idle => if ks != [] && shutReady s then calBegin s false false (sl ks) 0 tile else s
      | .capture => if s.bit R.CAL_STAT_GAP && ks != [] && shutReady s then calBegin s true false (sl ks) 0 tile else s
      | .calibrate =>
        let bar := s.get R.CAL_REQ / 4 * 4
        let may := if s.bit R.CAL_CTRL_SHUT_AUTO && !(shutReady s) then [] else ks
        let t := if may = [] then [] else tile
        let r := (if bitOf bar kBASE || bitOf bar kSTITCH then [CalStage.reticle] else []) ++ (if bitOf bar kCOLOUR then [.chart] else [])
        if t = [] ∧ r = [] then s else calBegin s false false (sl may) bar (t ++ r)
      | .inspect => s
      | .service => s

/-! ## Waits and captures -/

/-- TILE_READY, with the tile placed by hand (R422). -/
def calTileReady (s : State) : State :=
  match s.cal.run with
  | some r => if r.stage = some .tileIn ∧ s.bit R.CAL_CTRL_SHUT_AUTO = false then calNext s else s
  | none => s

/-- 20 ms after the setpoints went to 0 (R423, R424). -/
def calDarkWait (s : State) : State :=
  match s.cal.run with
  | some r => if r.phase = .wait ∧ (r.stage = some .trim ∨ r.stage = some .dark) then s.modRun (fun r => { r with phase := .run }) else s
  | none => s

/-- The illumination has stood for 2 s (R424, R437). -/
def calSettled (s : State) : State :=
  match s.cal.run with
  | some r =>
    if r.phase = .wait ∧ (r.stage = some .white ∨ r.stage = some .verify ∨ r.stage = some .check) then s.modRun (fun r => { r with phase := .run })
    else s
  | none => s

/-- Put a slice's part of the run. -/
def runSlice (s : State) (k : Nat) (x : CalSlice) : State := s.modRun (fun r => { r with slices := smPut r.slices k x })

/-- AFE_TRIM of one slice is judged; a result that stands is written (R423, R433). -/
def trimDone (s : State) (y : Nat × CalSlice) : State :=
  let k := y.1
  if !y.2.afe || y.2.out || calSpoilt s k then s
  else match trimJudge s k y.2 with
    | .inr ((c, f), t) => calReject (t.modCal (fun z => { z with pendAfe := setBit z.pendAfe k false })) kAFE k c f
    | .inl (ts, fig) => runSlice (calWriteTrims s k ts) k { y.2 with trims := some ts, fig := fig }

/-- SHADING of one slice is judged after its verify lines (R424, R434). -/
def shadeDone (s : State) (y : Nat × CalSlice) : State :=
  let k := y.1
  let x := y.2
  if !x.shd || x.out || calSpoilt s k then s
  else
    let g := shadeGains x
    let words := shadeWords s x g.1
    let row := ((segDescs x.entry).map descRole).findSome? (shadeRowCheck s k x.entry words)
    let res := shadeResidual s k x.entry x.acc (fun _ => 2048) (fun c => smGet 0x4000 g.1 c) words
    let bad : Option (Nat × Int) := row <|> g.2 <|> (if s.get R.CAL_SHD_RESID_MAX < res then some (22, (res : Int)) else none)
    match bad with
    | some (c, f) => calReject (s.modCal (fun z => { z with pendShd := setBit z.pendShd k false })) kSHD k c f
    | none =>
      let x1 := { x with words := some words, gains := g.1, fig := min res 65535 }
      runSlice (calWriteShade s k x1 words) k x1

/-- The start-up check of one slice (R437 step 4). -/
def checkDone (s : State) (y : Nat × CalSlice) : State :=
  let k := y.1
  if y.2.out || calSpoilt s k then s
  else
    let res := shadeResidual s k y.2.entry y.2.acc (fun c => s.seen R.SLC_CHc_TAPM_OFS k c) (fun c => s.seen R.SLC_CHc_TAPM_GAIN k c)
      (s.slice k).shading
    let s1 := s.set R.CAL_QF_SHD_k (min res 65535) 0 k
    if s.get R.CAL_SHD_RESID_MAX < res then calDue s1 k false true else s1

/-- After the start-up check, the pending tile kinds run before the tile goes out (R437 step 5). -/
def checkNext (s : State) : State :=
  match s.cal.run with
  | none => s
  | some r =>
    let up (x : Nat × CalSlice) : Nat × CalSlice := (x.1, { x.2 with
      afe := bitOf s.cal.pendAfe x.1, shd := bitOf s.cal.pendShd x.1, acc := [], out := false, time := 0 })
    let sl := r.slices.map up
    let st := tileStages (sl.any (fun x => x.2.afe)) (sl.any (fun x => x.2.shd))
    (s.modCal (fun c => { c with checked := c.checked ||| maskOf (r.slices.map (·.1)) })).modRun (fun r => { r with slices := sl, stages := r.stages.take 1 ++ st ++ r.stages.drop 1 })

/-! ## COLOUR (R427) -/

/-- Mean of one channel of patch i over the patch shrunk by 8 px and 8 lines; none where no pixel lies in it. -/
def patchMean (s : State) (r : CalRun) (lead : Int) (i j : Nat) : Option Int :=
  let a := chartAddr s + 8 + 24 * i
  let n (o w : Nat) : Nat := leNat (memBytes s.mem (a + o) w)
  let x0 := n 0 4 + 8
  let x1 := n 4 4 - 8
  let y0 := n 8 2 + 8
  let y1 := n 10 2 - 8
  let space := chartSpace s
  let inY (o : OutLine) : Bool :=
    let d := 3 * (o.edge - lead)
    decide (y0 * 63500 ≤ d) && decide (d < y1 * 63500)
  let vals := (r.olines.filter inY).flatMap (fun (o : OutLine) =>
    let row (c p : Nat) : Nat := ((o.rows.find? (fun d => d.role = c)).map (fun d => d.px.getD p 0)).getD 0
    (List.range (x1 - x0)).map (fun (q : Nat) =>
      let p := x0 + q
      if space = 0 then charVal s (row 0 p) (row 1 p) (row 2 p) j else (row j p : Int)))
  if vals = [] then none else some (roundDiv (sumI vals) vals.length)

/-- Δ and r of a patch (R213, R427); a patch with no pixel has a free value (log 41). -/
def patchResult (s : State) (r : CalRun) (lead : Int) (i : Nat) : List Int × State :=
  let d := s.draw
  let free := Config.unstated 24 d.1
  let ms := [0, 1, 2].map (patchMean s r lead i)
  let ref (j : Nat) : Int := leNat (memBytes s.mem (chartAddr s + 8 + 24 * i + 12 + 2 * j) 2)
  let ds := [0, 1, 2].map (fun j => clampI (-32768) 32767 ((match ms.getD j none with | some v => v | none => free) - ref j))
  let w (j : Nat) : Int := if chartSpace s = 0 then ccW s j else if j = 0 then 4096 else 0
  let rr := clampI (-32768) 32767 ((w 0 * ds.getD 0 0 + w 1 * ds.getD 1 0 + w 2 * ds.getD 2 0 + 2048) / 4096)
  (rr :: ds, if ms.any (·.isNone) then d.2 else s)

/-- COLOUR is judged (R427, R434). -/
def colourDone (s : State) (r : CalRun) : State :=
  let n := min 64 (leNat (memBytes s.mem (chartAddr s) 2))
  let d := s.draw
  let s0 := if r.lead.isSome then s else d.2
  let lead := r.lead.getD (Config.unstated 24 d.1)
  let res := (List.range n).foldl (fun (a : List (List Int) × State) i =>
    let x := patchResult a.2 r lead i
    (a.1 ++ [x.1], x.2)) ([], s0)
  let rs := res.1.map (fun l => (l.headD 0).natAbs)
  let top := rs.foldl max 0
  let mean := if rs = [] then 0 else (2 * sumN rs + rs.length) / (2 * rs.length)
  let s1 := (res.2.set R.CAL_QF_COLOUR_MAX top).set R.CAL_QF_COLOUR_MEAN mean
  let s2 := s1.set R.CAL_REQ (setBit (s1.get R.CAL_REQ) kCOLOUR false)
  if s2.get R.CAL_COLOUR_MAX < top then calReject s2 kCOLOUR 0xFF 64 top
  else
    let t := meanTemp s2
    let pay := leBytes 4 n ++ res.1.flatMap (fun l => l.flatMap (leBytesI 2))
    let s3 := t.2.modRun (fun r => { r with results := smPut r.results kCOLOUR (0, top) })
    calAccept s3 kCOLOUR 0xFF s.ts t.1 0 pay true

/-- An output line of a calibration run goes to Primer alone (R421). -/
def calOutLine (s : State) (o : OutLine) : State :=
  match s.cal.run with
  | some r => if r.stage = some .chart then s.modRun (fun r => { r with olines := r.olines ++ [o] }) else s
  | none => s

/-- The first sheet closed in a chart run gives its leading edge (R427). -/
def calSheet (s : State) : State :=
  match s.cal.run, s.plumb.ended with
  | some r, some (_, fit, _) =>
    let s1 := { s with plumb := { s.plumb with ended := none } }
    if r.stage = some .chart ∧ r.lead = none then s1.modRun (fun r => { r with lead := some fit }) else s1
  | _, _ => s

/-- The capture's lines are in, or the chart has passed (CAL_CAPTURE_DONE). -/
def calCaptureDone (s : State) : State :=
  match s.cal.run with
  | none => s
  | some r =>
    if r.phase != .run then s
    else
      let full (st : CalStage) : Bool := decide (stageLines st ≤ r.lines)
      match r.stage with
      | some .trim => if full .trim then calNext (calShow (r.slices.foldl trimDone (calRestore s .trim))) else s
      | some .white =>
        if full .white then calNext (s.modRun (fun r => { r with slices := r.slices.map (fun x => (x.1, { x.2 with white := x.2.acc })) })) else s
      | some .dark =>
        if full .dark then
          calNext ((calLight s .dark).modRun (fun r => { r with slices := r.slices.map (fun x => (x.1, { x.2 with dark := x.2.acc })) }))
        else s
      | some .verify => if full .verify then calNext (calShow (r.slices.foldl shadeDone (calRestore s .verify))) else s
      | some .check => if full .check then calNext (checkNext (r.slices.foldl checkDone s)) else s
      | some .chart => (stopMove (colourDone s r) 0 (s.get R.CAL_RUN_TBL)).modRun (fun r => { r with phase := .stop })
      | _ => s

/-! ## Reticle runs (R200, R425, R426) -/

/-- Run result of one used segment: B_k × S / D, in 1/256 nm (R200). -/
def baseRun (s : State) (k : Nat) : State :=
  let g := s.trkSeg k
  match g.sig with
  | none => s
  | some ⟨_, _, _, _, b⟩ =>
    let es := g.alone.edges
    let n := s.get R.TRK_CAL_BARS
    if g.alone.failed || es.length != n then s
    else
      let d := (es.getLast?.getD 0) - (es.headD 0)
      if d ≤ 0 then s
      else s.modTrkSeg k (fun x => { x with runs := x.runs ++ [(roundDiv (b * (n - 1) * s.get R.TRK_CAL_SPACING_NM : Nat) (3 * d.toNat)).toNat] })

/-- Proposal and residual (0.01 ppm) of a segment's runs (R200). -/
def baseProposal (l : List Nat) : Option (Nat × Nat) :=
  if l.length < 2 then none
  else
    let n := l.length
    let t := sumN l
    let v := n * sumN (l.map (fun x => x * x)) - t * t
    some ((2 * t + n) / (2 * n), (2 * isqrt (10 ^ 16 * v) + t) / (2 * t))

/-- Nominal baseline of a segment, 1/256 nm (R178). -/
def baseNominal (s : State) (k : Nat) : Option Nat := (trkRows s k).map (fun x => (x.2.2 * 63500 * 16 - x.2.1 * 63500 * 16) / 3)

/-- TRK_BASE is judged (R425, R434). -/
def baseDone (s : State) : State :=
  let one (a : State × List (Nat × (Nat × Nat × Nat))) (k : Nat) : State × List (Nat × (Nat × Nat × Nat)) :=
    let runs := (a.1.trkSeg k).runs
    match baseProposal runs with
    | none => (a.1.set R.TRK_SEGk_CAL 0xFFFF 0 k, a.2)
    | some (b, res) =>
      let s1 := (a.1.set R.TRK_SEGk_CAL (min res 0xFFFE) 0 k).set R.CAL_QF_BASE_k (min 65535 ((res + 5) / 10)) 0 k
      let nom := (baseNominal s1 k).getD b
      let off : Int := (b : Int) - nom
      if s1.get R.CAL_BASE_TOL * nom < off.natAbs * 1000000 then
        (calReject s1 kBASE k 32 (if nom = 0 then 0 else roundDiv (off * 1000000) nom), a.2)
      else if s1.get R.CAL_BASE_RESID_MAX < res then (calReject s1 kBASE k 33 res, a.2)
      else (s1.shadowWrite R.TRK_BASE_k 0 k b, a.2 ++ [(k, (b, (min res 65535, runs.length)))])
  let x := (trkUsed s).foldl one (s, [])
  let s1 := x.1.set R.CAL_REQ (setBit (x.1.get R.CAL_REQ) kBASE false)
  if x.2 = [] then s1
  else
    let t := meanTemp s1
    let old (k : Nat) : List (BitVec 8) := match recInUse s1 (calKey kBASE 0xFF) with
      | some (b, _) => ((recPayload b).drop (8 * k)).take 8
      | none => leBytes 8 0
    let pay := (List.range 24).flatMap (fun k => match smFind x.2 k with
      | some (b, q, n) => leBytes 4 b ++ leBytes 2 q ++ leBytes 2 n
      | none => old k) ++ leBytes 4 (s1.get R.TRK_CAL_SPACING_NM) ++ leBytes 4 (s1.get R.TRK_CAL_BARS)
    let worst := x.2.foldl (fun m y => max m y.2.2.1) 0
    let s2 := t.2.modRun (fun r => { r with results := smPut r.results kBASE (maskOf (x.2.map (·.1)), worst) })
    let s3 := s2.incBy R.CAL_COUNT (x.2.length - 1)
    calAccept s3 kBASE 0xFF s.ts t.1 0 pay true

/-- A correlation window of the run has ended for seam j (R426). -/
def stitchWindows (s0 s1 : State) : State :=
  match s1.cal.run with
  | none => s1
  | some r =>
    if r.gain0.isNone || s1.scrim.corrLines != 0 || s0.scrim.corrLines = 0 && s0.scrim.corr = [] && s1.scrim.corr = [] then s1
    else
      let js := (List.range 23).filter (fun j => s1.get R.CLU_SEAMj_AGE (j / 4) (j % 4) = 0 &&
        (decide (j ∈ s0.scrim.corr.map (·.1)) || s0.scrim.corr = []))
      js.foldl (fun t j => t.modRun (fun r => { r with
        wins := smMod (0, []) r.wins j (fun w =>
          (w.1 + 1, ((seamCorr s1 j, s1.getI R.CLU_SEAMj_RESID (j / 4) (j % 4)) :: w.2).take 4)) })) s1

/-- STITCH is judged (R426, R434). -/
def stitchDone (s : State) (r : CalRun) : State :=
  let cs := contribs s
  let js := (List.range 23).filter (fun j => decide (j ∈ cs) && decide (j + 1 ∈ cs))
  let s0 := stitchRestore s r
  let one (a : State × List (Nat × (Int × Nat))) (j : Nat) : State × List (Nat × (Int × Nat)) :=
    let w := smGet (0, []) r.wins j
    let n := w.2.length
    let c := if n = 0 then 0 else roundDiv (sumI (w.2.map (·.1))) n
    let q := if n = 0 then 0 else isqrt (sumN (w.2.map (fun x => x.2.natAbs * x.2.natAbs)) / n)
    let s1 := a.1.set R.CAL_QF_STITCH_j (min 65535 q) 0 j
    if w.1 < s.get R.CAL_STITCH_WIN then (calReject s1 kSTITCH j 48 w.1, a.2)
    else if s.get R.CAL_STITCH_MAX < c.natAbs then (calReject s1 kSTITCH j 49 c, a.2)
    else (s1.shadowWrite R.CLU_SEAMj_CORR (j / 4) (j % 4) (toTwos 32 c), a.2 ++ [(j, (c, q))])
  let x := js.foldl one (s0, [])
  let s1 := x.1.set R.CAL_REQ (setBit (x.1.get R.CAL_REQ) kSTITCH false)
  if x.2 = [] then s1
  else
    let t := meanTemp s1
    let pay := (List.range 23).flatMap (fun j => leBytesI 4 (match smFind x.2 j with | some y => y.1 | none => seamCorr s1 j)) ++
      leBytesI 8 (anchorNm s1) ++ leBytes 4 0
    let s2 := t.2.modRun (fun r => { r with results := smPut r.results kSTITCH (maskOf (x.2.map (·.1)), x.2.foldl (fun m y => max m y.2.2) 0) })
    calAccept (s2.incBy R.CAL_COUNT (x.2.length - 1)) kSTITCH 0xFF s.ts t.1 0 pay true

/-- A reticle run reaches its travel, and not before (R425): run results, and FEED decelerates to move back (R425). -/
def calReticleDone (s : State) : State :=
  match s.cal.run with
  | some r =>
    if r.stage = some .reticle ∧ r.phase = .run ∧ r.passed = true then
      let s1 := if bitOf r.bar kBASE then (trkUsed s).foldl baseRun s else s
      let s2 := { s1 with trk := { s1.trk with alone := false, bars := false } }
      (stopMove s2 0 (s2.get R.CAL_RUN_TBL)).modRun (fun r => { r with phase := .stop })
    else s
  | none => s

/-- FEED has come back after a pass: the next one, or the results (R425, R200). -/
def calPassDone (s : State) : State :=
  match s.cal.run with
  | none => s
  | some r =>
    let n := r.passes + 1
    let s1 := (calFree s 0).modRun (fun r => { r with passes := n })
    if n < s.get R.TRK_CAL_RUNS then calEnter 1 s1
    else
      let s2 := if bitOf r.bar kBASE then (baseDone s1).raise pgTRK 4 else s1
      calNext (if bitOf r.bar kSTITCH then stitchDone s2 r else s2)

/-- What the axes that Primer moves have come to. -/
def calAxes (s : State) : State :=
  match s.cal.run with
  | none =>
    s.rol.primer.foldl (fun t a => if (t.axis a).move.isNone then calFree t a else t) s
  | some r =>
    let rest (a : Nat) : Bool := decide (a ∈ s.rol.primer) && (s.axis a).move.isNone
    match r.stage with
    | some .tileIn =>
      if rest axSHUTTER then
        let t := calFree s axSHUTTER
        if axPos t axSHUTTER = t.getI R.CAL_SHUT_CLOSED then calNext t else calAbandon t true
      else s
    | some .tileOut => if rest axSHUTTER then calNext (calFree s axSHUTTER) else s
    | some .reticle =>
      if !(rest 0) then s
      else match r.phase with
        | .run => calAbandon (calFree s 0) true
        | .stop =>
          let m := calMove s 0 (r.from_ - axPos s 0) (s.get R.CAL_RUN_TBL) (s.get R.CAL_RUN_ENT)
          if !m.2 then calAbandon (calFree m.1 0) true
          else if (m.1.axis 0).move.isNone then calPassDone m.1 else m.1.modRun (fun r => { r with phase := .back })
        | .back => calPassDone s
        | .wait => s
    | some .chart =>
      if !(rest 0) then s
      else match r.phase with
        | .run => calAbandon (calFree s 0) true
        | _ => calNext (calFree s 0)
    | _ => s

/-! ## The run's boundary (R432, R439) -/

/-- The record of each kind that the run has results of (R439). -/
def calRecords (s : State) (l : List (Nat × (Nat × Nat))) : State :=
  l.foldl (fun t x => t.emit 1 0x11 0x10 (leBytes 1 x.1 ++ leBytes 1 0 ++ leBytes 2 0 ++ leBytes 4 x.2.1 ++ leBytes 8 t.ts ++
    leBytes 4 x.2.2 ++ leBytes 4 (t.get R.CAL_COUNT) ++ leBytes 8 0)) s

/-- The results of a run come into force and are reported (R432, R439). -/
def calResults (s : State) (r : CalRun) : State :=
  let s1 := calBoundary s
  let res := match s1.cal.run with | some q => q.results | none => []
  let s2 := calRecords s1 res
  let s3 := if res = [] then s2 else s2.raise pgCAL 0
  if r.slices = [] then s3 else calTileReqs s3

/-- A run with nothing left ends (CAL_RUN_END); whether CALIBRATE then ends is the caller's to see. What a run of start-up has found waits for
the IDLE entry that ends it (R437). -/
def calRunEnd (s : State) : State :=
  match s.cal.run with
  | none => s
  | some r =>
    if r.stages != [] then s
    else if r.startup && s.pwr.boot = .segs then calShow (calOver (s.modCal (fun c => { c with late := c.late ++ [r] })))
    else calTrigger (calGapEnd (calShow (calOver (calResults s r))))

/-- The IDLE entry that ends start-up: the results of its runs come into force (R437 step 6). -/
def calLate (s : State) : State :=
  let one (t : State) (r : CalRun) : State := (calResults (t.modCal (fun c => { c with run := some r })) r).modCal (fun c => { c with run := none })
  (s.cal.late.foldl one s).modCal (fun c => { c with late := [] })

/-- CALIBRATE has nothing requested or pending that can run: the mode ends (R430; log 128). A tile kind can where a slice it is pending for is
READY, and the shutter is homed or, by hand, the host asks (R422). -/
def calNothing (s : State) : Bool :=
  s.cal.run.isNone && s.get R.CAL_REQ / 4 = 0 && (calTiles s = [] || s.bit R.CAL_CTRL_SHUT_AUTO && !(s.bit R.MOT_AXa_STAT_HOMED axSHUTTER))

/-- A run of CALIBRATE has held every kind that could run: the mode ends with it, unless a bar kind has been requested meanwhile. A tile kind of a
slice whose result was discarded stays pending (R35, R430, R440). -/
def calComplete (s : State) : Bool := s.cal.run.isNone && s.get R.CAL_REQ / 4 = 0

/-- IDLE is entered: what waits for IDLE (R426, R432, R436, R437). -/
def calIdle (s : State) : State :=
  calDigest (calBase (calMirror (calShow s)))

/-! ## A capture gap opens (R431), where a run may start in it (R422; log 119) -/

def calGapOpen (s : State) : State :=
  if s.mode = .capture && s.bit R.CAL_CTRL_GAP_EN && s.bit R.CAP_CTRL_STOP_AT_END && s.get R.CAP_STATE = 3 && s.cap.page.isNone && decide (0 < s.cap.num) &&
      !(bitOf (capCauses s) causeWM || bitOf (capCauses s) causeFAULT) && !(s.bit R.CAL_STAT_GAP) &&
      shutReady s && readyOf s (s.cal.pendAfe ||| s.cal.pendShd) != [] then s.set R.CAL_STAT_GAP 1
  else s

/-- RESUME, or RESUME_FORCE, is held during a gap (R431). -/
def calHold (s : State) (force : Bool) : State := s.modCal (fun c => { c with resume := if force then 2 else max 1 c.resume })

/-! ## READY (R428, R437) -/

/-- The record of a kind in use for slice k, if it is usable, and whether one is valid and not usable (R436). -/
def calRecord (s : State) (kind k : Nat) : Option (List (BitVec 8)) × Bool :=
  match recInUse s (calKey kind k) with
  | some (b, _) => if recUsable s kind k b then (some b, false) else (none, true)
  | none => (none, false)

/-- A segment that comes to READY again with no usable record is a new one: both tile kinds fall due, as far as they have none (R428). -/
def calNewSegment (s : State) (k : Nat) : State :=
  let a := (calRecord s kAFE k).1.isNone
  let h := (calRecord s kSHD k).1.isNone
  if a || h then (calDue s k a h).modCal (fun c => { c with
    lackAfe := if a then setBit c.lackAfe k true else c.lackAfe, lackShd := if h then setBit c.lackShd k true else c.lackShd }) else s

/-- A slice reaches READY; for the first time since reset its records are read, and usable ones put to use. -/
def calReady (s : State) (k : Nat) : State :=
  if bitOf s.cal.seen k then calTriggerSlice (calNewSegment s k) k
  else
    let s0 := s.modCal (fun c => { c with seen := setBit c.seen k true })
    let a := calRecord s kAFE k
    let h := calRecord s kSHD k
    let note (t : State) (kind : Nat) (x : Option (List (BitVec 8)) × Bool) : State :=
      if x.2 then (calEvent t 3 kind k 0 0).raise pgCAL 4 else t
    let s1 := note (note s0 kAFE a) kSHD h
    let s2 := match a.1 with
      | some b =>
        let p := recPayload b
        (((List.range 10).filter (fun c => s1.bit R.AFE_CHc_ASSIGNED k c)).foldl (fun t c =>
          t.shadowWrite R.AFE_CHc_TRIM k c (toTwos R.AFE_CHc_TRIM.width (leAtI p (2 * c) 2))) s1).setI R.CAL_SLCk_T_AFE (leAtI b 0x22 2) 0 k
      | none => (calDue s1 k true false).modCal (fun c => { c with lackAfe := setBit c.lackAfe k true })
    let s3 := match h.1 with
      | some b =>
        let p := recPayload b
        let words := (List.range 61440).filterMap (fun j => let w := leAt p (4 * j) 4; if w = shadeUnity then none else some (j, w))
        let t := ((List.range 10).filter (fun c => s2.bit R.AFE_CHc_ASSIGNED k c)).foldl (fun t c =>
          (t.shadowWrite R.SLC_CHc_TAPM_OFS k c (leAt p (245824 + 4 * c) 2)).shadowWrite R.SLC_CHc_TAPM_GAIN k c (leAt p (245826 + 4 * c) 2)) s2
        (deadRefresh (t.modSlice k (fun z => { z with
          shading := words, shaded := true, shdTgt := leAt p 0x3C004 2, shdAt := leAt p 0x3C008 8 })) k).setI R.CAL_SLCk_T_SHD (leAtI b 0x20 2) 0 k
      | none => (calDue s2 k false true).modCal (fun c => { c with lackShd := setBit c.lackShd k true })
    let s4 := match recInUse s (calKey kBASE 0xFF) with
      | some (b, _) =>
        let v := leAt (recPayload b) (8 * k) 4
        if recUsable s kBASE 0xFF b && v != 0 then s3.shadowWrite R.TRK_BASE_k 0 k v else s3
      | none => s3
    let s5 := match recInUse s (calKey kSTITCH 0xFF) with
      | some (b, _) =>
        if recUsable s kSTITCH 0xFF b then
          ((if 0 < k then [k - 1] else []) ++ (if k < 23 then [k] else [])).foldl (fun t j =>
            t.shadowWrite R.CLU_SEAMj_CORR (j / 4) (j % 4) (leAt (recPayload b) (4 * j) 4)) s4
        else s4
      | none => s4
    let s6 := if a.1.isNone || h.1.isNone then s5.set R.CAL_STAT_RECOVERY 1 else s5
    calDigest (calTriggerSlice s6 k)

end Sys2Proof.Machine
end

