-- ==== Sys2Proof/Machine/Net.lean ====
section
/-! DEFINITION. The Ethernet port (R379 to R383) and the timebase with its servo (R392 to R396). -/
namespace Sys2Proof.Machine
open Sys2Proof

def State.modEth (s : State) (f : Eth → Eth) : State := { s with eth := f s.eth }

/-! ## The link (R379 to R383) -/

/-- Speeds advertised now (R379, R381, R416). -/
def advert (s : State) : Nat :=
  let a := if Variant.has10g s.variant then s.get R.LINK_ADV else s.get R.LINK_ADV % 8
  (a.bitwise (fun x y => x && !y)) s.eth.removed

def ip4Set (s : State) (ip : Nat) : State :=
  if s.get R.LINK_IP4_CUR = ip then s else (s.set R.LINK_IP4_CUR ip).raise pgLINK 2

/-- After a link loss sending starts again with what was sent and not acknowledged, oldest first (R383, R413). -/
def linkResume (s : State) : State :=
  [0, 1, 2, 3].foldl (fun (s : State) n => hcSet s n { hc s n with pkts := (hc s n).pkts.map (fun (p : Pkt) =>
    if p.sent && !p.acked then { p with again := true } else p) }) s

/-- The port asks for an IPv4 lease, while it has none (R382). -/
def dhcpAsk (s : State) : State := if s.bit R.LINK_CTRL_DHCP && !s.eth.lease then s.send .dhcpAsk else s

/-- LINK_UP at a speed code (R383). A suspended session goes on (R409). -/
def linkComesUp (s : State) (speed : Nat) : State :=
  if s.bit R.LINK_STAT_UP ∨ speed = 0 ∨ !(bitOf (advert s) (speed - 1)) then s
  else
    let ms := match s.eth.downAt with | some t => min 65535 ((s.now - t) / 1000000) | none => 0
    let s1 := (((s.set R.LINK_STAT_UP 1).set R.LINK_STAT_SPEED speed).set R.LINK_LAST_DOWN_MS ms).raise pgLINK 0
    let s2 := if s1.get R.TYREX_SESS_STATE = 2 then s1.set R.TYREX_SESS_STATE 1 else s1
    let s3 := if s2.bit R.LINK_CTRL_DHCP then s2 else ip4Set s2 (s2.get R.LINK_IP4)
    let s4 := if s3.bit R.PTP_CTRL_EN && !s3.ptp.locked then s3.set R.PTP_PORT_STATE 4 else s3
    linkResume ((dhcpAsk (s4.modEth (fun e => { e with fails := [] }))).linkEvent 2 speed 0)

/-- A packet part-way sent goes again whole after the link returns (R414). -/
def linkPartial (s : State) : State :=
  [0, 1, 2, 3].foldl (fun s n => hcSet s n { hc s n with pkts := (hc s n).pkts.map (fun p =>
    if p.fragPos = 0 then p else { p with fragPos := 0, again := true, sentEpoch := true }) }) s

/-- LINK_DOWN (R381, R383, R409). -/
def linkGoesDown (s : State) : State :=
  if !(s.bit R.LINK_STAT_UP) then s
  else
    let s1 := (((s.set R.LINK_STAT_UP 0).set R.LINK_STAT_SPEED 0).set R.LINK_STAT_DOWNSHIFTED 0).inc R.LINK_DOWN_CNT
    let s2 := if s1.get R.TYREX_SESS_STATE = 1 then s1.set R.TYREX_SESS_STATE 2 else s1
    linkPartial (((s2.modEth (fun _ => { fails := [], removed := 0, downAt := some s.now, lease := false })).raise pgLINK 1).linkEvent 1 0 0)

/-- LINK_ATTEMPT_FAIL at a speed: the third since the last loss of link removes it (R381). -/
def linkAttempt (s : State) (speed : Nat) : State :=
  if s.bit R.LINK_STAT_UP ∨ !(s.bit R.LINK_CTRL_DOWNSHIFT) ∨ speed = 0 ∨ !(bitOf (advert s) (speed - 1)) then s
  else
    let n := smGet 0 s.eth.fails speed
    if n < 2 then s.modEth (fun e => { e with fails := smPut e.fails speed (n + 1) })
    else
      (s.modEth (fun e => { e with fails := smDel e.fails speed, removed := e.removed ||| 2 ^ (speed - 1) })).set R.LINK_STAT_DOWNSHIFTED 1

/-- Largest frame accepted (R380). -/
def frameLimit (s : State) (vlan : Bool) : Nat := if s.bit R.LINK_CTRL_JUMBO then 9216 else if vlan then 1522 else 1518

def rxDrop (s : State) : State := s.inc R.LINK_RX_DROP

/-- LINK_FRAME_RECEIVE (R380, R382, R399). -/
def frameIn (s : State) (f : RxFrame) : State :=
  if !(s.bit R.LINK_STAT_UP) then s
  else if decide (frameLimit s f.vlan < f.bytes) || f.fragment then rxDrop s
  else match f.kind with
    | .arp => s.send (.answer 1)
    | .ndp => s.send (.answer 2)
    | .icmpEcho => s.send (.answer 3)
    | .dhcpLease ip _ _ =>
      if s.bit R.LINK_CTRL_DHCP then ip4Set ((s.modEth (fun e => { e with lease := true })).send (.answer 4)) ip.toNat else rxDrop s
    | .tyrexOther => s.inc R.TYREX_DROP
    | .other => rxDrop s

/-- DHCP_TIMEOUT: an IPv4 link-local address, and the port asks again; which address is a free value (R382; log 31). -/
def dhcpNone (s : State) : State :=
  if s.bit R.LINK_STAT_UP && s.bit R.LINK_CTRL_DHCP && !s.eth.lease then
    let d := s.draw
    ip4Set (dhcpAsk d.2) (0xA9FE0000 + (Config.unstated 19 d.1 % 65536).toNat)
  else s

/-! ## The timebase (R392 to R394) -/

/-- The timebase, ns. -/
def timebase (s : State) : Int := s.timeAt s.now

def State.modPtp (s : State) (f : Ptp → Ptp) : State := { s with ptp := f s.ptp }

/-- A step: the offset is taken out at once, and FREE clears (R394). -/
def ptpStep (s : State) : State :=
  (((s.modPtp (fun p => { p with offset := p.offset - p.err, err := 0, frac := 0 })).set R.PTP_STAT_FREE 0).set R.PTP_STAT_STEP_PENDING
    0).raise pgPTP 2

/-- An offset from the master has been measured (R394). The rate the servo sets is a free value within PTP_SLEW_PPM (log 31). -/
def ptpMeasured (s : State) (off : Int) : State :=
  let d := s.draw
  let most : Int := 1000 * (s.get R.PTP_SLEW_PPM : Nat)
  let s1 := (((d.2.modPtp (fun p => { p with err := off })).setI R.PTP_OFFSET_NS off).set R.PTP_PORT_STATE 9).setI R.PTP_RATE_PPB
    (clampI (-most) most (Config.unstated 20 d.1))
  if 1000 < off.natAbs then (if s.mode = .idle then ptpStep s1 else s1.set R.PTP_STAT_STEP_PENDING 1) else s1

/-- The path delay is taken out of the Sync's difference. -/
def ptpSynced (s : State) (origin : Int) (rx : Int) : State :=
  let ms := rx - origin
  let s1 := (s.modPtp (fun p => { p with rx := none, ms := some ms, t3 := some (timebase s) })).send (.ptpReq (s.bit R.PTP_CTRL_P2P))
  ptpMeasured s1 (ms - s.ptp.path)

def ptpPath (s : State) (p : Int) : State := (s.modPtp (fun x => { x with path := p, t3 := none })).setI R.PTP_PATH_NS p

/-- PTP_MESSAGE (R392, R394, R418). -/
def ptpIn (s : State) (m : PtpMsg) : State :=
  if !(s.bit R.LINK_STAT_UP) then s
  else if !(s.bit R.PTP_CTRL_EN) || m.transport != s.get R.PTP_CTRL_TRANSPORT || m.domain != s.get R.PTP_DOMAIN then rxDrop s
  else match m.body with
    | .announce gm =>
      let s1 := (s.set64 R.PTP_GM_ID_LO R.PTP_GM_ID_HI gm.toNat).set R.PTP_STAT_HOLDOVER 0
      if s.ptp.locked then s1
      else
        let s2 := ((s1.modPtp (fun p => { p with locked := true })).set R.PTP_PORT_STATE 8).raise pgPTP 0
        if s.ptp.lost then s2.linkEvent 6 0 0 else s2
    | .sync origin =>
      if !s.ptp.locked then s
      else match origin with
        | some t => ptpSynced s t (timebase s)
        | none => s.modPtp (fun p => { p with rx := some (timebase s) })
    | .followUp origin => match s.ptp.rx with | some r => ptpSynced s origin r | none => s
    | .delayResp t4 =>
      match s.bit R.PTP_CTRL_P2P, s.ptp.ms, s.ptp.t3 with
      | false, some ms, some t3 => ptpPath s ((ms + ((t4 : Int) - t3)) / 2)
      | _, _, _ => s
    | .pdelayResp turn =>
      match s.bit R.PTP_CTRL_P2P, s.ptp.t3 with
      | true, some t3 => ptpPath s ((timebase s - t3 - turn) / 2)
      | _, _ => s

/-- PTP_ANNOUNCE_TIMEOUT (R394). -/
def ptpSilent (s : State) : State :=
  if s.ptp.locked then
    ((((s.modPtp (fun p => { p with locked := false, lost := true, rx := none, t3 := none })).set R.PTP_STAT_HOLDOVER 1).set R.PTP_PORT_STATE
      4).raise pgPTP 1).linkEvent 7 0 0
  else s

/-- PTP at IDLE entry: a step that waited is made, and PTP_CTRL_EN in force acts (R394, R418). -/
def ptpIdle (s : State) : State :=
  let s1 := if s.bit R.PTP_STAT_STEP_PENDING then ptpStep s else s
  if s1.bit R.PTP_CTRL_EN then (if s1.get R.PTP_PORT_STATE = 3 then s1.set R.PTP_PORT_STATE 4 else s1)
  else (s1.modPtp (fun p => { p with locked := false, err := 0, rx := none, t3 := none })).set R.PTP_PORT_STATE 3

/-- One free-running nanosecond at the rate in PTP_RATE_PPB, 10⁻⁹ ns a unit (R392, R394). -/
def ptpRun (s : State) : State :=
  let d := s.ptp.drift + ofTwos 32 (s.get R.PTP_RATE_PPB)
  let whole := d / 1000000000
  s.modPtp (fun p => { p with drift := d % 1000000000, offset := p.offset + whole })

/-- One free-running nanosecond: the timebase slews towards the master by a free amount of at most PTP_SLEW_PPM (R394; log 31). With no offset
left to correct, and so in holdover too, it runs at the rate of the servo, unless PTP is off (R392, R394, R418). -/
def ptpTick (s : State) : State :=
  if s.ptp.err = 0 ∨ s.ptp.locked = false then (if s.bit R.PTP_CTRL_EN then ptpRun s else s)
  else
    let d := s.draw
    let f := s.ptp.frac + (Config.unstated 21 d.1 % (s.get R.PTP_SLEW_PPM + 1 : Nat)).toNat
    let up : Int := if s.ptp.err < 0 then 1 else -1
    d.2.modPtp (fun p => if f < 1000000 then { p with frac := f }
      else { p with frac := f - 1000000, offset := p.offset + up, err := p.err + up })

/-- Nothing waits: one nanosecond passes (log 1), and the timebase slews with it (R392). -/
def clockTick (s : State) : State := ptpTick { s with now := s.now + 1 }

/-- PTP_LATCH (R418). -/
def ptpLatchTime (s : State) : State := s.set64 R.PTP_TIME_LO R.PTP_TIME_HI s.ts

end Sys2Proof.Machine
end

