-- ==== Sys2Proof/Machine/Health.lean ====
section
/-! DEFINITION. Health, spares and housekeeping (R443 to R470): die monitors, the housekeeping ADC, the bridge front ends, and Filler's
spare lanes, memory repair, retests and wear record. -/
namespace Sys2Proof.Machine
open Sys2Proof

def State.modHk (s : State) (f : Hk → Hk) : State := { s with hk := f s.hk }
def State.modFil (s : State) (f : Filler → Filler) : State := { s with fil := f s.fil }

/-- The class 0 events of the monitors and of Filler (R470). -/
def State.monEvent (s : State) (code detail location value : Nat) : State := s.event32 0x13 code detail location value
def State.filEvent (s : State) (code detail location value : Nat) : State := s.event32 0x12 code detail location value

/-! ## Thermal sensors (R443 to R445) -/

/-- Middle value of a list; of an even number the mean of the middle two, rounded (log 42). -/
def midValue (l : List Int) : Option Int :=
  let m := sortBy (fun v => (v + 65536).toNat) l
  match m with
  | [] => none
  | _ => if m.length % 2 = 1 then m[m.length / 2]? else some (roundDiv (m.getD (m.length / 2 - 1) 0 + m.getD (m.length / 2) 0) 2)

def sensorFailed (s : State) (i : Nat) : Bool := bitOf (s.get R.MON_T_FAILED) i

/-- Spare sensor that covers slice sensor i (R443). -/
def sensorSpare (i : Nat) : Nat := 28 + i / 6

def sensorInRange (v : Int) : Bool := decide (-4000 ≤ v) && decide (v ≤ 15000)

/-- The learned offset of a slice sensor (R444). -/
def learnedOffset (s : State) (i : Nat) : Int :=
  let l := smGet [] s.hk.offs i
  if l = [] then 0 else roundDiv (sumI l) l.length

/-- The readings of 10 minutes, one each 1 ms (R444). -/
def offsetLearn (s : State) (t : Nat → Int) : State :=
  s.each (List.range 24) (fun s i =>
    let p := sensorSpare i
    if !(sensorFailed s i) && !(sensorFailed s p) && sensorInRange (t i) && sensorInRange (t p) then
      s.modHk (fun h => { h with offs := smMod [] h.offs i (fun l => ((t i - t p) :: l).take 600000) })
    else s)

/-- What a sensor is compared with (R444; log 42: failed sensors take no part). -/
def sensorPeers (s : State) (t : Nat → Int) (i : Nat) : List Int :=
  let ok (j : Nat) : Bool := !(sensorFailed s j)
  if i < 24 then
    (if ok (sensorSpare i) then [t (sensorSpare i) + learnedOffset s i] else []) ++
    (([i + 23, i + 1].map (fun j => if j = i + 23 then (if i = 0 then 24 else i - 1) else j)).filter
      (fun j => decide (j < 24) && ok j)).map t
  else if 28 ≤ i then (((List.range 6).map (fun j => 6 * (i - 28) + j)).filter ok).map t
  else []

/-- One sensor's test: out of range, or more than 5 K off for 1 s, which is 1,000 readings (R444). -/
def sensorTest (s : State) (t : Nat → Int) (i : Nat) : State :=
  if sensorFailed s i then s
  else
    let far := match midValue (sensorPeers s t i) with | some m => decide (500 < (t i - m).natAbs) | none => false
    let n := if far then smGet 0 s.hk.far i + 1 else 0
    let s1 := s.modHk (fun h => { h with far := smPut h.far i n })
    if !(sensorInRange (t i)) || decide (1000 ≤ n) then
      ((s1.set R.MON_T_FAILED (setBit (s1.get R.MON_T_FAILED) i true)).monEvent 5 i (if i < 24 then locSeg i else 0) (toTwos 32 (t i))).raise
        pgMON 4
    else s1

/-- Nearest slice sensor that has not failed; of two as near the lower; of no place, the lowest (R444; log 42). -/
def nearestSensor (s : State) (i : Nat) : Option Nat :=
  let d (j : Nat) : Nat := if i < 24 then 2 * ((i - j) + (j - i)) + (if j < i then 0 else 1) else j
  (sortBy d ((List.range 24).filter (fun j => !(sensorFailed s j)))).head?

/-- What MON_Ti shows: value, whether substituted; none for a spare that has failed, or with nothing left to read (R443, R444). -/
def sensorShown (s : State) (t : Nat → Int) (i : Nat) : Option (Int × Bool) :=
  if !(sensorFailed s i) then some (t i, false)
  else if 28 ≤ i then none
  else
    let sub := if i < 24 then sensorSpare i else if i % 2 = 0 then i + 1 else i - 1
    if !(sensorFailed s sub) then some (t sub + (if i < 24 then learnedOffset s i else 0), true)
    else (nearestSensor s i).map (fun j => (t j, true))

def sensorShow (s : State) (t : Nat → Int) (i : Nat) : State :=
  match sensorShown s t i with
  | some v => ((s.setI R.MON_Ti v.1 0 i).set R.MON_Ti_VALID 1 0 i).setB R.MON_Ti_SUBST v.2 0 i
  | none => ((s.setI R.MON_Ti (t i) 0 i).set R.MON_Ti_VALID 0 0 i).set R.MON_Ti_SUBST 0 0 i

/-- The highest valid reading of sensors 0 to 27, with its sensor (R445). -/
def hottest (s : State) : Option (Nat × Int) :=
  ((List.range 28).filter (fun i => s.bit R.MON_Ti_VALID 0 i)).foldl (fun b i =>
    let v := s.getI R.MON_Ti 0 i
    match b with
    | none => some (i, v)
    | some x => if x.2 < v then some (i, v) else b) none

/-- WARN and CRIT (R445): set at the limit, cleared 5 K below it. -/
def thermLimits (s : State) (i : Nat) (v : Int) : State :=
  let w : Int := 100 * s.get R.MON_T_WARN
  let c : Int := 100 * s.get R.MON_T_CRIT
  let at_ := if i < 24 then locSeg i else 0
  let s1 :=
    if w ≤ v ∧ !(s.bit R.MON_T_ALARM) then ((s.set R.MON_T_ALARM 1).monEvent 1 i at_ (toTwos 32 v)).raise pgMON 0
    else if v ≤ w - 500 then s.set R.MON_T_ALARM 0 else s
  if c ≤ v ∧ !s1.hk.crit then ((s1.modHk (fun h => { h with crit := true })).monEvent 2 i at_ (toTwos 32 v)).raise pgMON 1
  else if v ≤ c - 500 then s1.modHk (fun h => { h with crit := false }) else s1

/-- The 32 sensors are read (R443 to R445). A trip is recorded; the reset that follows it is the caller's. -/
def thermalRead (s : State) (centi : List Int) : State :=
  let t (i : Nat) : Int := clampI (-32768) 32767 (centi.getD i 0)
  let s1 := (offsetLearn s t).each (List.range 32) (fun u i => sensorTest u t i)
  let s2 := s1.each (List.range 32) (fun u i => sensorShow u t i)
  match hottest s2 with
  | none => s2
  | some (i, v) =>
    let s3 := if s2.hk.read = false ∨ s2.getI R.MON_T_PEAK < v then s2.setI R.MON_T_PEAK v else s2
    let s4 := thermLimits (s3.modHk (fun h => { h with read := true })) i v
    { s4 with pwr := { s4.pwr with
        trip := if 12500 ≤ v then some (i, v) else s4.pwr.trip
        cooling := s4.pwr.cooling && decide (11500 ≤ v) } }

/-! ## Voltage and process monitors (R446, R447) -/

def voltageRead1 (s : State) (x : Nat × Nat) : State :=
  let v := x.1
  let nom := s.get R.MON_Vv_NOM 0 v
  let out := decide (nom * s.get R.MON_V_WIN < 1000 * ((x.2 - nom) + (nom - x.2)))
  let alarm := out && decide (v ∈ s.hk.vOut)
  let was := bitOf (s.get R.MON_V_ALARM) v
  let s1 := (((s.set R.MON_Vv (min x.2 65535) 0 v).set R.MON_V_ALARM (setBit (s.get R.MON_V_ALARM) v alarm)).modHk (fun h => { h with
    vOut := if out then v :: h.vOut.filter (fun w => w != v) else h.vOut.filter (fun w => w != v) }))
  if alarm && !was then (s1.monEvent 3 v 0 x.2).raise pgMON 2 else s1

/-- The 16 voltage monitors are read (R446). -/
def voltageRead (s : State) (mv : List Nat) : State := s.each ((List.range 16).zip mv) voltageRead1

/-- The process monitors are read; each margin below the limit raises its event (R447; log 42). -/
def processRead (s : State) (ps : List Nat) : State :=
  s.each ((List.range (Variant.clusters s.variant)).zip ps) (fun t x =>
    let low := decide (x.2 < t.get R.MON_PM_MIN)
    let t1 := (t.set R.MON_PMc (min x.2 1023) 0 x.1).set R.MON_PM_ALARM (setBit (t.get R.MON_PM_ALARM) x.1 low)
    if low then
      ((t1.monEvent 4 x.1 (locCluster x.1) x.2).raise pgMON 3).modFil (fun f => { f with wear := { f.wear with pm := f.wear.pm + 1 } })
    else t1)

/-! ## Housekeeping ADC (R448 to R452) -/

def hkEntry (s : State) (e : Nat) : HkEntry :=
  { e := e, src := s.get R.HK_SEQe_SRC 0 e, avg := s.get R.HK_SEQe_AVG 0 e, fmt := s.get R.HK_SEQe_FMT 0 e }

def HkEntry.bridge (x : HkEntry) : Bool := x.src = 48 || x.src = 49
def HkEntry.diff (x : HkEntry) : Bool := decide (32 ≤ x.src) && decide (x.src < 48)

/-- The ends of a source's code range (R450). -/
def HkEntry.range (x : HkEntry) : Int × Int := if x.diff || x.bridge then (-32768, 32767) else (0, 65535)

/-- Thermistor temperature of a mean code, 0.01 °C (R451). -/
def thermOf (s : State) (x : Nat) : Int :=
  let a := s.getI R.HK_THERM_LUT_i 0 (x / 1024)
  a + ((s.getI R.HK_THERM_LUT_i 0 (x / 1024 + 1) - a) * (x % 1024 : Nat) + 512) / 1024

/-- The result is a thermistor's temperature: FMT 2 of a single-ended input; of any other source FMT 2 acts as 1 (R448, R450). -/
def HkEntry.therm (x : HkEntry) : Bool := x.fmt = 2 && decide (x.src < 32)

/-- A code formatted as the entry's FMT says (R450). -/
def hkFormat (s : State) (x : HkEntry) (code : Int) : Int :=
  if x.bridge || x.fmt = 0 then code
  else if x.therm then thermOf s (clampI 0 65535 code).toNat
  else roundDiv (code * 2500) (if x.diff then 32768 else 65536)

def hkRunBegin (s : State) : State :=
  let l := (maskList (s.get R.HK_SEQ_EN) 16).map (hkEntry s)
  s.modHk (fun h => { h with run := if l = [] then none else some l, due := false })

/-- A run falls due (R448, R449). -/
def hkRunDue (s : State) : State :=
  if !(s.bit R.HK_CTRL_RUN) then s
  else if !(s.bit R.HK_REF_READY) then s.modHk (fun h => { h with due := true })
  else if s.hk.run.isSome then ((s.modHk (fun h => { h with due := true })).inc R.HK_SEQ_LATE).raise pgHK 6
  else hkRunBegin s

/-- The run has no entry left: the next one starts if it waits, or at once with a period of 0 (R449). -/
def hkRunNext (s : State) : State :=
  let s1 := s.modHk (fun h => { h with run := none })
  if s.bit R.HK_CTRL_RUN && s.bit R.HK_REF_READY && (s.hk.due || s.get R.HK_SEQ_PERIOD = 0) then hkRunBegin s1 else s1

/-! ## Bridges (R453 to R456) -/

def State.bridge (s : State) (b : Nat) : Bridge := smGet Bridge.init s.hk.bridges b
def State.modBridge (s : State) (b : Nat) (f : Bridge → Bridge) : State :=
  s.modHk (fun h => { h with bridges := smMod Bridge.init h.bridges b f })

/-- Product of two polynomials given by their coefficients. -/
def polyMul (a b : List Nat) : List Nat :=
  (List.range (a.length + b.length - 1)).map (fun n =>
    sumN ((List.range (n + 1)).map (fun i => a.getD i 0 * b.getD (n - i) 0)))

/-- Weights of the sinc3 filter, newest sample first (R454). -/
def sinc3 (d : Nat) : List Nat := let u := List.replicate d 1; polyMul u (polyMul u u)

/-- An output of the filter over the newest 3D samples, newest first; 192 are held, as many as the largest D takes (R454; log 43: rounded to nearest). -/
def sincOut (d : Nat) (x : List Int) : Int :=
  roundDiv (sumI (((sinc3 d).zip x).map (fun p => (p.1 : Int) * p.2))) (d ^ 3)

/-- The output of bridge b is no longer VALID, and neither is the result of an entry that samples it (R450, R456). -/
def bridgeInvalid (s : State) (b : Nat) : State :=
  (s.set R.HK_BRb_STAT_VALID 0 0 b).each ((List.range 16).filter (fun e => s.get R.HK_SEQe_SRC 0 e = 48 + b))
    (fun t e => t.set R.HK_RESe_VALID 0 0 e)

/-- The bridge is BROKEN or suspected of a break, so its ratio holds (R456). -/
def bridgeHeld (s : State) (b : Nat) : Bool := s.bit R.HK_BRb_STAT_SUSPECT 0 b || s.bit R.HK_BRb_STAT_BROKEN 0 b

def bridgeRatio (s : State) (b : Nat) (v : Int) : State :=
  if bridgeHeld s b then s
  else ((s.setI R.HK_BRb_RATIO v 0 b).set R.HK_BRb_STAT_VALID 1 0 b).modBridge b (fun x => { x with fresh := true })

/-- The sense code reads below half of the excitation setting (R453, R456). -/
def senseLow (exc5 : Bool) (sns : Int) : Bool := decide (5 * sns.natAbs < 32768 * (if exc5 then 2 else 1))

/-- The ratio of one pair of conversions, nV/V (R453, R456; log 43: by the sense voltage's magnitude). -/
def pairRatio (x : Bridge) (sig sns : Int) : Int :=
  if senseLow x.exc5 sns then roundDiv (sig * 1000000000) (32768 * 2 ^ x.gain * (if x.exc5 then 2 else 1))
  else roundDiv (sig * 400000000) (2 ^ x.gain * sns.natAbs)

/-- Settings come into force at an output boundary; a change of gain or excitation is a disturbance (R454). -/
def bridgeSettings (s : State) (b : Nat) : State :=
  let g := s.get R.HK_BRb_GAIN 0 b
  let e := s.bit R.HK_BRb_EXC_5V 0 b
  let rev := s.bit R.HK_BRb_REVERSE 0 b
  if !(s.bit R.HK_BRb_EN 0 b) then
    ((bridgeInvalid s b).set R.HK_BRb_STAT_SETTLED 0 0 b).modBridge b (fun _ => Bridge.init)
  else s.modBridge b (fun x =>
    let moved := !x.on || x.gain != g || x.exc5 != e || (!rev && x.neg)
    let y := if x.on && x.reverse == rev then x else { x with neg := false, half := (0, 0), plus := none, switchAt := s.now }
    { y with on := true, gain := g, exc5 := e, reverse := rev, dec := max 1 (s.get R.HK_BRb_DEC 0 b), unsettled := if moved then 3 else y.unsettled })

/-- A write to a bridge's settings: the excitation goes on or off; the rest waits for the next output boundary (R454). -/
def bridgeSwitched (s : State) (b : Nat) : State :=
  if (s.bridge b).on && s.bit R.HK_BRb_EN 0 b then s else bridgeSettings s b

/-- The end of a half of the reversal (R455). -/
def bridgeSwitch (s : State) (b : Nat) : State :=
  let x := s.bridge b
  if !x.reverse || decide (s.now < x.switchAt + 1000000 * s.get R.HK_BRb_REV_MS 0 b) then s
  else
    let s1 := if !x.neg then s
      else match x.plus with
        | some p =>
          if p.2 = 0 ∨ x.half.2 = 0 then s.set R.HK_BRb_STAT_NOSETTLE 1 0 b
          else bridgeRatio s b (roundDiv (p.1 * x.half.2 - x.half.1 * p.2) (2 * p.2 * x.half.2))
        | none => s.set R.HK_BRb_STAT_NOSETTLE 1 0 b
    s1.modBridge b (fun y => { y with
      neg := !y.neg, plus := if x.neg then none else some x.half, half := (0, 0), switchAt := s.now, unsettled := 3 })

/-- An output of bridge b (R454, R455). -/
def bridgeOutput (s : State) (b : Nat) : State :=
  let x := s.bridge b
  let v := sincOut x.dec x.samples
  let s0 := s.modBridge b (fun y => { y with runs := 0 })
  let s1 :=
    if x.unsettled ≠ 0 then (s0.set R.HK_BRb_STAT_SETTLED 0 0 b).modBridge b (fun y => { y with unsettled := y.unsettled - 1 })
    else
      let t := s0.set R.HK_BRb_STAT_SETTLED 1 0 b
      if x.reverse then t.modBridge b (fun y => { y with half := (y.half.1 + v, y.half.2 + 1) }) else bridgeRatio t b v
  bridgeSettings (bridgeSwitch s1 b) b

/-- One bridge sample: the mean ratio of an entry's pairs, or the previous sample in its place (R454, R456). -/
def bridgeSample (s : State) (b : Nat) (codes sense : List Int) (inTest : Bool) : State :=
  let s0 := if (s.bridge b).on then s else bridgeSettings s b
  if !((s0.bridge b).on) then s0
  else
    let x := s0.bridge b
    let pairs := codes.zip sense
    let beyond := codes.any (fun c => decide (c ≤ -32768) || decide (32767 ≤ c))
    let s1 :=
      if beyond && !inTest then
        let t := (bridgeInvalid s0 b).modBridge b (fun y => { y with fresh := false })
        if s0.bit R.HK_BRb_STAT_SUSPECT 0 b then t
        else ((t.set R.HK_BRb_STAT_SUSPECT 1 0 b).modBridge b (fun y => { y with clean := 0 })).raise pgHK 3
      else s0
    let low := pairs.any (fun p => senseLow x.exc5 p.2)
    let s2 := if inTest || pairs = [] then s1 else
      (s1.setB R.HK_BRb_STAT_NOSENSE low 0 b).set R.HK_BRb_SNS_MV
        (min 65535 (roundDiv (6250 * (sumN (pairs.map (fun p => p.2.natAbs)) : Nat)) (32768 * pairs.length)).toNat) 0 b
    let now : Option Int :=
      if beyond || inTest || pairs = [] then x.prev else some (roundDiv (sumI (pairs.map (fun p => pairRatio x p.1 p.2))) pairs.length)
    match now with
    | none => s2
    | some v =>
      let s3 := s2.modBridge b (fun y => { y with samples := (v :: y.samples).take 192, prev := some v, runs := y.runs + 1 })
      if (s3.bridge b).dec ≤ (s3.bridge b).runs then bridgeOutput s3 b else s3

/-- A test of the bridge's wires ends: `exc`, `sns`, `sig` say which pairs read above 10 kΩ (R456). -/
def bridgeTest (s : State) (b : Nat) (exc sns sig : Bool) : State :=
  if !((s.bridge b).on) then s
  else if exc || sns || sig then
    let s1 := s.modBridge b (fun x => { x with fails := x.fails + 1, passes := 0, clean := 0 })
    if 2 ≤ (s1.bridge b).fails && !(s.bit R.HK_BRb_STAT_BROKEN 0 b) then
      let w := if exc then 1 else if sns then 2 else 3
      (((bridgeInvalid ((s1.set R.HK_BRb_STAT_BROKEN 1 0 b).set R.HK_BRb_STAT_WIRE w 0 b) b).modBridge b
        (fun x => { x with fresh := false })).monEvent 6 b 0 w).raise pgHK 4
    else s1
  else
    let s1 := s.modBridge b (fun x => { x with fails := 0, passes := x.passes + 1, clean := x.clean + 1 })
    let p := (s1.bridge b).passes
    let s2 := if 2 ≤ (s1.bridge b).clean then s1.set R.HK_BRb_STAT_SUSPECT 0 0 b else s1
    if 3 ≤ p && s2.bit R.HK_BRb_STAT_BROKEN 0 b then
      ((((s2.set R.HK_BRb_STAT_BROKEN 0 0 b).set R.HK_BRb_STAT_WIRE 0 0 b).modBridge b (fun x => { x with unsettled := 3 })).monEvent
        7 b 0 0).raise pgHK 5
    else s2

/-! ## Entries and the urgent request (R448 to R452) -/

/-- The reference is ready: waiting work starts, and bridges are disturbed (R448, R454). -/
def hkRefReady (s : State) : State :=
  if !(s.bit R.HK_CTRL_REF_EN) || s.bit R.HK_REF_READY then s
  else
    let s1 := ((s.set R.HK_REF_READY 1).modHk (fun h => { h with
      run := none, offAt := none, bridges := h.bridges.map (fun b => (b.1, { b.2 with unsettled := 3 })) })).raise pgHK 0
    if s1.hk.due && s1.bit R.HK_CTRL_RUN then hkRunBegin s1 else s1

/-- REF_EN is written to 0: the conversion in progress ends, of the run only its entry in progress, and no other starts (R448; log 43). -/
def hkRefOff (s : State) : State :=
  if s.bit R.HK_REF_READY then (s.set R.HK_REF_READY 0).modHk (fun h => { h with run := h.run.map (·.take 1), offAt := some s.now }) else s

/-- The mean of the samples and its flags are stored (R450, R456); a bar thermistor's reading has arrived with it (R144). -/
def hkResult (s : State) (x : HkEntry) (codes : List Int) : State :=
  let r := x.range
  let c := codes.map (clampI r.1 r.2)
  let ovr := c.any (fun v => decide (v ≤ r.1) || decide (r.2 ≤ v))
  let v := hkFormat s x (roundDiv (sumI c) (max 1 c.length))
  let ok := if x.bridge then s.bit R.HK_BRb_STAT_VALID 0 (x.src - 48)
    else !ovr && !(x.therm && s.bit R.HK_STAT_LUT_ZERO)
  let s1 := (((s.setI R.HK_RESe v 0 x.e).setB R.HK_RESe_OVR ovr 0 x.e).set R.HK_RESe_STALE 0 0 x.e).setB R.HK_RESe_VALID ok 0 x.e
  let s2 := if (List.range 8).any (fun i => s.bit R.SCRIM_THERMi_EN 0 i && s.get R.SCRIM_THERMi_SEL 0 i = x.e) then scrimStale s1 else s1
  if ovr then s2.raise pgHK 2 else s2

/-- The samples of the run's next entry are complete (R449, R450): 2^AVG of them. -/
def hkEntryEnd (s : State) (e : Nat) (codes sense : List Int) (inTest : Bool) : State :=
  match s.hk.run with
  | some (x :: l) =>
    if x.e ≠ e ∨ codes.length ≠ 2 ^ x.avg then s
    else
      let s1 := if x.bridge then bridgeSample s (x.src - 48) codes sense inTest else s
      let s2 := hkResult s1 x codes
      if l = [] then hkRunNext s2 else s2.modHk (fun h => { h with run := some l })
  | _ => s

/-- An entry has gone without a result for too long (R450). -/
def hkStale (s : State) (e : Nat) : State := thermLost ((s.set R.HK_RESe_STALE 1 0 e).set R.HK_RESe_VALID 0 0 e)

/-- The urgent request is triggered (R452). -/
def hkUrgent (s : State) : State :=
  if s.hk.urg.isSome then s.inc R.HK_URG_LOST
  else s.modHk (fun h => { h with urg := some { hkEntry s (s.get R.HK_URG_ENTRY) with avg := 0 }, offAt := none })

/-- A conversion whose sampling started `ago` ns before now completes: the reference is ready, or was when sampling started (R448). -/
def hkConverts (s : State) (ago : Nat) : Bool :=
  s.bit R.HK_REF_READY || (match s.hk.offAt with | some o => decide ((s.now : Int) - ago ≤ o) | none => false)

/-- The urgent sample is in; sampling started `ago` ns before (R452). -/
def hkUrgentDone (s : State) (code : Int) (ago : Nat) : State :=
  match s.hk.urg with
  | none => s
  | some x =>
    if !(hkConverts s ago) then s
    else
      let t := tsOf (s.bit R.PTP_STAT_FREE) (s.timeAt ((s.now : Int) - ago)).toNat
      (((s.modHk (fun h => { h with urg := none })).setI R.HK_URG_RESULT (hkFormat s x (clampI x.range.1 x.range.2 code))).set64
        R.HK_URG_TS_LO R.HK_URG_TS_HI t).raise pgHK 1

/-! ## Spare digital lanes (R457 to R460) -/

def laneState (s : State) (c : Nat) : Nat := s.get R.SPARE_LANEc_STATE 0 c
def sliceLane (s : State) (k : Nat) : Nat := s.get R.SPARE_SLCk_LANE 0 k

/-- The spare lane of slice k's cluster takes the slice over (R459). -/
def laneSwap (s : State) (k : Nat) : State :=
  let c := k / 4
  ((((((s.set R.SPARE_SLCk_LANE 2 0 k).set R.SPARE_LANEc_STATE 1 0 c).set R.SPARE_LANEc_SLICE (k % 4) 0 c).set
    R.SPARE_LANEc_PENDING 0 0 c).filEvent 1 c (locSeg k) 0).raise pgSPARE 0)

/-- A lane goes OUT (R460). -/
def laneOut (s : State) (k : Nat) : State := ((s.set R.SPARE_SLCk_LANE 3 0 k).filEvent 3 (k / 4) (locSeg k) 0).raise pgSPARE 2

/-- The spare lane becomes FAILED (R458). -/
def spareLaneFails (s : State) (c : Nat) : State :=
  let s1 := (s.set R.SPARE_LANEc_STATE 2 0 c).set R.SPARE_LANEc_PENDING 0 0 c
  if laneState s c = 1 then laneOut s1 (4 * c + s.get R.SPARE_LANEc_SLICE 0 c) else s1

/-- Slice k's lane, or the spare lane that stands in for it, is lost in a line, by a failed check or its context's error (R459, R460). -/
def laneLost (s : State) (k : Nat) : State :=
  let c := k / 4
  if sliceLane s k = 3 ∨ k ∈ s.fil.takeover then s
  else if sliceLane s k = 2 then spareLaneFails s c
  else if laneState s c = 0 ∧ ¬ (s.fil.takeover.any (fun j => j / 4 = c)) then
    (s.set R.SPARE_LANEc_PENDING 0 0 c).modFil (fun f => { f with takeover := f.takeover ++ [k] })
  else laneOut s k

/-- A check of slice k's lane, or of the spare lane that stands in for it, has failed in a line (R457, R459, R460). -/
def laneCheckFails (s : State) (k : Nat) : State :=
  laneLost ((s.inc R.SPARE_SLCk_ERRS 0 k).modFil (fun f => { f with checked := k :: f.checked.filter (fun j => j != k) })) k

/-- Slices with a failed check, each once. -/
def laneFailed (l : List LaneBad) : List Nat := (List.range 24).filter (fun k => l.any (fun x => x.check && x.slice = k))

/-- The checks of a line (R457); a shading word that could not be read is marked until Filler rewrites it (R461). -/
def laneChecks (s : State) (l : List LaneBad) : State :=
  let bad := l.filterMap (fun x => x.shade.map (fun p => (x.slice, 12288 * x.row + p)))
  ((s.each (laneFailed l) laneCheckFails).each ((List.range 24).filter (fun k => l.any (fun x => x.context && x.slice = k))) laneLost).modFil
    (fun f => { f with shdBad := bad.filter (fun w => !(decide (w ∈ f.shdBad))) ++ f.shdBad })

/-- SRAM words read with a correctable error: the second since start-up puts a word on the repair list, which mends it from the next
start-up on (R461; log 120). -/
def sramCorrected (s : State) (words : List Nat) : State :=
  s.each words (fun t w =>
    (t.inc R.SPARE_SRAM_CE).modFil (fun f =>
      if w ∈ f.sramList then f
      else if w ∈ f.sramOnce then { f with sramList := f.sramList ++ [w] } else { f with sramOnce := f.sramOnce ++ [w] }))

/-- Every block of the slice's rows is INVALID in the line (R459, R460, R461, R536). -/
def laneWhole (s : State) (k : Nat) : Bool :=
  decide (k ∈ s.fil.skip) || decide (k ∈ s.fil.takeover) || sliceLane s k = 3 || s.bit R.SPARE_SLCk_SRAM_FAIL 0 k

/-- The rows of slice k with the blocks marked that cannot be vouched for (R457, R459 to R461). -/
def laneMark (s : State) (l : List LaneBad) (k : Nat) (rows : List RowData) : List RowData :=
  rows.map (fun r => { r with flags := (r.flags.zip (List.range r.flags.length)).map (fun x =>
    if laneWhole s k || l.any (fun y => y.slice = k && y.row = r.role && y.block = x.2) ||
        s.fil.shdBad.any (fun w => w.1 = k && w.2 / 256 = 48 * r.role + x.2) then x.1 ||| flINVALID else x.1) })

/-- Takeovers at a LINE boundary; the line that starts now is invalid for each slice as well (R459). -/
def laneTakeovers (s : State) : State :=
  let ks := s.fil.takeover
  (s.each ks laneSwap).modFil (fun f => { f with takeover := [], skip := f.skip ++ ks })

/-- A line has been judged: the lines after it count again (R459). -/
def laneLineDone (s : State) (before : List Nat) : State :=
  s.modFil (fun f => { f with skip := f.skip.filter (fun k => !(decide (k ∈ before))) })

/-- Planned swaps at a PASS, PAGE or IDLE boundary (R459). -/
def lanePlanned (s : State) : State :=
  s.each (List.range (Variant.clusters s.variant)) (fun t c =>
    if t.bit R.SPARE_LANEc_PENDING 0 c && laneState t c = 0 then
      match [0, 1, 2, 3].find? (fun j => sliceLane t (4 * c + j) = 1) with
      | some j => laneSwap t (4 * c + j)
      | none => t.set R.SPARE_LANEc_PENDING 0 0 c
    else t)

/-- The next contributing slice of the cluster, after place j (R458). -/
def laneNext (s : State) (c j : Nat) : Nat :=
  (([1, 2, 3, 4].map (fun d => (j + d) % 4)).find? (fun i => (s.slice (4 * c + i)).contributing)).getD j

/-- A LINE boundary for the spare lane of cluster c: while it watches, a visit to a contributing slice starts there, or one more of its lines has
passed; a slice that no longer contributes is left for the next that does (R458; log 124). -/
def laneWatch (s : State) (c : Nat) : State :=
  let j := s.get R.SPARE_LANEc_SLICE 0 c
  let j1 := if (s.slice (4 * c + j)).contributing then j else laneNext s c j
  if laneState s c ≠ 0 ∨ (s.slice (4 * c + j1)).contributing = false then s.modFil (fun f => { f with visit := smDel f.visit c })
  else if j1 = j then s.modFil (fun f => { f with visit := smPut f.visit c (match smFind f.visit c with | some n => n + 1 | none => 0) })
  else (s.modFil (fun f => { f with visit := smPut f.visit c 0 })).set R.SPARE_LANEc_SLICE j1 0 c

/-- The visit in progress has seen its SPARE_LANE_VISIT capture lines (R458). -/
def laneVisited (s : State) (c : Nat) : Bool :=
  match smFind s.fil.visit c with | some n => decide (s.get R.SPARE_LANE_VISIT ≤ n) | none => false

/-- A visit of the spare lane ends (R458). -/
def laneVisit (s : State) (c : Nat) (mismatch : Bool) : State :=
  if laneState s c ≠ 0 ∨ laneVisited s c = false then s
  else
    let j := s.get R.SPARE_LANEc_SLICE 0 c
    let k := 4 * c + j
    let was := decide (k ∈ s.fil.missed)
    let others := s.fil.missed.any (fun i => i / 4 = c && i != k)
    let bad := mismatch && (s.slice k).contributing && !(decide (k ∈ s.fil.checked))
    let s1 := (s.modFil (fun f => { f with
      missed := if bad then k :: f.missed.filter (fun i => i != k) else f.missed.filter (fun i => i != k)
      checked := f.checked.filter (fun i => i != k), visit := smDel f.visit c })).set R.SPARE_LANEc_SLICE (laneNext s c j) 0 c
    if bad && others then (spareLaneFails s1 c).modFil (fun f => { f with missed := f.missed.filter (fun i => i / 4 != c) })
    else if bad && was && sliceLane s k = 0 then
      (((s1.set R.SPARE_SLCk_LANE 1 0 k).set R.SPARE_LANEc_PENDING 1 0 c).filEvent 2 c (locSeg k) 0).raise pgSPARE 1
    else s1

/-- WATCHING and OFF follow the spare lane's domain (R534, R469). -/
def laneSync (s : State) : State :=
  s.each (List.range 6) (fun t c =>
    let on := domIsOn t (54 + c)
    if laneState t c = 0 ∧ on = false then t.set R.SPARE_LANEc_STATE 3 0 c
    else if laneState t c = 3 ∧ on = true then (t.set R.SPARE_LANEc_STATE 0 0 c).set R.SPARE_LANEc_SLICE (laneNext t c 3) 0 c
    else if laneState t c = 1 ∧ t.bit R.SPARE_CTRL_LANE_EN = false then
      laneOut (t.set R.SPARE_LANEc_STATE 3 0 c) (4 * c + t.get R.SPARE_LANEc_SLICE 0 c)
    else t)

/-! ## Memories and NOR (R461, R462) -/

/-- A section is to be retired (R462). -/
def sectionRetire (s : State) (sect : Nat) : State :=
  let known := (smFind s.mc.remap sect).isSome || s.mc.migration.any (fun m => m.sect = sect) || decide (sect ∈ s.fil.retire)
  if known || !(s.bit R.SPARE_CTRL_RETIRE_EN) then s
  else if s.get R.SPARE_DRAM_SECT_LEFT = 0 then
    if sect ∈ s.fil.denied then s
    else ((s.modFil (fun f => { f with denied := f.denied ++ [sect] })).filEvent 6 sect 0 0).raise pgSPARE 4
  else
    let left := s.get R.SPARE_DRAM_SECT_LEFT
    let s1 := s.set R.SPARE_DRAM_SECT_LEFT (left - 1)
    match s.mc.migration with
    | none => { s1 with mc := { s1.mc with migration := some { sect := sect, spare := 4 - left, chunk := 0 } } }
    | some _ => s1.modFil (fun f => { f with retire := f.retire ++ [sect] })

/-- The migration of a section has ended: it is retired, and the next one starts (R330, R462). -/
def sectionRetired (s : State) (sect : Nat) : State :=
  let s1 := (s.filEvent 5 sect 0 0).raise pgSPARE 4
  match s1.fil.retire with
  | [] => s1
  | n :: l => { s1.modFil (fun f => { f with retire := l }) with
      mc := { s1.mc with migration := some { sect := n, spare := s1.mc.remap.length, chunk := 0 } } }

def rowAdd (s : State) (row : Nat) : State :=
  s.modFil (fun f => { f with rows := row :: f.rows.filter (fun r => r != row) })

/-- A correctable DRAM error as Filler takes it (R462). -/
def fillerCe (s : State) (addr : Nat) : State :=
  let row := addr / 2048
  let sect := sectionOf addr
  let s1 := if row ∈ s.fil.ceRows then rowAdd s row else s.modFil (fun f => { f with ceRows := row :: f.ceRows })
  let l := s.now :: (smGet [] s.fil.ce sect).filter (fun t => decide (s.now < t + 86400000000000))
  let s2 := s1.modFil (fun f => { f with ce := smPut f.ce sect l })
  if s.get R.SPARE_DRAM_CE_THR < l.length then sectionRetire s2 sect else s2

/-- An uncorrectable one: no row is repaired before the next start-up (R462). -/
def fillerUe (s : State) (addr : Nat) : State := sectionRetire (rowAdd s (addr / 2048)) (sectionOf addr)

/-- Post-package repair after training at start-up, and retirements that a reset broke off (R462, R466). -/
def dramRepair (s : State) : State :=
  let n := min s.fil.rows.length (s.get R.SPARE_DRAM_PPR_LEFT)
  let s1 := ((s.incBy R.SPARE_DRAM_PPR n).set R.SPARE_DRAM_PPR_LEFT (s.get R.SPARE_DRAM_PPR_LEFT - n)).modFil (fun f => { f with
    rows := f.rows.drop n, ceRows := [] })
  let s2 := (s1.set R.SPARE_DRAM_SECT_LEFT (4 - min 4 (s1.mc.remap.length + s1.fil.retire.length))).set R.MC_SECT_RETIRED s1.mc.remap.length
  match s2.fil.retire with
  | [] => s2
  | m :: l => { s2.modFil (fun f => { f with retire := l }) with
      mc := { s2.mc with migration := some { sect := m, spare := s2.mc.remap.length, chunk := 0 } } }

/-- Physical sector of a logical sector of the NOR record region (R462; log 44). -/
def norSector (s : State) (lg : Nat) : Nat := smGet lg s.fil.norMap lg

/-- A sector is remapped to a spare; the caller has checked that one is left (R462). -/
def norRemap (s : State) (lg : Nat) : State :=
  let left := s.get R.SPARE_NOR_SPARES_LEFT
  (((s.set R.SPARE_NOR_SPARES_LEFT (left - 1)).modFil (fun f => { f with norMap := smPut f.norMap lg (1024 + (32 - min 32 left)) })).filEvent
    7 0 0 lg).raise pgSPARE 5

/-- A record slot's sector is erased for a write; a worn sector is remapped (R462, R464). -/
def norErase (s : State) (lg : Nat) : State :=
  let ph := norSector s lg
  let s1 := s.modFil (fun f => { f with wear := { f.wear with nor := smMod 0 f.wear.nor ph (· + 1) } })
  if s.get R.SPARE_NOR_ERASE_MAX ≤ smGet 0 s1.fil.wear.nor ph ∧ s.get R.SPARE_NOR_SPARES_LEFT ≠ 0 then norRemap s1 lg else s1

/-- A record write to NOR ends; one that fails its check is made again in a spare sector while any is left (R436, R462). -/
def recordWritten (s : State) (ok : Bool) : State :=
  match s.cal.stores with
  | [] => s
  | x :: _ =>
    let lg := 2 * calKey x.kind x.slice + storeSlot s x
    let s1 := norErase s lg
    if ok then calStored s1 true
    else if s1.get R.SPARE_NOR_SPARES_LEFT ≠ 0 then calStored (norRemap s1 lg) true
    else calStored s1 false

/-- Filler rewrites a shading word from the slice's block in DRAM (R461). -/
def shadingRewrite (s : State) (k role px : Nat) : State :=
  let key := 12288 * role + px
  let s0 := s.modFil (fun f => { f with shdBad := f.shdBad.filter (fun w => w != (k, key)) })
  let s1 := if s.get64 R.TIMING_SHD_BASE_LO R.TIMING_SHD_BASE_HI = 0 then s0
    else
      let w := leNat (memBytes s.mem (shadeBase s k + 4 * key) 4)
      deadRefresh (s0.modSlice k (fun x => { x with
        shading := if w = shadeUnity then smDel x.shading key else smPut x.shading key w })) k
  (s1.filEvent 4 k (locSeg k) 0).raise pgSPARE 3

/-- Built-in self-test and repair of the SRAM end (R461). -/
def sramRepaired (s : State) (repairs banks failed : Nat) : State :=
  (((s.set R.SPARE_SRAM_REPAIRS repairs).set R.SPARE_SRAM_BANKS banks).modFil (fun f => { f with sramOnce := [], shdBad := [] })).each
    ((maskList failed 24).filter (fun k => decide (k < Variant.slices s.variant))) (fun t k =>
      (((t.set R.SPARE_SLCk_SRAM_FAIL 1 0 k).set R.SPARE_SLCk_LANE 3 0 k).filEvent 10 k (locSeg k) 0).raise pgSPARE 3)

/-! ## Retests (R463) -/

def partCode : FillerPart → Nat
  | .adc k n => 12 * k.val + n.val
  | .gen a => 300 + a.val
  | .lane k => 320 + k.val
  | .sensor i => 350 + i.val

def partPlace : FillerPart → Nat
  | .adc k _ => locSeg k.val
  | .lane k => locSeg k.val
  | _ => 0

/-- The part has failed and is out of service. -/
def partFailed (s : State) : FillerPart → Bool
  | .adc k n => (smFind (smGet [] s.fil.adcOut k.val) n.val).isSome
  | .gen a => (s.axis a.val).genBad
  | .lane k => decide (2 ≤ sliceLane s k.val) && !(s.bit R.SPARE_SLCk_SRAM_FAIL 0 k.val)
  | .sensor i => sensorFailed s i.val

/-- Codes of the parts that have failed. -/
def partsFailed (s : State) : List Nat :=
  ((List.finRange 24).flatMap (fun k => (List.finRange 12).map (FillerPart.adc k)) ++ (List.finRange 6).map FillerPart.gen ++
    (List.finRange 24).map FillerPart.lane ++ (List.finRange 32).map FillerPart.sensor |>.filter (partFailed s)).map partCode

/-- IDLE is entered: Filler retests every failed part that is not retired for good (R463). -/
def retestBegin (s : State) : State :=
  let l := if s.bit R.SPARE_CTRL_RETEST_EN then (partsFailed s).filter (fun c => !(decide (c ∈ s.fil.retired))) else []
  s.modFil (fun f => { f with retest := l })

/-- A mode request arrives: the retests are abandoned, and what has failed stays so until the next IDLE entry (R463). -/
def retestDrop (s : State) : State := s.modFil (fun f => { f with retest := [] })

/-- The balls of a step generator stand still for its retest; no other part asks for anything (R463). -/
def partFree (s : State) : FillerPart → Bool
  | .gen a => (s.axis a.val).move.isNone
  | _ => true

/-- The spare place at which a returning converter joins the rotation: that of the spare which took over its input, else a failed spare's, else one
whose converter stands in for an input, which that input then keeps; place 2 where both spares rotate (R463; log 122). -/
def returnPlace (s : State) (k n : Nat) : Nat :=
  let was := smGet 2 (smGet [] s.fil.adcOut k) n
  if was < 2 then was
  else (([0, 1].find? (fun q => s.bit (spFailRow q) k && s.get (spForRow q) k = 15)).orElse
    (fun _ => [0, 1].find? (fun q => s.get (spForRow q) k != 15))).getD 2

/-- A converter returns to the spare rotation; an input that none took over is then swapped as R106 lays down. Where both spares rotate, it waits at its
own input, which is not assigned (R463; log 122). -/
def adcReturns (s : State) (k n : Nat) : State :=
  let p := returnPlace s k n
  let lost := (List.range 10).filter (fun c => s.get R.AFE_CHc_ADC k c = n && s.get R.AFE_CHc_STATE k c = chLOST)
  let s1 := (s.modFil (fun f => { f with adcOut := smMod [] f.adcOut k (fun l => smDel l n) })).set R.AFE_SPARE_EXHAUSTED 0 k
  if p = 2 then
    s1.each lost (fun t c =>
      zestRestart ((t.set R.AFE_CHc_STATE chOK k c).modChan k c (fun _ => Chan.init)) k c)
  else
    let s2 := ((((adcOutFreed s1 k p).set (spForRow p) 15 k).set (spFailRow p) 0 k).modSlice k (fun x => { x with
      fits := x.fits.filter (fun f => f.1 / 16 != p) })).modSpare k p (fun x => { x with adc := some n })
    visitEnter (s2.each lost (fun t c => t.modChan k c (fun x => { x with swap := 1, adcBad := false }))) k p

/-- What a passed retest brings back (R463). -/
def partReturns (s : State) : FillerPart → State
  | .adc k n => adcReturns s k.val n.val
  | .gen g => (s.modAxis g.val (fun x => { x with genBad := false })).each
      ((List.range 6).filter (fun a => genActive s a = g.val)) (fun t a => t.set R.MOT_AXa_STAT_GEN_FAULT 0 a)
  | .lane k =>
    let s1 := s.set R.SPARE_SLCk_LANE 0 0 k.val
    if sliceLane s k.val = 2 ∧ laneState s (k.val / 4) = 1 then s1.set R.SPARE_LANEc_STATE 0 0 (k.val / 4) else s1
  | .sensor i => (s.set R.MON_T_FAILED (setBit (s.get R.MON_T_FAILED) i.val false)).modHk (fun h => { h with far := smDel h.far i.val })

/-- A retest that goes on ends (R463). -/
def retestDone (s : State) (part : FillerPart) (pass : Bool) : State :=
  if !(decide (partCode part ∈ s.fil.retest)) || !(partFailed s part) || !(partFree s part) then s
  else
    let s0 := s.modFil (fun f => { f with retest := f.retest.filter (· != partCode part) })
    let s1 := (s0.filEvent 9 (b2n pass) (partPlace part) (partCode part)).raise pgSPARE 7
    if pass then partReturns s1 part
    else
      let n := smGet 0 s.fil.fails (partCode part) + 1
      let s2 := s1.modFil (fun f => { f with fails := smPut f.fails (partCode part) n })
      if n < 3 then s2
      else
        let s3 := s2.modFil (fun f => { f with retired := (partCode part) :: f.retired })
        match part with | .adc _ _ => s3.inc R.SPARE_ADC_RETIRED | _ => s3

/-! ## Wear (R464) -/

/-- The LEDs of slice k are on: some setpoint is non-zero. -/
def ledsOn (s : State) (k : Nat) : Bool := (s.slice k).illumAck.any (fun v => v != 0)

def nsPerHour : Nat := 3600000000000

/-- Converter `n` of slice k is powered: it serves an assigned input, or rotates as a spare; a replaced or failed one is powered down, and so is that of an
input not assigned (R88, R103, R106, R110). -/
def adcPowered (s : State) (k n : Nat) : Bool :=
  !(adcIsOut s k n) && ((assignedOf s k).any (fun c => s.get R.AFE_CHc_ADC k c = n) || [0, 1].any (fun p => inRotation s k p && spareAdc s k p = n))

/-- `dt` ns pass for the wear counters of slice k, whose powered ADCs count while its AFE domain is on (R464, R534); its LED counter restarts with another
segment, as its serial number shows once the segment has been read, and reaching the limit warns once. -/
def wearSlice (dt : Nat) (s : State) (k : Nat) : State :=
  let ser := s.get R.SLC_SEG_SERIAL k
  let s0 := if ser = 0 ∨ smGet 0 s.fil.wear.serial k = ser then s else s.modFil (fun f => { f with
    wear := { f.wear with serial := smPut f.wear.serial k ser, led := smDel f.wear.led k, warned := f.wear.warned.filter (fun j => j != k) } })
  let s1 := s0.modFil (fun f => { f with wear := { f.wear with
    adc := if domIsOn s k then
        ((List.range 12).filter (adcPowered s k)).foldl (fun l n => smMod 0 l (12 * k + n) (· + dt)) f.wear.adc else f.wear.adc
    led := if ledsOn s k then smMod 0 f.wear.led k (· + dt) else f.wear.led } })
  let h := smGet 0 s1.fil.wear.led k / nsPerHour
  let thr := 1000 * s.get R.SPARE_LED_WARN_KH
  if thr ≠ 0 ∧ thr ≤ h ∧ k ∉ s1.fil.wear.warned then
    ((s1.modFil (fun f => { f with wear := { f.wear with warned := k :: f.wear.warned } })).filEvent 8 k (locSeg k) h).raise pgSPARE 6
  else s1

/-- Time passes for the wear record. -/
def wearTick (s : State) (dt : Nat) : State :=
  s.each ((List.range 24).filter (fun k => domIsOn s k || (s.slice k).powered)) (wearSlice dt)

/-- The wear record goes to NOR (R464). -/
def wearSave (s : State) : State := s.modFil (fun f => { f with saved := f.wear })

/-- SPARE_WEAR_VAL of the counter selected (R464, R469). -/
def wearValue (s : State) : Nat :=
  let i := s.get R.SPARE_WEAR_IDX % 4096
  let w := s.fil.wear
  let v := match s.get R.SPARE_WEAR_IDX / 4096 with
    | 0 => smGet 0 w.adc i / nsPerHour
    | 1 => smGet 0 w.led i / nsPerHour
    | 2 => smGet 0 w.nor i
    | 3 => w.pm
    | _ => 0
  min v (2 ^ 32 - 1)

end Sys2Proof.Machine
end

