-- ==== Sys2Proof/Machine/Sec.lean ====
section
/-! DEFINITION. Secure boot, identity and attestation (R471 to R495): the image checks, the ROM's choice of image, updating, the fuse
counter, the quote, and the debug unlock. -/
namespace Sys2Proof.Machine
open Sys2Proof

def State.modSec (s : State) (f : Sec → Sec) : State := { s with sec := f s.sec }

/-- `n` bytes of `v`, most significant first (R398). -/
def beBytes (n v : Nat) : List (BitVec 8) := (leBytes n v).reverse

/-- The first `n` bytes of a list, with zeros where it ends. -/
def fixLen (n : Nat) (l : List (BitVec 8)) : List (BitVec 8) := (l ++ List.replicate n 0).take n

/-- Bytes `o` to `o + n − 1`. -/
def slice (b : List (BitVec 8)) (o n : Nat) : List (BitVec 8) := (b.drop o).take n

def zeros (b : List (BitVec 8)) (o n : Nat) : Bool := (slice b o n).all (fun x => x = 0)

/-- SHAKE256, 256-bit output (R471; log 6). -/
def sha (b : List (BitVec 8)) : List (BitVec 8) := shake b

/-! ## Signatures and identity (R471, R472, R484) -/

/-- A use of SLH-DSA: parameter set, sizes of signature and public key, context string (R472). -/
structure SlhUse where
  set : Config.SlhSet
  sigLen : Nat
  keyLen : Nat
  context : String

def useFirmware : SlhUse := { set := .shake192s, sigLen := 16224, keyLen := 48, context := "SQ7260-FW" }
def useDeviceCert : SlhUse := { set := .shake192s, sigLen := 16224, keyLen := 48, context := "SQ7260-DEVCERT" }
def useDebug : SlhUse := { set := .shake192s, sigLen := 16224, keyLen := 48, context := "SQ7260-DEBUG" }
def useQuote : SlhUse := { set := .shake128f, sigLen := 17088, keyLen := 32, context := "SQ7260-QUOTE" }

/-- What FIPS 205 signs in pure mode: a zero byte, the context string after its length, and the message (R472; log 6). -/
def SlhUse.message (u : SlhUse) (m : List (BitVec 8)) : List (BitVec 8) :=
  [0, BitVec.ofNat 8 u.context.length] ++ textBytes u.context ++ m

/-- A signature of the use verifies under a public key (R472). -/
def SlhUse.verifies (u : SlhUse) (key m sig : List (BitVec 8)) : Bool :=
  decide (key.length = u.keyLen) && decide (sig.length = u.sigLen) && Config.verifies u.set key (u.message m) sig

/-- DEVICE_SEED, 48 bytes (R471). -/
def deviceSeed : List (BitVec 8) := fixLen 48 Config.deviceSeed

/-- SK.seed, SK.prf and PK.seed of the identity key, 16 bytes each (R484). -/
def identitySeeds : List (BitVec 8) := shake256 48 (deviceSeed ++ textBytes "SQ7260-DEVID")

/-- The device public key: PK.seed and the root that FIPS 205 key generation gives (R472, R484). -/
def deviceKey : List (BitVec 8) :=
  slice identitySeeds 32 16 ++ fixLen 16 (Config.slhRoot useQuote.set (slice identitySeeds 0 16) (slice identitySeeds 32 16))

/-- DEVICE_ID in OTP: the first 16 bytes of SHAKE256 of the device public key (R471). -/
def deviceId : List (BitVec 8) := (sha deviceKey).take 16

/-- The class 0 events of this chapter (R495). -/
def State.secEvent (s : State) (code slot cause svn : Nat) : State :=
  s.emit 0 0x14 0x01 (leBytes 1 code ++ leBytes 1 slot ++ leBytes 1 cause ++ leBytes 1 0 ++ leBytes 4 svn ++ leBytes 8 s.ts ++ leBytes 16 0)

/-! ## Firmware images (R475, R476) -/

def fwSvn (b : List (BitVec 8)) : Nat := leAt b 0x0C 4
def fwBuild (b : List (BitVec 8)) : Nat := leAt b 0x10 4
def fwLen (b : List (BitVec 8)) : Nat := leAt b 0x14 4

/-- Check 1 (R476; log 121: an image that ends before its payload does fails it as well). -/
def fwFormatOk (b : List (BitVec 8)) : Bool :=
  leAt b 0 4 = 0x53514657 && leAt b 4 2 = 1 && decide (leAt b 6 2 < 2) && decide (leAt b 8 4 < 8) && zeros b 0xA0 96 && zeros b 0x7FC0 64 &&
  decide (1 ≤ fwLen b) && decide (fwLen b ≤ 8355840) && decide (0x8000 + fwLen b ≤ b.length)

def variantBit (v : Variant) : Nat := match v with | .sq7260 => 0 | .sq7244 => 1 | .sq7212 => 2

/-- The cause of the first check that an image fails; 0 where it passes them all (R476). -/
def imageCause (s : State) (b : List (BitVec 8)) : Nat :=
  if !(fwFormatOk b) then 1
  else if !(bitOf (leAt b 8 4) (variantBit s.variant)) then 2
  else if 64 < fwSvn b ∨ fwSvn b < s.get R.SEC_FUSE_CNT then 3
  else if sha (slice b 0x40 48) ≠ fixLen 32 Config.vendorKeyHash then 4
  else if !(useFirmware.verifies (slice b 0x40 48) (slice b 0 256) (slice b 0x100 16224)) then 5
  else match (match s.sec.owner with
      | none => 0
      | some h =>
        if leAt b 6 2 % 2 = 0 ∨ sha (slice b 0x70 48) ≠ h then 6
        else if !(useFirmware.verifies (slice b 0x70 48) (slice b 0 256) (slice b 0x4060 16224)) then 7 else 0) with
    | 0 => if sha (slice b 0x8000 (fwLen b)) ≠ slice b 0x20 32 then 8 else 0
    | c => c

/-- The same of what a slot holds: the image the device left manufacture with is Volavaber's, of SVN 0, with no owner signature (log 45). -/
def slotCause (s : State) : FwSlot → Nat
  | .erased => 1
  | .factory => if 0 < s.get R.SEC_FUSE_CNT then 3 else if s.sec.owner.isSome then 6 else 0
  | .image b => imageCause s b

def Sec.slot (x : Sec) (n : Nat) : FwSlot := if n = 0 then x.slotA else x.slotB
def Sec.withSlot (x : Sec) (n : Nat) (v : FwSlot) : Sec := if n = 0 then { x with slotA := v } else { x with slotB := v }

/-! ## Boot (R474, R477, R478, R482, R491) -/

/-- Copy B of the boot control record is in use: of two valid copies, the one with the later generation (R474). -/
def Sec.useB (x : Sec) : Bool :=
  match x.recA, x.recB with
  | some a, some b => a.gen != b.gen && decide ((b.gen + 2 ^ 32 - a.gen) % 2 ^ 32 < 2 ^ 31)
  | none, some _ => true
  | _, _ => false

/-- The record in use; with no valid copy slot A is active, with no trial (R474; log 121: and the count starts anew). -/
def Sec.bootRec (x : Sec) : BootRec :=
  (if x.useB then x.recB else x.recA).getD { gen := 0, active := 0, trial := none, attempts := 0, count := 0 }

/-- A record is written to the copy not in use (R474). -/
def Sec.putRec (x : Sec) (r : BootRec) : Sec :=
  let g := some { r with gen := (x.bootRec.gen + 1) % 2 ^ 32 }
  if x.useB then { x with recA := g } else { x with recB := g }

/-- A new debug challenge (R491). -/
def newChallenge (s : State) : State :=
  let d := sha (deviceSeed ++ textBytes "SQ7260-DBGCH" ++ leBytes 4 (s.get R.SEC_BOOT_CNT) ++ leBytes 4 s.sec.attempts)
  s.each (List.range 4) (fun t w => t.set R.SEC_DBG_CHALLENGE_w (leAt d (4 * w) 4) 0 w)

/-- The manifest in a slot (R475). -/
def FwSlot.manifest : FwSlot → List (BitVec 8)
  | .image b => slice b 0 256
  | .factory => fixLen 256 Config.factoryManifest
  | .erased => List.replicate 256 0xFF

/-- The SVN of the image in a slot (R475; log 45). -/
def FwSlot.svn : FwSlot → Nat
  | .image b => fwSvn b
  | _ => 0

/-- SVN, build and measurement of the image that runs, and the entry offsets at which CPU0 and CPU1 are released (R475, R477 step 7). -/
def fwLatch (s : State) (x : FwSlot) : State :=
  let m := sha x.manifest
  (((s.set R.SEC_FW_SVN x.svn).set R.SEC_FW_BUILD (fwBuild x.manifest)).each (List.range 8) (fun t w =>
    t.set R.SEC_FW_MEAS_w (leAt m (4 * w) 4) 0 w)).modSec (fun y => { y with entry := some (leAt x.manifest 0x18 4, leAt x.manifest 0x1C 4) })

/-- The boot ROM's choice (R477): true where an image runs, false where the ROM enters recovery (R478). `f` is what NOR cannot give it. -/
def romBoot (s : State) (f : NorFaults) : State × Bool :=
  let x0 : Sec := { s.sec with recA := if f.recA then none else s.sec.recA, recB := if f.recB then none else s.sec.recB }
  let r : BootRec := { x0.bootRec with count := (x0.bootRec.count + 1) % 2 ^ 32 }
  let reverted := r.trial.isSome && decide (2 ≤ r.attempts)
  let r1 : BootRec := match r.trial with
    | none => r
    | some _ => if reverted then { r with trial := none, attempts := 0 } else { r with attempts := r.attempts + 1 }
  let cand := r1.trial.getD r.active
  let cause (t : State) (n : Nat) : Nat := if (if n = 0 then f.slotA else f.slotB) then 9 else slotCause t (t.sec.slot n)
  let s0 := newChallenge ((((s.set R.SEC_BOOT_CNT r.count).modSec (fun _ => { x0.putRec r1 with
    attempts := 0, unlocked := false, quotes := 0, quote := [], staged := false, words := [], len := 0, window := [], entry := none, checkAt := 0 })).each
      (List.range 4) (fun t w => t.set R.SEC_DEVID_w (leAt deviceId (4 * w) 4) 0 w)).setB R.SEC_STAT_OWNER_SET s.sec.owner.isSome)
  let s1 := (s0.setB R.SEC_BOOT_REVERTED reverted).set R.SEC_BOOT_FALLBACK 0
  let c := cause s1 cand
  let runs (t : State) (n : Nat) : State :=
    fwLatch ((t.set R.SEC_BOOT_SLOT n).setB R.SEC_BOOT_TRIAL (r1.trial = some n)) (t.sec.slot n)
  if c = 0 then (runs (s1.set R.SEC_BOOT_FAIL_CAUSE 0) cand, true)
  else
    let s2 := (s1.set R.SEC_BOOT_FAIL_CAUSE c).set R.SEC_BOOT_FALLBACK 1
    if cause s2 (1 - cand) = 0 then (runs s2 (1 - cand), true)
    else ((s2.set R.SEC_BOOT_SLOT 3).set R.SEC_BOOT_TRIAL 0, false)

/-- Device firmware starts: its identity key (R484), the certificate's copies, of which an invalid one is rewritten from the valid one, and neither
accepted where the key is not the device's (R485), and the pairing record (R492). -/
def firmwareStart (s : State) (f : NorFaults) : State :=
  let a := s.sec.certA && !f.certA
  let b := s.sec.certB && !f.certB
  let s1 := (s.setB R.SEC_STAT_ID_FAIL f.ident).modSec (fun x => { x with certA := a || (b && !f.ident), certB := b || (a && !f.ident) })
  let s2 := s1.setB R.SEC_STAT_CERT_MISSING (f.ident || !(a || b))
  if f.pair then
    ((s2.set R.TYREX_CTRL_LOCKED 0).each (List.range 8) (fun t j => t.set R.TYREX_PAIR_KEYj 0 0 j)).set R.SEC_STAT_PAIR_LOST 1
  else s2

/-- The events of the boot's marks, once Hod can take them (R477). -/
def bootMarks (s : State) : State :=
  let slot := s.get R.SEC_BOOT_SLOT
  let s1 := if s.bit R.SEC_BOOT_FALLBACK then s.secEvent 1 slot (s.get R.SEC_BOOT_FAIL_CAUSE) (s.get R.SEC_FW_SVN) else s
  if s.bit R.SEC_BOOT_REVERTED then s1.secEvent 2 slot 0 (s.get R.SEC_FW_SVN) else s1

/-- Fuses are blown one at a time until F equals an SVN, of which `good` blow before one fails twice (R482). -/
def fusesAdvance (s : State) (svn good : Nat) : State :=
  let f := s.get R.SEC_FUSE_CNT
  let need := min 64 svn - f
  let s1 := s.set R.SEC_FUSE_CNT (f + min need good)
  if good < need then ((s1.set R.SEC_STAT_FUSE_FAIL 1).secEvent 5 (s.get R.SEC_BOOT_SLOT) 0 (f + good)).raise pgSEC 4 else s1

/-- The same where no command says how many fuses blow: a free value (corner 33 of log 8; log 46). -/
def fusesTry (s : State) (svn : Nat) : State :=
  if svn ≤ s.get R.SEC_FUSE_CNT then s else let d := s.draw; fusesAdvance d.2 svn (Config.unstated 33 d.1).toNat

/-- The trial image is confirmed, once its boot has reached IDLE; `good`: the fuses that blow before one fails, where the command says it (R480,
R482). -/
def updConfirm (s : State) (good : Option Nat) : State :=
  if !(s.bit R.SEC_BOOT_TRIAL) || s.pwr.boot != .done then s
  else
    let n := s.get R.SEC_BOOT_SLOT
    let s1 := (s.set R.SEC_BOOT_TRIAL 0).modSec (fun x => x.putRec { x.bootRec with active := n, trial := none, attempts := 0 })
    match good with
    | some g => fusesAdvance s1 (s.get R.SEC_FW_SVN) g
    | none => fusesTry s1 (s.get R.SEC_FW_SVN)

/-- At IDLE: automatic confirmation (R480). -/
def secIdle (s : State) : State := if s.bit R.SEC_CTRL_AUTO_CONFIRM then updConfirm s none else s

/-- Start-up with the active image's SVN above F resumes an advance that stopped, in a trial boot too; where the active image itself failed its checks,
its SVN is not to be trusted (R482; log 121). -/
def fusesResume (s : State) : State :=
  let a := s.sec.bootRec.active
  if s.bit R.SEC_BOOT_FALLBACK && s.get R.SEC_BOOT_SLOT != a then s else fusesTry s (s.sec.slot a).svn

/-! ## Updating (R479 to R481) -/

def updIDLE := 0
def updRECEIVING := 1
def updVERIFYING := 2
def updPROGRAMMING := 3
def updSTAGED := 4
def updREJECTED := 5

/-- What SEC_UPD_STAT reads when no transfer or check is in progress (R481). -/
def updRest (s : State) : State :=
  (s.set R.SEC_UPD_STAT (if s.sec.staged then updSTAGED else updIDLE)).modSec (fun x => { x with words := [] })

/-- The slot an update is for: the one not running; in recovery slot A (R478, R479). -/
def updTarget (s : State) : Nat := if s.get R.SEC_BOOT_SLOT = 0 then 1 else 0

/-- BEGIN (R479, R481; log 121: a length outside the range is no BEGIN). -/
def updBegin (s : State) : State :=
  let n := s.get R.SEC_UPD_LEN
  if n < 32769 ∨ 8388608 < n then s
  else (((s.set R.SEC_UPD_STAT updRECEIVING).set R.SEC_UPD_RCVD 0).set R.SEC_UPD_TARGET (updTarget s)).modSec (fun x => { x with
    words := [], len := n })

def updData (s : State) (v : Nat) : State :=
  if s.get R.SEC_UPD_STAT ≠ updRECEIVING then s
  else if s.sec.len ≤ s.get R.SEC_UPD_RCVD then s.err pgSEC 0xA10
  else (s.set R.SEC_UPD_RCVD (min s.sec.len (s.get R.SEC_UPD_RCVD + 4))).modSec (fun x => { x with words := v :: x.words })

def updFinish (s : State) : State :=
  if s.get R.SEC_UPD_STAT = updRECEIVING ∧ s.get R.SEC_UPD_RCVD = s.sec.len then
    let d := s.draw
    (d.2.set R.SEC_UPD_STAT updVERIFYING).modSec (fun x => { x with checkAt := s.now + (Config.unstated 32 d.1).toNat })
  else s.err pgSEC 0xA11

def updImage (s : State) : List (BitVec 8) := (s.sec.words.reverse.flatMap (leBytes 4)).take s.sec.len

/-- The received image has passed its checks and is being programmed, once the time that they take has passed (a free value, corner 32 of log 8): the slot
holds no whole image until it is over, should power be lost (R479, R481; log 121). -/
def updTick (s : State) : State :=
  if s.get R.SEC_UPD_STAT ≠ updVERIFYING ∨ s.now < s.sec.checkAt then s
  else if imageCause s (updImage s) ≠ 0 then s
  else (s.set R.SEC_UPD_STAT updPROGRAMMING).modSec (fun x => { (x.withSlot (s.get R.SEC_UPD_TARGET) .erased) with staged := false })

/-- What a step does with no command waiting: a nanosecond passes (log 1). -/
def idleTick (s : State) : State := updTick (lldpSend (wearTick (clockTick s) 1))

/-- The checks, the programming and the check after it have ended (R478, R479). The answer says whether the ROM resets. -/
def updChecked (s : State) (norError : Bool) : State × Bool :=
  if s.get R.SEC_UPD_STAT ≠ updVERIFYING ∧ s.get R.SEC_UPD_STAT ≠ updPROGRAMMING then (s, false)
  else
    let b := updImage s
    let c := if norError then 9 else imageCause s b
    let n := s.get R.SEC_UPD_TARGET
    let recovery := s.get R.SEC_BOOT_SLOT = 3
    if c ≠ 0 then
      ((((((s.set R.SEC_UPD_STAT updREJECTED).set R.SEC_UPD_CAUSE c).err pgSEC (0xA00 + c)).modSec (fun x => { x with words := [] })).secEvent
        4 n c (fwSvn b)).raise pgSEC 0, false)
    else
      let s1 := s.modSec (fun x => { (x.withSlot n (.image b)) with words := [], staged := true })
      if recovery then
        (s1.modSec (fun x => { x.putRec { x.bootRec with active := 0, trial := none, attempts := 0 } with staged := false }), true)
      else (((s1.set R.SEC_UPD_STAT updSTAGED).secEvent 3 n 0 (fwSvn b)).raise pgSEC 0, false)

def updAbort (s : State) : State :=
  if s.get R.SEC_UPD_STAT = updRECEIVING ∨ s.get R.SEC_UPD_STAT = updVERIFYING then updRest s else s

/-- The Tyrex session ends (R481). -/
def updSessionEnd (s : State) : State := if s.get R.SEC_UPD_STAT = updRECEIVING then updRest s else s

/-- ACTIVATE: the staged slot becomes the trial slot; the answer says whether the reset follows (R480, R481). -/
def updActivate (s : State) : State × Bool :=
  if s.mode != .idle || s.get R.SEC_UPD_STAT ≠ updSTAGED then (s.err pgSEC 0xA12, false)
  else (s.modSec (fun x => x.putRec { x.bootRec with trial := some (s.get R.SEC_UPD_TARGET), attempts := 0 }), true)

/-! ## The SEC window, the owner's key and the debug unlock (R483, R489 to R493) -/

/-- The device certificate (R485). -/
def certBytes (s : State) : List (BitVec 8) :=
  leBytes 4 0x43455254 ++ leBytes 2 1 ++ leBytes 2 0 ++
  leBytes 4 (leNat (leBytes 4 (variantWord s))) ++ leBytes 4 0 ++ deviceId ++ deviceKey ++
  leBytes 4 (s.get R.LINK_MAC_LO) ++ leBytes 2 (s.get R.LINK_MAC_HI) ++ leBytes 2 0 ++ leBytes 8 Config.madeAt.toNat ++
  fixLen 16 Config.issuer ++ leBytes 160 0 ++ fixLen 16224 Config.caSignature
where
  /-- The SYS_VARIANT word (R6). -/
  variantWord (s : State) : Nat :=
    s.get R.SYS_VARIANT_PART * 65536 + s.get R.SYS_VARIANT_SLICES * 2048 + s.get R.SYS_VARIANT_CLUSTERS * 256 +
    s.get R.SYS_VARIANT_AXES * 32 + s.get R.SYS_VARIANT_SPARE_GEN * 8 + s.get R.SYS_VARIANT_TRK * 4 + s.get R.SYS_VARIANT_INS * 2 +
    s.get R.SYS_VARIANT_LINK10G

/-- A word of the SEC window as it reads (R493); of a certificate that is missing it has no stated value (corner 31 of log 8). -/
def secWindow (s : State) (w : Nat) : Nat :=
  let o := 1024 * s.get R.SEC_WIN_OFS + 4 * w
  match s.get R.SEC_WIN_SEL with
  | 0 => leAt s.sec.quote o 4
  | 1 => if s.sec.certA || s.sec.certB then leAt (certBytes s) o 4 else (Config.unstated 31 o).toNat
  | _ => 0

/-- A word written to the debug certificate window, which holds 32 KiB (R493). -/
def secWindowWrite (s : State) (w v : Nat) : State :=
  let i := 256 * s.get R.SEC_WIN_OFS + w
  if s.get R.SEC_WIN_SEL ≠ 2 ∨ 8192 ≤ i then s else s.modSec (fun x => { x with window := smPut x.window i v })

/-- Bytes `o` to `o + n − 1` of the debug certificate, `o` and `n` multiples of 4. -/
def certAt (s : State) (o n : Nat) : List (BitVec 8) :=
  (List.range (n / 4)).flatMap (fun i => leBytes 4 (smGet 0 s.sec.window (o / 4 + i)))

/-- The owner's key hash is programmed (R483). -/
def ownerProvision (s : State) : State :=
  if s.sec.owner.isSome || !(bitOf (s.get R.SEC_DBG_STAT_PERM) 2) then s
  else ((s.modSec (fun x => { x with owner := some (sha (certAt s 0 48)) })).set R.SEC_STAT_OWNER_SET 1).secEvent 8 (s.get R.SEC_BOOT_SLOT) 0
    (s.get R.SEC_FW_SVN)

/-- The cause of the first check that the debug certificate fails, 0 where it passes (R490). -/
def dbgCause (s : State) : Nat :=
  let b := certAt s 0 0x100
  if !(leAt b 0 4 = 0x44424743 && leAt b 4 2 = 1 && decide (leAt b 6 2 < 2) && decide (leAt b 0x28 4 < 8) && zeros b 0x2C 4 && zeros b 0x90 112) then 1
  else if slice b 8 16 ≠ deviceId then 2
  else if slice b 0x18 16 ≠ (List.range 4).flatMap (fun w => leBytes 4 (s.get R.SEC_DBG_CHALLENGE_w 0 w)) then 3
  else if sha (slice b 0x30 48) ≠ fixLen 32 Config.vendorKeyHash ||
      !(useDebug.verifies (slice b 0x30 48) b (certAt s 0x100 16224)) then 4
  else match s.sec.owner with
    | none => 0
    | some h =>
      if leAt b 6 2 % 2 = 0 || sha (slice b 0x60 48) ≠ h || !(useDebug.verifies (slice b 0x60 48) b (certAt s 0x4060 16224)) then 5 else 0

/-- UNLOCK (R490, R491). -/
def debugUnlock (s : State) : State :=
  let c := dbgCause s
  let perm := leAt (certAt s 0x28 4) 0 4
  let slot := s.get R.SEC_BOOT_SLOT
  let s1 :=
    if c = 0 then
      (((((s.set R.SEC_DBG_STAT_UNLOCKED 1).set R.SEC_DBG_STAT_PERM perm).inc R.SEC_DBG_UNLOCK_CNT).modSec (fun x => { x with
        unlocked := true })).secEvent 6 slot perm (s.get R.SEC_FW_SVN)).raise pgSEC 2
    else ((s.set R.SEC_DBG_STAT_CAUSE c).secEvent 7 slot c (s.get R.SEC_FW_SVN)).raise pgSEC 3
  domSync (newChallenge (s1.modSec (fun x => { x with attempts := x.attempts + 1 })))

/-- RELOCK (R489). -/
def debugRelock (s : State) : State := domSync ((s.set R.SEC_DBG_STAT_UNLOCKED 0).set R.SEC_DBG_STAT_PERM 0)

/-! ## Attestation (R486 to R488) -/

/-- Content of type 0x02: the 24 cached segment entries (R487). -/
def segContent (s : State) : List (BitVec 8) :=
  (List.range 24).flatMap (fun k => match (s.slice k).entry with | some e => fixLen 256 e | none => List.replicate 256 0)

/-- Content of type 0x01: the live pattern book bank (R487). -/
def bankContent (s : State) : List (BitVec 8) :=
  let row := if s.bit R.TIMING_PB_STAT_ACTIVE then R.TIMING_PB_BANK1 else R.TIMING_PB_BANK0
  (List.range 128).flatMap (fun i => leBytes 4 (s.get row 0 i))

/-- The digest of the image of ramp table i in force (R487): a load that a move held back has the later one at 0x400 + i. -/
def rampDigest (s : State) (i : Nat) : List (BitVec 8) :=
  match smFind s.sec.digests (0x400 + i) with
  | some d => if (smFind s.rol.held i).isSome then smGet [] s.sec.digests (0x300 + i) else d
  | none => smGet [] s.sec.digests (0x300 + i)

/-- The digest of a table type (R487). -/
def tableDigest (s : State) (t : Nat) : List (BitVec 8) :=
  let z : List (BitVec 8) := List.replicate 32 0
  if t = 1 then sha (bankContent s)
  else if t = 2 then if (List.range 24).all (fun k => (s.slice k).entry.isNone) then z else sha (segContent s)
  else if t = 3 then
    if s.rol.ramps = [] then z else sha ((List.range 64).flatMap (fun i => fixLen 32 (rampDigest s i)))
  else fixLen 32 (smGet z s.sec.digests t)

/-- The body of a quote (R486). -/
def quoteBody (s : State) (id : Nat) (nonce : List (BitVec 8)) : List (BitVec 8) :=
  beBytes 4 0x51554F54 ++ beBytes 2 1 ++ beBytes 2 480 ++ beBytes 4 id ++ beBytes 4 (certBytes.variantWord s) ++ deviceId ++ fixLen 32 nonce ++
  beBytes 8 s.ts ++ (List.range 8).flatMap (fun w => leBytes 4 (s.get R.SEC_FW_MEAS_w 0 w)) ++
  beBytes 1 (s.get R.SEC_BOOT_SLOT % 2 + 2 * s.get R.SEC_BOOT_TRIAL + 4 * s.get R.SEC_BOOT_REVERTED + 8 * s.get R.SEC_BOOT_FALLBACK +
    16 * b2n s.sec.owner.isSome + 32 * b2n s.sec.unlocked) ++
  beBytes 1 (s.get R.SYS_MODE_CUR) ++ beBytes 2 0 ++ beBytes 4 (s.get R.SEC_FW_SVN) ++ beBytes 4 (s.get R.SEC_FUSE_CNT) ++
  beBytes 4 (s.get R.SEC_BOOT_CNT) ++ beBytes 2 (s.get R.TYREX_EPOCH) ++ beBytes 2 0 ++ beBytes 4 (s.get R.CAL_COUNT) ++
  (List.range 8).flatMap (fun w => leBytes 4 (s.get R.CAL_DIGEST_w 0 w)) ++
  ((List.range 8).map (· + 1)).flatMap (tableDigest s) ++ fixLen 32 (s.sec.owner.getD []) ++ beBytes 4 (s.get R.SEC_DBG_UNLOCK_CNT) ++
  beBytes 4 Config.romVersion.toNat ++ leBytes 24 0

/-- The signature of a quote, under the identity key (R472, R486). -/
def quoteSignature (body : List (BitVec 8)) : List (BitVec 8) :=
  fixLen useQuote.sigLen (Config.signature useQuote.set identitySeeds (useQuote.message body))

/-- A body with its signature becomes the quote held (R486, R488). -/
def quoteSign (s : State) (body : List (BitVec 8)) : State :=
  let sg := quoteSignature body
  (s.modSec (fun x => { x with quote := body ++ sg })).raise pgSEC 1

/-! ## The pairing record (R492) -/

/-- The pairing key XORed with KMAC256 of the wrapping key, as the record holds it (R492; log 73: over no message). -/
def pairWrapped (s : State) : List (BitVec 8) :=
  let key := (List.range 8).flatMap (fun j => leBytes 4 (s.get R.TYREX_PAIR_KEYj 0 j))
  (key.zip (kmac256 ((sha (deviceSeed ++ textBytes "SQ7260-WRAP")).take 32) "TYREX-PAIR" 32 [])).map (fun x => x.1 ^^^ x.2)

/-- A management-port write of the key or of TYREX_CTRL_LOCKED commits a new record, of kind 0x20 and slice 0xFF, to the slot of the record region that does
not hold the newest one (R435, R436, R492; log 73). -/
def pairStore (s : State) : State :=
  let locked := match smFind s.shadow (Row.code R.TYREX_CTRL_LOCKED 0 0) with | some x => x.value | none => s.get R.TYREX_CTRL_LOCKED
  let key := calKey 0x20 0xFF
  let b := recBuild s 0x20 0xFF s.ts 0 0 0 (s.get R.CAL_COUNT) (pairWrapped s ++ leBytes 4 locked)
  let slot := match recInUse s key with | some (_, i) => 1 - i | none => 0
  s.modCal (fun c => { c with nor := smPut c.nor (2 * key + slot) b })

end Sys2Proof.Machine
end

