-- ==== Sys2Proof/Machine/Power.lean ====
section
/-! DEFINITION. Rails, full resets, clocks, clock crossings, the switching of domains as it completes, and the processor watchdogs
(R530 to R555). -/
namespace Sys2Proof.Machine
open Sys2Proof

def State.modPwr (s : State) (f : Power → Power) : State := { s with pwr := f s.pwr }

/-! ## Full reset (R531, R532, R543) -/

/-- The rows whose fields a reset leaves (R412, R492, R504, R582), and of these the ones the always-on domain holds (R532). -/
def keptRow (r : Row) : Bool := r.kept || r = R.TYREX_PAIR_KEYj

def keptRows : List Row := (pageTable.flatMap (fun l => l.rows)).filter keptRow

/-- The pairing record has been written to NOR, so what TYREX_CTRL_LOCKED waits for comes with a reset too (R412, R492). -/
def lockedNow (s : State) : State :=
  match smFind s.shadow (Row.code R.TYREX_CTRL_LOCKED 0 0) with
  | some x => (s.set R.TYREX_CTRL_LOCKED x.value).unshadow R.TYREX_CTRL_LOCKED
  | none => s

def aonRow (r : Row) : Bool := decide (r.page ∈ [pgCLK, pgRST, pgAXIS 0]) || r = R.TYREX_EPOCH

/-- What the kept fields of some rows hold, as register contents. -/
def keptRegs (s : State) (rows : List Row) : List (Nat × Nat) :=
  rows.foldl (fun m r => (List.range r.pages).foldl (fun m p => (List.range r.count).foldl (fun m i =>
    match smFind s.regs (Row.code r p i) with
    | some v => smPut m (Row.code r p i) v
    | none => m) m) m) []

/-- The always-on domain loses its content (R532). -/
def aonLose (s : State) : State :=
  (s.each (keptRows.filter aonRow) (fun t r => t.each (List.range r.pages) (fun u p => u.unset r p))).modPwr (fun x => { x with
    aonLost := true, xtal := false })

/-- Levels of the limit pins, with no sequence open. -/
def limPins (l : List (Nat × LimIn)) : List (Nat × LimIn) := l.map (fun x => (x.1, { x.2 with latch := none }))

/-- The state a full reset leaves, before its own marks: reset values but for what the always-on domain, OTP, NOR, the pins and the
power-interface die hold. DRAM loses its content (R531). -/
def fullResetCore (s : State) : State :=
  let t : State := { State.reset with
    pending := s.pending, variant := s.variant, now := s.now, draws := s.draws, tx := s.tx
    regs := keptRegs (lockedNow s) keptRows
    pd := s.pd
    sec := { s.sec with digests := [] }
    cal := { State.reset.cal with nor := s.cal.nor }
    fil := { State.reset.fil with
      fails := s.fil.fails, retired := s.fil.retired, norMap := s.fil.norMap, rows := s.fil.rows, sramList := s.fil.sramList, wear := s.fil.saved, saved := s.fil.saved
      retire := (match s.mc.migration with | some m => [m.sect] | none => []) ++ s.fil.retire }
    mc := { State.reset.mc with remap := s.mc.remap }
    rol := { State.reset.rol with
      lims := limPins s.rol.lims, encLev := s.rol.encLev, psRaw := s.rol.psRaw, psQual := s.rol.psQual
      axes := s.rol.axes.map (fun x => (x.1, { Axis.init with flt := x.2.flt, aonLow := x.2.aonLow })) }
    plumb := { State.reset.plumb with dfRaw := s.plumb.dfRaw, dfQual := s.plumb.dfQual }
    pwr := { s.pwr with boot := .held, cooling := false, pixBad := 0, xings := [], xingAt := none, cpu0 := none } }
  -- the index follows the position kept and the cycle's reset value (R240)
  t.each ((List.range 6).filter (fun a => axPos t a != 0)) idxShow

/-- Three full resets with cause DOMAIN within 60 s hold the block in reset (R536). -/
def domHeld (s : State) : Bool :=
  decide (3 ≤ s.pwr.domResets.length) && (match s.pwr.domResets with
    | a :: l => decide (a ≤ (l.getD 1 0) + 60000000000)
    | [] => false)

/-- A full reset with a cause of R543. One that holds already goes on (log 47). -/
def fullReset (s : State) (cause : Nat) : State :=
  if s.pwr.boot = .held ∧ !(domHeld s) then s
  else
    let t := s.ts
    let lost := s.get R.CLK_LOST % 4
    let s1 := limRefresh (fullResetCore s)
    let s2 := ((s1.set R.RST_CAUSE cause).inc R.RST_FULL_CNT).set64 R.RST_LAST_TIME_LO R.RST_LAST_TIME_HI t
    let s3 := if cause = 5 then s2.set R.CLK_LOST lost else s2
    s3.modPwr (fun x => { x with
      cooling := cause = 3, domResets := if cause = 7 then s.now :: x.domResets.take 2 else [] })

/-- PWR_RAIL_GOOD and CLK_AON_XTAL show what they report, outside a full reset (R582). -/
def railsShow (s : State) : State :=
  if s.pwr.boot = .held then s else (s.set R.PWR_RAIL_GOOD s.pwr.rails).setB R.CLK_AON_XTAL s.pwr.xtal

/-- The reset releases once nothing holds it: the clocks start (R530, R543, R546). -/
def resetRelease (s : State) : State :=
  if s.pwr.boot = .held ∧ !s.pwr.rstL ∧ s.pwr.rails = 0xFFF ∧ !s.pwr.cooling ∧ !(domHeld s) then
    railsShow (s.modPwr (fun x => { x with boot := .clocks }))
  else s

/-- RAILS_GOOD (R530). -/
def railsGood (s : State) : State := resetRelease (railsShow (s.modPwr (fun x => { x with rails := 0xFFF })))

/-- RAIL_FAIL (R530, R532). -/
def railFail (s : State) (rail : Nat) : State :=
  let s1 := fullReset (s.modPwr (fun x => { x with rails := setBit x.rails rail false })) 1
  if rail = 11 then aonLose s1 else s1

/-- RST_L_ASSERT (R546, R550). -/
def rstLow (s : State) : State := (fullReset s 2).modPwr (fun x => { x with rstL := true })

/-- RST_L_RELEASE (R546). -/
def rstHigh (s : State) : State := resetRelease (s.modPwr (fun x => { x with rstL := false }))

/-! ## Clocks (R537, R538) -/

/-- The PLLs the variant has: the five of the core, and one a cluster. -/
def pllMask (s : State) : Nat := 2 ^ (5 + Variant.clusters s.variant) - 1

def pllLocked (s : State) (p : Nat) : Bool := bitOf (s.get R.CLK_LOCKED) p

/-- The pixel PLLs of the variant that are not locked, as a mask of clusters. -/
def pixUnlocked (s : State) : Nat :=
  sumN ((List.range (Variant.clusters s.variant)).map (fun c => if pllLocked s (5 + c) then 0 else 2 ^ c))

/-- A change of TIMING_PCLK_KHZ is being locked to: no capture line runs (R538). -/
def relocking (s : State) : Bool := s.get R.CLK_PIX_KHZ != s.get R.TIMING_PCLK_KHZ

/-- At IDLE, a new pixel frequency relocks every pixel PLL (R538). -/
def pixRelock (s : State) : State := if relocking s then s.set R.CLK_LOCKED (s.get R.CLK_LOCKED % 32) else s

/-- The motion clock is lost: every moving axis counts as halted (R537, R550). A loss of lock is no happening of R303: a capture
job's state stays as it is, its FEED at rest (log 125). -/
def motionLost (s : State) : State :=
  let stop (t : State) (a : Nat) : State :=
    if homing t a then homeFault t a 3 0xFF
    else if (movingNeg t a).isSome then haltAxis t a
    else t
  let s1 := s.each (List.range 6) stop
  if s1.rol.run.isSome then advAbort s1 true else s1

/-- PLL_LOCK_LOSS (R537). -/
def pllLost (s : State) (p : Nat) : State :=
  if !(pllLocked s p) then s
  else
    let s1 := (((s.set R.CLK_LOCKED (setBit (s.get R.CLK_LOCKED) p false)).set R.CLK_LOST (setBit (s.get R.CLK_LOST) p true)).raise pgCLK
      0).pwrEvent 3 p 0 s.ts
    if p ≤ 1 then fullReset s1 5
    else if p = 2 then linkGoesDown s1
    else if p = 3 then motionLost s1
    else if p = 4 then (s1.set R.CLK_PTP_FALLBACK 1).raise pgCLK 2
    else s1.modPwr (fun x => { x with pixBad := setBit x.pixBad (p - 5) true })

/-- The retention check of start-up (R264, R532, R553). -/
def retentionCheck (s : State) : State :=
  if s.pwr.aonLost then
    let s1 := ((s.set R.RST_CAUSE 1).set R.RST_CAUSE_AON_LOST 1).set R.MOT_AON_RETAIN_VALID 0
    let s2 := s1.each ((List.range 6).filter (Variant.hasAxis s.variant)) (fun t a =>
      ((setPos t a 0).set R.MOT_AXa_STAT_PHASE_LOST 1 a).set R.MOT_AXa_STAT_HOMED 0 a)
    (rollerEvent s2 0xFF 3 0 0xFF).modPwr (fun x => { x with aonLost := false })
  else (s.set R.RST_CAUSE_AON_LOST 0).set R.MOT_AON_RETAIN_VALID 1

/-- Every PLL has locked: the ROM runs, and the image it chose switches the fixed domains on (R477, R547 steps 6 and 7). -/
def romRuns (s : State) (f : NorFaults) : State :=
  let b := romBoot s f
  if b.2 then (retentionCheck (laneSync (domSync { firmwareStart b.1 f with domStart := true }))).modPwr (fun x => { x with boot := .repair })
  else domSync (b.1.modPwr (fun x => { x with boot := .recovery }))

/-- PLL_LOCKED (R537, R538, R547); `f` is what the ROM then finds in NOR. -/
def pllLocks (s : State) (p : Nat) (f : NorFaults) : State :=
  if s.pwr.boot = .held ∨ !(bitOf (pllMask s) p) then s
  else
    let s1 := s.set R.CLK_LOCKED (setBit (s.get R.CLK_LOCKED) p true)
    let s2 := if pixUnlocked s1 = 0 then s1.set R.CLK_PIX_KHZ (s1.get R.TIMING_PCLK_KHZ) else s1
    if s2.pwr.boot = .clocks ∧ s2.get R.CLK_LOCKED = pllMask s then romRuns s2 f else s2

/-- AON_CRYSTAL_STABLE (R537). -/
def crystalStable (s : State) : State := if s.bit R.CLK_AON_SRC then s else railsShow (s.modPwr (fun x => { x with xtal := true }))

/-- CLK_AON_SRC = 1 comes into force (R537). -/
def aonSource (s : State) : State := if s.bit R.CLK_AON_SRC then railsShow (s.modPwr (fun x => { x with xtal := false })) else s

/-! ## Domains (R535, R536) -/

/-- DOMAIN_POWER_GOOD. -/
def domGood (s : State) (d : Nat) : State :=
  if d ∈ s.domWait then laneSync (domSet { s with domWait := s.domWait.filter (· != d) } d true) else s

/-- DOMAIN_FAULT: the domain is switched off, and its consequence follows. -/
def domFault (s : State) (d : Nat) : State :=
  if !(decide (d ∈ s.domWait)) then s
  else
    let s1 := ({ s with domWait := s.domWait.filter (· != d), domFailed := s.domFailed ++ [d] }).inc R.PWR_DOM_SWITCH_CNT
    let s2 := ((s1.set R.PWR_DOM_FAULT_w (setBit (s1.get R.PWR_DOM_FAULT_w 0 (d / 32)) (d % 32) true) 0 (d / 32)).raise pgPWR 0).pwrEvent 2 d 0 s.ts
    if d < 48 then laneOut s2 (d % 24)
    else if d < 54 then s2
    else if d < 60 then spareLaneFails s2 (d - 54)
    else if d < 67 then s2.err pgSYS 0x2E d
    else if d < 79 then fullReset s2 7
    else s2

/-- A domain that a mode needs and whose last switching-on failed (R536). -/
def faultedFor (s : State) (ds : List Nat) : Option Nat :=
  ds.find? (fun d => bitOf (s.get R.PWR_DOM_FAULT_w 0 (d / 32)) (d % 32))

/-! ## Crossings (R542, R545) -/

/-- The clock of a code runs. -/
def clockRuns (s : State) (code : Nat) : Bool :=
  if code < 4 then pllLocked s code
  else if code = 4 then pllLocked s 4 || s.bit R.CLK_PTP_FALLBACK
  else if code < 8 then true
  else pllLocked s (code - 3)

/-- XING_EVENT: an event arrives at a crossing, in the request phase of a transfer in progress or in its acknowledge phase. -/
def xingEvent (s : State) (src dst : Nat) (ackPhase : Bool) : State :=
  let id := src * 16 + dst
  if src = dst then s
  else match smFind s.pwr.xings id with
    | none => s.modPwr (fun x => { x with xings := smPut x.xings id false })
    | some pend =>
      if !pend && !ackPhase then s.modPwr (fun x => { x with xings := smPut x.xings id true })
      else
        let s1 := (((s.set R.CLK_XING_OVR 1).inc R.CLK_XING_OVR_CNT).set R.CLK_XING_OVR_ID id).raise pgCLK 1
        let free := match s.pwr.xingAt with | none => true | some t => decide (t + 1000000000 ≤ s.now)
        if free then (s1.pwrEvent 4 id (s1.get R.CLK_XING_OVR_CNT) s.ts).modPwr (fun x => { x with xingAt := some s.now }) else s1

/-- XING_TRANSFER_DONE: the round trip completes, which takes both clocks. -/
def xingDone (s : State) (src dst : Nat) : State :=
  let id := src * 16 + dst
  if !(clockRuns s src) || !(clockRuns s dst) then s
  else match smFind s.pwr.xings id with
    | none => s
    | some pend => s.modPwr (fun x => { x with xings := if pend then smPut x.xings id false else smDel x.xings id })

/-! ## Processor watchdogs (R28, R514, R543) -/

/-- CPU_WATCHDOG. A table under its checks when CPU0 fails is dropped (R28). How long CPU0 takes to come back is a free value (corner 29 of
log 8). -/
def cpuWatchdog (s : State) (cpu : Nat) : State :=
  let s1 := (s.inc (if cpu = 0 then R.RST_WDOG_CPU0_CNT else R.RST_WDOG_CPU1_CNT)).raise pgRST 0
  let s2 := lockBreak (s1.pwrEvent 7 cpu 0 s.ts) (2 + cpu)
  if cpu = 0 then
    let d := s2.draw
    let t := if s2.tyrex.image.isSome then d.2.set R.TYREX_TABLE_STAT (b2n s2.tyrex.load.isSome) else d.2
    { t with
      tyrex := { t.tyrex with image := none }
      pwr := { t.pwr with cpu0 := some (s.now + (Config.unstated 29 d.1).toNat) } }
  else s2

/-- CPU0 is being reset by its watchdog (R28). -/
def cpu0Down (s : State) : Bool := match s.pwr.cpu0 with | some t => decide (s.now < t) | none => false

/-! ## Start-up (R544, R547) -/

/-- Training has completed at start-up: the RESET event and the boot's marks can be committed (R547 step 8), with T_TRIP after a
thermal trip (R445, R555). -/
def trainedMarks (s : State) : State :=
  let s1 := bootMarks ((dramRepair (calCounts s)).pwrEvent 1 (s.get R.RST_CAUSE) (s.get R.RST_FULL_CNT) (s.get64 R.RST_LAST_TIME_LO R.RST_LAST_TIME_HI))
  match s1.pwr.trip with
  | some (i, v) => (s1.monEvent 8 i 0 (toTwos 32 v)).modPwr (fun x => { x with trip := none })
  | none => s1

/-- SRAM_REPAIR_DONE in its place of start-up (R461, R547 step 7). -/
def repairOver (s : State) (repairs banks failed : Nat) : State :=
  let s1 := sramRepaired s repairs banks failed
  if s1.pwr.boot = .repair then s1.modPwr (fun x => { x with boot := .train }) else s1

/-! ## Pins (R544) -/

/-- The balls are released once start-up has reached IDLE. -/
def pinsLive (s : State) : Bool := s.pwr.boot = .done

/-- SEG_EN of segment k is driven high. -/
def pinSegEn (s : State) (k : Nat) : Bool := (pinsLive s || s.pwr.boot = .segs) && (s.slice k).powered

/-- A generator whose balls stay idle: a spare that shadows an axis (R266). -/
def ballsIdle (s : State) (a : Nat) : Bool := decide (4 ≤ a) && s.get R.MOT_AXa_SHADOW a != 7

/-- MOT_ENa_L is driven low: an axis that is enabled, out of re-phase and ESTOP, with the motion clock (R239, R257, R537). -/
def pinMotEn (s : State) (a : Nat) : Bool :=
  pinsLive s && Variant.hasAxis s.variant a && s.bit R.MOT_AXa_EN a && (s.axis a).rephase.isNone && !(estopActive s) && !(ballsIdle s a) &&
    pllLocked s 3

/-- The level of MOT_STEPa: active for STEP_HIGH ticks from a step's edge (R239, R544). -/
def pinMotStep (s : State) (a : Nat) : Bool :=
  (pinsLive s && !(ballsIdle s a) && decide (s.now < (s.axis a).pulse)) != s.bit R.MOT_AXa_STEP_POL a

/-- The level of MOT_DIRa: high for the negative direction, but for DIR_INV (R239; log 123). -/
def pinMotDir (s : State) (a : Nat) : Bool := (s.axis a).dir != s.bit R.MOT_AXa_DIR_INV a

/-- PASS_READY is asserted (R274, R544). -/
def passReady (s : State) : Bool := pinsLive s && s.rol.ready

/-- The level of PASS_READY (R277). -/
def pinPassReady (s : State) : Bool := passReady s != s.bit R.MOT_PASS_READY_POL

/-- IRQ_L is asserted (R510). -/
def pinIrq (s : State) : Bool := pinsLive s && s.irqPin

/-- PRINT_HOLD_L is asserted (R278, R544). -/
def pinPrintHold (s : State) : Bool := if pinsLive s then s.bit R.MOT_HOLD_OUT else s.bit R.RST_CTRL_HOLD_ON_RESET

end Sys2Proof.Machine
end

