-- ==== Sys2Proof/Machine/Tables.lean ====
section
/-! DEFINITION. Table images (R30 to R33, R403, R518 to R521): the header and its checks, staging, and the swap that a boundary makes. -/
namespace Sys2Proof.Machine
open Sys2Proof

/-- Target page and boundary code that a type must carry (R519). -/
def tableTarget (t : Nat) : Option (Nat × Nat) :=
  match t with
  | 1 => some (pgTIMING, 1) | 2 => some (pgTIMING, 4) | 3 => some (pgMOT, 0) | 4 => some (pgCAP, 5)
  | 5 => some (pgINS, 4) | 6 => some (pgINS, 4) | 7 => some (pgINS, 5) | 8 => some (pgSCRIM, 4)
  | _ => none

/-- Fixed payload lengths (R521, check 7). -/
def tableFixed (t : Nat) : Option Nat := match t with | 1 => some 512 | 2 => some 6144 | 8 => some 1216 | _ => none

def TableImage.type (x : TableImage) : Nat := leAt x.hdr 4 1

/-- Payload bytes as they stand in DRAM. -/
def imagePayload (s : State) (x : TableImage) : List (BitVec 8) := memBytes s.mem x.dest (x.total - 64)

/-- The whole image, header included. -/
def imageBytes (s : State) (x : TableImage) : List (BitVec 8) := x.hdr ++ imagePayload s x

/-- R507: byte offset of the first field of a header that breaks check 8 of R521. -/
def reservedBad (h : List (BitVec 8)) : Option Nat :=
  let flags := leAt h 6 2
  if 2 ≤ flags then some 6
  else if leAt h 0x0F 1 ≠ 0 then some 0x0F
  else if leAt h 0x14 12 ≠ 0 then some 0x14
  else if flags = 0 ∧ leAt h 0x20 32 ≠ 0 then some 0x20
  else none

/-- The header checks of R521: page, ERR_CODE and ERR_INFO of the first that fails. -/
def imageCheck (s : State) (x : TableImage) : Option (Nat × Nat × Nat) :=
  let h := x.hdr
  let named := leAt h 0x0C 2
  let at_ := if pagePresent s named then named else pgSYS
  if (x.local_ && dramBad s 5 (x.dest - 64) 64) = true then some (pgSYS, 0x17, 0x10)
  else if leAt h 0 4 ≠ 0x494C4254 then some (at_, 0x10, 0)
  else if leAt h 5 1 ≠ 1 then some (at_, 0x11, 5)
  else match tableTarget x.type with
    | none => some (pgSYS, 0x12, 4)
    | some (page, bnd) =>
      let p := imagePayload s x
      if !(pagePresent s page) then some (pgSYS, 0x24, 0x0C)
      else if named ≠ page then some (page, 0x13, 0x0C)
      else if leAt h 0x0E 1 ≠ bnd then some (page, 0x14, 0x0E)
      else if leAt h 8 4 != x.total - 64 || decide (x.total < 65) || (match tableFixed x.type with | some n => n != leAt h 8 4 | none => false) ||
          x.local_ && decide (deviceLo < x.dest + (x.total - 64)) then some (page, 0x15, 8)
      else match reservedBad h with
        | some i => some (page, 0x16, i)
        | none =>
          if dramEnd < x.dest + (x.total - 64) ∨ dramBad s 5 x.dest (x.total - 64) = true ∨ crc32c (h.take 16 ++ p) ≠ leAt h 0x10 4 then some (page, 0x17, 0x10)
          else if leAt h 6 2 = 1 ∧ sha (h.take 32 ++ p) ≠ fixLen 32 (h.drop 32) then some (page, 0x18, 0x20)
          else none

/-- TABLE_STATUS, and the TABLE interrupt (R403, R415, R419): 0, or the code that rejected the image. -/
def tableReport (s : State) (t code : Nat) : State :=
  (((s.set R.TYREX_TABLE_STAT (if code = 0 then 3 else 4)).set R.TYREX_TABLE_TYPE t).linkEvent 9 t code).raise pgTYREX 3

/-- A ramp table image that has passed its header checks (R243, R244): the digest follows the content in force (R487). -/
def rampStage (s : State) (t : Nat) (ents : List (Nat × Nat × Bool)) (dg : List (BitVec 8)) : State :=
  let s1 := s.modSec (fun x => { x with digests := smDel (smPut x.digests (0x300 + t) (rampDigest s t)) (0x400 + t) })
  let s2 := rampLoad s1 t ents
  s2.modSec (fun x => { x with digests := smPut x.digests ((if (smFind s2.rol.held t).isSome then 0x400 else 0x300) + t) dg })

/-- The 512 bytes of a pattern book image into the inactive bank (R64, R65). -/
def bookStage (s : State) (p : List (BitVec 8)) : State :=
  if s.bit R.TIMING_PB_STAT_PENDING then s.set R.TIMING_PB_STAT_WRITE_LOST 1
  else s.each (List.range 128) (fun t i => t.set (bankRow (1 - liveBank t)) (leAt p (4 * i) 4) 0 i)

/-- An image that has passed its header checks is staged as R519 lays down; a ramp table that fails its own checks is rejected. DESIGN CHOICE (log 125): a
type 0x01 image that is ignored because a commit is pending (R65) is reported as accepted, with code 0. -/
def imageStage (s : State) (x : TableImage) : State :=
  let p := imagePayload s x
  let dg := sha (imageBytes s x)
  let wait (b : List (BitVec 8)) : State := { s with staged := smPut s.staged x.type (dg, b) }
  if x.type = 1 then tableReport (bookStage s p) 1 0
  else if x.type = 2 then tableReport s 2 0
  else if x.type = 3 then
    match rampCheck p with
    | some (c, i) => tableReport (s.err pgMOT c i) 3 c
    | none => tableReport (rampStage s (leAt p 0 1) (rampEntries p) dg) 3 0
  else if x.type = 5 ∨ x.type = 6 then
    let t := wait []
    tableReport { t with inPlace := t.inPlace.filter (fun y => !(y.type = x.type && y.staged)) ++
      [{ type := x.type, addr := x.dest, len := x.total - 64, staged := true }] } x.type 0
  else tableReport (wait p) x.type 0

/-- TABLE_CHECK_DONE (R521, R31). -/
def tableChecked (s : State) : State :=
  match s.tyrex.image with
  | none => s
  | some x =>
    let s1 := { s with tyrex := { s.tyrex with image := none } }
    match imageCheck s1 x with
    | some (page, code, info) =>
      let s2 := tableReport (s1.err page code info) x.type code
      if 5 ≤ x.type ∧ x.type ≤ 7 ∧ Variant.hasIns s.variant then s2.raise pgINS 3 else s2
    | none => imageStage s1 x

/-- The region rules of R403 for a payload of `len` bytes of type `t` at `dest`: the TYREX page's ERR_CODE. -/
def tableRegion (s : State) (t dest len : Nat) : Option Nat :=
  if inDevice dest len then some 0xC03
  else if t = 2 ∧ dest ≠ s.get64 R.TIMING_SEG_BASE_LO R.TIMING_SEG_BASE_HI then some 0xC04
  else if meetsInPlace s dest (dest + len - 1) then some 0xC05
  else none

/-- SYS_TBL_CMD (R520); a refusal under the region rules is the path's outcome and is reported as one (log 108). -/
def sysTableCmd (s : State) : State :=
  let a := s.get64 R.SYS_TBL_ADDR_LO R.SYS_TBL_ADDR_HI
  let h := memBytes s.mem a 64
  let len := leAt h 8 4
  if s.tyrex.image.isSome then s.err pgSYS 0x2D
  else match tableRegion s (leAt h 4 1) (a + 64) len with
    | some c => tableReport (s.err pgTYREX c) (leAt h 4 1) c
    | none =>
      { (s.set R.TYREX_TABLE_STAT 2).set R.TYREX_TABLE_TYPE (leAt h 4 1) with
        tyrex := { s.tyrex with image := some { hdr := h, dest := a + 64, total := 64 + len, got := 64 + len, local_ := true } } }

/-! ## Swaps at boundaries (R30, R33) -/

/-- A staged image of a type comes into force, or is rejected by its content checks; its digest goes with it (R487). -/
def swapType (s : State) (t : Nat) (load : State → List (BitVec 8) → State × Bool) : State :=
  match smFind s.staged t with
  | none => s
  | some (dg, b) =>
    let r := load { s with staged := smDel s.staged t } b
    if r.2 then r.1.modSec (fun x => { x with digests := smPut x.digests t dg }) else r.1

/-- A staged drop table or map (R208, R220). -/
def swapPlace (s : State) (t : Nat) (idle : Bool) : State :=
  swapType s t (fun u _ =>
    match u.inPlace.find? (fun y => y.type = t && y.staged) with
    | none => (u, false)
    | some y =>
      let v := placeLoad u (if idle then u.shadowsTakeEffect .idle else u) y
      (v, v.inPlace.any (fun z => z.type = t && !z.staged && z.addr = y.addr && z.len = y.len)))

/-- Table swaps due at a PAGE boundary; at IDLE entry, every one (R519, R20). -/
def tableSwaps (s : State) (idle : Bool) : State :=
  let ent (u : State) (k : Nat) : Option Entry := if segEn u k then (u.slice k).entry else none
  let s1 := if idle then
      swapType (swapType s 4 (fun u b => (ladderSwap u b, (ladderCheck b).isNone))) 7 (fun u b => (ccLoad u b, (ccCheck b).isNone))
    else s
  swapType (swapPlace (swapPlace s1 6 idle) 5 idle) 8 (fun u b => (seamSwap u b, (seamCheck (ent u) b).isNone))

end Sys2Proof.Machine
end

