-- ==== Sys2Proof/Machine/Session.lean ====
section
/-! DEFINITION. The end of a Tyrex session (R409), the Ethernet port's negotiation (R379, R416), and what start-up does with the epoch
(R410). -/
namespace Sys2Proof.Machine
open Sys2Proof

def State.modTyrex (s : State) (f : Tyrex → Tyrex) : State := { s with tyrex := f s.tyrex }

def sessionOpen (s : State) : Bool := s.get R.TYREX_SESS_STATE != 0

/-- Where the partial image of `s` is discarded, nothing is received any more; an image under its checks stays so (R403, R419). -/
def loadShow (t s : State) : State := if s.tyrex.load.isSome && s.tyrex.image.isNone then t.set R.TYREX_TABLE_STAT 0 else t

/-- The session ends (R409, R481, R514): 1 CLOSE, 2 TIMEOUT, 3 RESET, 4 TAKEOVER. -/
def sessionEnd (s : State) (cause : Nat) : State :=
  if !(sessionOpen s) then s
  else
    let s1 := s.modTyrex (fun x => { x with held := [], done := [], resps := [], load := none, quote := none, sent := 0 })
    let s2 := loadShow s1 s
    let s3 := [R.TYREX_SESS_STATE, R.TYREX_SESS_ID, R.TYREX_CREDIT_LIMIT, R.TYREX_SENT_UNITS, R.TYREX_CTL_NEXT].foldl
      (fun (t : State) r => t.set r 0) s2
    ((updSessionEnd (lockBreak s3 1)).linkEvent 8 cause 0).raise pgTYREX 1

/-- Auto-negotiation restarts: the link goes down, and comes back with what is then advertised (R379, R416). -/
def linkReneg (s : State) : State := linkGoesDown s

/-- The epoch counts (R410). -/
def epochNext (s : State) : State := s.set R.TYREX_EPOCH (s.get R.TYREX_EPOCH + 1)

end Sys2Proof.Machine
end

