-- ==== Sys2Proof/Machine/Modes.lean ====
section
/-! DEFINITION. The modes (R34 to R40): requests and their checks, the IDLE-to-job transition, PAGE boundaries and IDLE entry with what
each brings into force (R20, R33, R38), entry into SERVICE (R39), and the end of start-up (R547). -/
namespace Sys2Proof.Machine
open Sys2Proof

def State.setPend (s : State) (p : Option ModePend) : State := { s with modePend := p }

/-- Every slice, as a mask. -/
def allSlices : Nat := 2 ^ 24 - 1

/-- What follows from fields that have just come into force: limit activity, domains, the spare lanes, PRINT_HOLD_L. -/
def settle (s : State) : State := insStatus (holdUpdate (laneSync (domSync (limRefresh s))))

/-- A retraining asked for by the host is due (R329). -/
def retrainReq (s : State) : State := if s.bit R.MC_RETRAIN_REQ then retrainDue (s.set R.MC_RETRAIN_REQ 0) else s

/-- Seam corrections are cleared where SCRIM_CTRL_CORR_CLEAR asked for it (R174). -/
def corrClear (s : State) : State :=
  if s.bit R.SCRIM_CTRL_CORR_CLEAR then
    (List.range 24).foldl (fun (t : State) j => t.setI R.CLU_SEAMj_CORR 0 (j / 4) (j % 4)) (s.set R.SCRIM_CTRL_CORR_CLEAR 0)
  else s

/-! ## PAGE boundaries (R33, R38) -/

/-- PAGE_BOUNDARY within a job: swaps, then shadowed writes, then what the units do at it (R33, R38). -/
def pageBoundary (s : State) : State :=
  let s1 := segBoundary (contentKeep (insClose s)) allSlices
  let s2 := shdSync (seamClip (tableSwaps s1 false)) allSlices
  let s3 := afeTrims (s2.shadowsTakeEffect .page)
  let s4 := retrainAt (retrainReq (insPage (trkBoundary s3))) false
  let s5 := (lanePlanned s4).inc R.SYS_SECTION_CNT
  settle (calGapOpen (calStale { s5 with pageDue := false, secPasses := 0 }))

/-! ## IDLE entry (R20, R35) -/

/-- Leaving SERVICE clears test modes and debug overrides (R35, R69, R551). -/
def serviceLeft (s : State) : State :=
  let s1 := (s.set R.TIMING_PB_LIVE_EDIT 0).each [0, 1, 2] (fun (t : State) w => t.set R.PWR_DOM_FORCE_w 0 0 w)
  s1.each (List.range 24) (fun (t : State) k => (t.set R.SLC_SKIM_BYPASS 0 k).unshadow R.SLC_SKIM_BYPASS k)

/-- Shadowed settings of the host link come into force (R376, R379, R412, R416); `b` is the state before them. -/
def linkIdle (b s : State) : State :=
  let s1 := if s.get R.TYREX_CTRL_LOCKED = b.get R.TYREX_CTRL_LOCKED then s else sessionEnd s 3
  let s2 := if s1.bit R.LINK_CTRL_RENEG then linkReneg (s1.set R.LINK_CTRL_RENEG 0) else s1
  let s3 :=
    if !(s2.bit R.LINK_STAT_UP) then s2
    else if s2.bit R.LINK_CTRL_DHCP then (if b.bit R.LINK_CTRL_DHCP then s2 else dhcpAsk s2)
    else ip4Set (s2.modEth (fun e => { e with lease := false })) (s2.get R.LINK_IP4)
  let s4 := if s3.get R.HOD_CTRL_LEG_EN = b.get R.HOD_CTRL_LEG_EN ∧ s3.get R.HOD_CTRL_LEG_CLASS = b.get R.HOD_CTRL_LEG_CLASS then s3
    else hodLegRestart s3
  hodPath s4

/-- The PTP clock returns to its own PLL at IDLE, where that is locked again (R537). -/
def ptpClockBack (s : State) : State := if pllLocked s 4 then s.set R.CLK_PTP_FALLBACK 0 else s

/-- The job ends: capture lines still on their way go nowhere, open detections and pages close, PASS_READY deasserts (R38, R40, R219, R277, R287). -/
def jobEnds (s : State) : State :=
  if s.inJob then (rollerJobEnd (capJobEnd (plumbJobEnd (insClose { s with capLines := [] })))).inc R.SYS_SECTION_CNT else s

/-- IDLE_ENTRY: a PAGE, LINE and OLINE boundary that also brings IDLE-bound writes and tables into force (R20, R33). -/
def idleEntry (s : State) : State :=
  let s1 := (((jobEnds s).set R.SYS_MODE_CUR 0).set R.SYS_MODE_CUR_FO 0).set R.SYS_MODE_PENDING 0
  let s2 := { (if s.mode == .service then serviceLeft s1 else s1) with modePend := none, pageDue := false, secPasses := 0 }
  -- a fall of the budget acts before segments are powered (R414)
  let b2 := budgetUpdate (lldpLapse (s2.pageTakesEffect pgPOE .idle))
  let s3 := shdSync (tableSwaps (segBoundary (contentKeep b2) allSlices) true) allSlices
  let s4 := sparesSwitch s3 (seamClip (segBoundary (afeTrims (s3.shadowsTakeEffect .idle)) 0))
  let s4 := s4.each (List.range 6) (fun t a => if t.get R.MOT_AXa_USTEP_CYCLE a = s3.get R.MOT_AXa_USTEP_CYCLE a then t else idxShow t a)
  let s5 := calIdle (corrClear (trkIdle (insIdle (insPage (trkBoundary s4)))))
  let s6 := linkIdle s2 (wearSave (secIdle (ptpIdle (ptpClockBack s5))))
  let s7 := lanePlanned (retrainAt (retrainReq s6) true)
  let s8 := poeReq (budgetUpdate (quotasKeep (aonSource (pixRelock s7))))
  retestBegin (settle (calTrigger s8))

/-! ## Start-up reaches IDLE (R263, R389, R437, R547) -/

/-- Segments under power that can still become READY. -/
def segsComing (s : State) : List Nat := (segsPowered s).filter (fun k => !(linkFailed s k))

/-- Start-up's last steps, as far as they can go now: the budget is known; every powered segment is READY and Primer's check is over, or
cannot be made; IDLE is entered, and every axis that lost its driver re-phases. -/
def bootAdvance (s : State) : State :=
  let s1 := if s.pwr.boot = .link ∧ s.poe.wait = false then s.modPwr (fun x => { x with boot := .segs }) else s
  let ks := segsComing s1
  if s1.pwr.boot = .segs ∧ s1.cal.run = none ∧ ks.all (fun k => (s1.slice k).bring == .ready) = true ∧
      (ks.all (fun k => bitOf s1.cal.checked k) = true ∨ shutReady s1 = false) then
    let s2 := idleEntry (calLate (s1.modPwr (fun x => { x with boot := .done })))
    ((fusesResume s2).modCal (fun c => { c with checked := 2 ^ 24 - 1 })).each (List.range 6) (fun t a =>
      if Variant.hasAxis t.variant a && t.bit R.MOT_AXa_STAT_DRV_LOST a then rephaseStart t a else t)
  else s1

/-- What another unit's outcome leaves for the pacing and for Primer, and for start-up. -/
def after (s : State) : State := bootAdvance (rephaseDue (calGapOpen (calGapWatch (calAxes (capHooks s)))))

/-! ## The IDLE-to-job transition (R14, R35) -/

/-- The mode changes from IDLE (R14, R35, R145, R195, R230, R288, R321). -/
def startJob (s : State) (m : Mode) (fo : Bool) : State :=
  let s1 := { (((lineRestart (calAbandon s false)).set R.SYS_MODE_CUR m.code).setB R.SYS_MODE_CUR_FO fo).set R.SYS_SECTION_CNT 0 with
    modePend := none, pageDue := false, secPasses := 0 }
  let s2 := widthFix (ringNeedSet s1 (ringNeed (s1.get R.TIMING_FLOAT_PITCH) (contribEntries s1)))
  let s3 := insJobStart (plumbJobStart (trkJobStart (floatJobStart { s2 with scrim := { s2.scrim with corr := [], corrLines := 0 } })))
  let s4 := scrimGeometry (capJobStart (rollerJobStart s3)) true
  settle (capWatch (quotasFor { s4 with hod := { s4.hod with counts := [], line := none } } m))

/-- CALIBRATE is entered; with nothing requested or pending it is left at once (R430). -/
def startCalibrate (s : State) : State :=
  let s1 := settle (quotasFor (((lineRestart s).set R.SYS_MODE_CUR Mode.calibrate.code).set R.SYS_MODE_CUR_FO 0) .calibrate)
  if calNothing s1 then idleEntry s1 else s1

/-- CAL_RUN_START: where CALIBRATE has nothing that can run, it ends (R430). -/
def calStart (s : State) : State :=
  let t := calRunStart s
  after (if t.mode == .calibrate && t.modePend.isNone && calNothing t then idleEntry t else t)

/-! ## Checks of a request (R11, R35, R69, R137, R294, R316, R322, R365, R391, R503, R536) -/

/-- Pages of the blocks that a mode's row of R40 uses, of those present (R503). -/
def modePages (s : State) (m : Mode) (fo : Bool) : List Nat :=
  let req := s.get R.CAL_REQ
  let bar := decide (4 ≤ req)
  let tile := (decide (req % 4 ≠ 0) || calTiles s != []) && s.bit R.CAL_CTRL_SHUT_AUTO
  let l := match m with
    | .inspect => [pgTIMING, pgSCRIM, pgPLUMB, pgTRK, pgINS] ++ (if fo then [pgMOT, pgAXIS 0, pgAXIS 1] else [])
    | .capture => [pgTIMING, pgSCRIM, pgPLUMB, pgTRK, pgMOT, pgAXIS 0] ++ (if capExit s then [pgAXIS 1] else []) ++ [pgCAP]
    | .calibrate => [pgTIMING, pgCAL] ++ (if tile then [pgMOT, pgAXIS 2, pgAXIS axSHUTTER] else []) ++ (if bar then [pgSCRIM, pgPLUMB, pgTRK, pgMOT, pgAXIS 0] else []) ++
        (if bitOf req kCOLOUR then [pgINS] else [])
    | .idle => []
    | .service => []
  l.filter (pagePresent s)

/-- A region that a base register names lies in part in the device region (R316). -/
def regionBad (s : State) : Bool :=
  let at_ (lo hi : Row) (n : Nat) : Bool := inDevice (s.get64 lo hi) n
  at_ R.TIMING_SEG_BASE_LO R.TIMING_SEG_BASE_HI 6144 ||
  at_ R.TIMING_SHD_BASE_LO R.TIMING_SHD_BASE_HI (245824 * Variant.slices s.variant) ||
  at_ R.MC_RING_BASE_LO R.MC_RING_BASE_HI (s.get R.MC_RING_LINES * s.get R.MC_RING_SLOT_BYTES) ||
  s.inPlace.any (fun t => inDevice t.addr t.len) ||
  (Variant.hasIns s.variant && (at_ R.INS_CROP_BASE_LO R.INS_CROP_BASE_HI 440401920 || at_ R.INS_NOZ_BASE_LO R.INS_NOZ_BASE_HI (32 * nozTotal s))) ||
  at_ R.HOD_SPILL_BASE_LO R.HOD_SPILL_BASE_HI (4096 * sumN ([0, 1, 2, 3].map (fun n => s.get R.HOD_Cn_PAGES 0 n)))

/-- The quotas that mode `m` would have in force exceed the window (R321, R322). -/
def overcommit (s : State) (m : Mode) : Bool :=
  let bytes := lineRecBytes s (areaWidth s)
  decide (s.get R.ARB_WIN_CAP < quotaSumFor s (captureDemand s m bytes) (ringDemand s m (contribEntries s)))

/-- The first check that a request for a mode fails: SYS ERR_CODE and ERR_INFO. -/
def modeRefusal (s : State) (m : Mode) (fo : Bool) : Option (Nat × Nat) :=
  let job := m == .inspect || m == .capture
  let dom := faultedFor s ((List.range 7).map (· + 60) |>.filter (domWanted (s.set R.SYS_MODE_CUR m.code)))
  if s.mode != .idle then some (0x22, 0)
  else if m == .inspect && s.variant == .sq7212 then some (0x21, 0)
  else match (modePages s m fo).find? (fun p => !(s.bit R.BLK_CTRL_ENABLE p)) with
    | some p => some (0x2C, p)
    | none => match dom with
      | some d => some (0x2E, d)
      | none =>
        if noPower s then some (0x2B, 0)
        else if job && s.bit R.TIMING_PB_STAT_DIRTY then some (0x25, 0)
        else if job && decide (s.get R.MC_RING_LINES < ringNeed (s.get R.TIMING_FLOAT_PITCH) (contribEntries s)) then some (0x26, 0)
        else if job && regionBad s then some (0x28, 0)
        else if overcommit s m then some (0x29, 0)
        else if job && (hodConfigCheck s (m == .capture) (lineRecBytes s (areaWidth s))).isSome then some (0x2A, 0)
        else if m == .capture && (captureCheck s).isSome then some (0x27, 0)
        else none

/-- The marks a refusal leaves in other pages (R294, R338, R365). -/
def modeRefused (s : State) (m : Mode) (code info : Nat) : State :=
  let s1 := s.err pgSYS code info
  if code = 0x29 then s1.raise pgARB 1
  else if code = 0x2A then
    match hodConfigCheck s (m == .capture) (lineRecBytes s (areaWidth s)) with
    | some n => s1.err pgHOD 0x801 n
    | none => s1
  else if code = 0x27 then
    match captureCheck s with
    | some (c, r) => s1.err pgCAP c r
    | none => s1
  else s1

/-! ## Requests (R35, R36, R39) -/

/-- SYS_MODE reads what was last written to it. -/
def modeWritten (s : State) (code : Nat) (fo : Bool) : State := (s.set R.SYS_MODE_REQ code).setB R.SYS_MODE_FEED_OWNER fo

/-- A request for INSPECT. -/
def requestInspect (s : State) (fo : Bool) : State :=
  match modeRefusal s .inspect fo with
  | some x => modeRefused s .inspect x.1 x.2
  | none => startJob s .inspect fo

def requestCapture (s : State) : State :=
  match modeRefusal s .capture false with
  | some x => modeRefused s .capture x.1 x.2
  | none => startJob s .capture false

def requestCalibrate (s : State) : State :=
  match modeRefusal s .calibrate false with
  | some x => modeRefused s .calibrate x.1 x.2
  | none => startCalibrate s

/-- A request for IDLE (R35, R36, R38). -/
def requestIdle (s : State) : State :=
  match s.mode with
  | .idle => s
  | .service => idleEntry s
  | .calibrate => if s.modePend.isSome then s else idleEntry (calStop s false true)
  | .inspect =>
    if s.modePend = some .service ∨ s.modePend = some .stopping then s else (s.set R.SYS_MODE_PENDING 1).setPend (some .idle)
  | .capture =>
    if s.modePend = some .service ∨ s.modePend = some .stopping then s
    else (capIdleRequest (s.set R.SYS_MODE_PENDING 1)).setPend (some .idle)

/-- SERVICE is in force; an entry that ended a job says so (R39 step 6). The last committed line, where none has been, has no stated value
(log 8). -/
def serviceEntered (s : State) : State :=
  let job := s.inJob || s.mode == .calibrate
  let d := s.draw
  let last := lineCommitted s
  let line := last.getD (Config.unstated 25 d.1).toNat
  let s1 := if job then
      (if last.isNone then d.2 else s).emit 0 0x01 0x01 (leBytes 8 line ++ leBytes 8 s.ts ++ leBytes 16 0)
    else s
  let s2 := if s.inJob then rollerJobEnd (capJobEnd (plumbJobEnd s1)) else s1
  let s3 := ((s2.set R.SYS_MODE_CUR Mode.service.code).set R.SYS_MODE_CUR_FO 0).set R.SYS_MODE_PENDING 0
  let s4 := { s3.setB R.SYS_MODE_ABORTED job with modePend := none, pageDue := false, secPasses := 0 }
  settle (quotasKeep s4)

/-- A request for SERVICE (R35, R39 step 1): from IDLE at once, else by the sequence of R39. -/
def requestService (s : State) : State :=
  match s.mode with
  | .service => s
  | .idle => serviceEntered (lineRestart (calAbandon s false))
  | .calibrate => if s.modePend = some .stopping then s else (s.set R.SYS_MODE_PENDING 1).setPend (some .service)
  | .inspect => if s.modePend = some .stopping then s else (s.set R.SYS_MODE_PENDING 1).setPend (some .service)
  | .capture => if s.modePend = some .stopping then s else (s.set R.SYS_MODE_PENDING 1).setPend (some .service)

/-- SERVICE_ENTRY_COMPLETE (R39 step 6). -/
def serviceComplete (s : State) : State :=
  if s.modePend = some .stopping ∧ allAtRest s = true then serviceEntered s else s

/-- IDLE_REQUEST_STILL_TIMEOUT (R38). -/
def stillTimeout (s : State) : State := if s.modePend = some .idle then s.setPend (some .idleLine) else s

/-- The PAGE boundary due at an OLINE boundary, or the OLINE boundary alone (R20, R38). A job that ends here does so once the line has
passed, and that end is its PAGE boundary. -/
def modeAtOline (s : State) : State :=
  if s.pageDue ∧ s.inJob = true ∧ s.modePend ≠ some .idle then pageBoundary s else s.shadowsTakeEffect .oline

/-- The job ends with the line that closed first after the request (R35, R38). -/
def jobEndAtOline (s : State) : State := if s.modePend = some .idle ∧ s.inJob = true then idleEntry s else s

/-- SYS_SECTION_CMD END (R38). -/
def sectionEnd (s : State) : State := if s.mode = .inspect then { s with pageDue := true } else s

/-- What a PASS boundary brings besides Roller's and Straightedge's part (R38, R452, R459); `before` is the state before the command. -/
def passAfter (before s : State) : State :=
  if s.get R.MOT_PASS_CNT = before.get R.MOT_PASS_CNT then s
  else
    let s1 := if s.bit R.HK_URG_ON_PASS then hkUrgent s else s
    let s2 := lanePlanned s1
    let n := s2.secPasses + 1
    let s3 := { s2 with secPasses := n }
    settle (if s3.mode = .inspect ∧ s3.get R.SYS_SECTION_PASSES ≠ 0 ∧ s3.get R.SYS_SECTION_PASSES ≤ n then { s3 with pageDue := true } else s3)

/-- A Primer run has ended; in CALIBRATE the mode ends with the last kind, unless SERVICE has been asked for (R35, R432). -/
def calRunOver (s : State) : State :=
  let s1 := calRunEnd s
  after (if s1.mode = .calibrate ∧ s.cal.run.isSome = true ∧ s1.cal.run.isNone = true ∧ calComplete s1 = true ∧ s1.modePend = none then idleEntry s1 else s1)

/-- Training has completed: at start-up the link follows (R329, R389, R410, R547 steps 8 and 9). -/
def trainingDone (s : State) : State :=
  if s.pwr.boot = .train then
    let s0 := s.set R.MC_STAT_TRAINED 1
    let s1 := trainedMarks (retrainDone { s0 with mc := { s0.mc with trainT := s.mc.dieT } })
    let s2 := poeReq (budgetUpdate (epochNext s1))
    let wait := s2.bit R.POE_CTRL_LLDP_EN && s2.get R.POE_LLDP_WAIT != 0
    bootAdvance ({ s2 with poe := { s2.poe with wait := wait, reqDue := true } }.modPwr (fun x => { x with boot := .link }))
  else retrainDone s

end Sys2Proof.Machine
end

