-- ==== Sys2Proof/Machine/Read.lean ====
section
/-! DEFINITION. Reading the register space (R18, R498 to R506): who reaches a page, the value each kind of field shows, snapshots, and
the effects that a read has. -/
namespace Sys2Proof.Machine
open Sys2Proof

/-! ## Who reaches what (R7, R478, R499, R536) -/

/-- An access by the agent finds a register file at this place. -/
def reaches (s : State) (ag : Agent) (page off : Nat) : Bool :=
  pagePresent s page && (ag == .spi || !(domHeld s)) && (ag != .jtag || bitOf (s.get R.SEC_DBG_STAT_PERM) 1) &&
  ((ag != .cpu0 && ag != .cpu1) || s.sec.entry.isSome) &&
  (s.pwr.boot != .recovery || (ag == .spi && (page == pgSYS || page == pgSEC || decide (off < 0x40))))

/-! ## Domains of pages (R533, R535; log 50) -/

/-- The domain, or domains, a page's block lies in; none: the fixed core. -/
def pageDomains (page : Nat) : List Nat :=
  match pageLine page with
  | none => []
  | some l =>
    let i := page - l.first
    match l.type with
    | 0x30 => [i] | 0x31 => [24 + i] | 0x32 => [48 + i]
    | 0x13 => [60, 61] | 0x14 => [62, 63, 64, 65] | 0x17 => [66] | 0x1C => [67] | 0x1A => [68] | 0x1B => [68]
    | 0x18 => [69, 70] | 0x19 => [69, 70] | 0x1D => [71] | 0x20 => [71] | 0x1F => [71] | 0x15 => [74] | 0x16 => [74]
    | 0x06 => [75] | 0x23 => [78] | 0x24 => [79]
    | _ => []

/-- The block's power domain is on (R502, BLK_STAT_POWERED). -/
def pagePowered (s : State) (page : Nat) : Bool :=
  match pageDomains page with
  | [] => true
  | l => l.any (domIsOn s)

/-! ## Values that no register stores -/

/-- A field of the common header (R502). -/
def headerValue (s : State) (page : Nat) (r : Row) : Nat :=
  match pageLine page with
  | none => 0
  | some l =>
    if r = R.BLK_ID_TYPE then l.type
    else if r = R.BLK_ID_INST then page - l.first
    else if r = R.BLK_ID_MAJOR then 1
    else if r = R.BLK_ID_MINOR then 0
    else if r = R.BLK_CAP_PRESENT then 1
    else if r = R.BLK_CAP_SHADOWED then b2n (pageShadowed l)
    else if r = R.BLK_CAP_IRQ_BITS then irqBits l.type
    else if r = R.BLK_CTRL_ENABLE then (if enableFixed page then 1 else s.seen R.BLK_CTRL_ENABLE page)
    else if r = R.BLK_STAT_ENABLED then (if enableFixed page then 1 else s.get R.BLK_CTRL_ENABLE page)
    else if r = R.BLK_STAT_FROZEN then b2n ((smFind s.snaps page).isSome)
    else if r = R.BLK_STAT_POWERED then b2n (pagePowered s page)
    else if r = R.IRQ_STAT then s.irqStat page
    else if r = R.SHADOW_STAT_PENDING then b2n (decide (s.shadowNext page < 7))
    else if r = R.SHADOW_STAT_HELD then b2n (!(s.heldOf page).isEmpty)
    else if r = R.SHADOW_STAT_NEXT then s.shadowNext page
    else if r = R.SHADOW_STAT_HELD_CNT then (s.heldOf page).length
    else if r.acc == .wo then 0
    else s.get r page

/-- Next packet to send of a class (HOD_Cn_SEND_SEQ). -/
def hodSendSeq (s : State) (n : Nat) : Nat :=
  match (hc s n).pkts.find? (fun p => !p.sent) with | some p => p.seq | none => (hc s n).nextSeq

/-- Oldest held packet of a class (HOD_Cn_OLDEST_SEQ). -/
def hodOldestSeq (s : State) (n : Nat) : Nat :=
  match (hc s n).pkts.head? with | some p => p.seq | none => (hc s n).nextSeq

/-- Words committed beyond the legacy read point (HOD_LEG_AVAIL). -/
def legAvail (s : State) : Nat :=
  if s.bit R.HOD_CTRL_LEG_EN then min ((legWords s (legClass s)).length - (hc s (legClass s)).legRead) (2 ^ 32 - 1) else 0

/-- Live value of a field at offset 0x040 or above, but for reads that have an effect. -/
def blockValue (s : State) (page : Nat) (r : Row) (p i : Nat) : Nat :=
  if r.acc == .rws then s.seen r p i
  else if page = pgHOD then
    (if r = R.HOD_Cn_NEXT_SEQ then (hc s i).nextSeq
     else if r = R.HOD_Cn_OLDEST_SEQ then hodOldestSeq s i
     else if r = R.HOD_Cn_SEND_SEQ then hodSendSeq s i
     else if r = R.HOD_Cn_HELD_PAGES then ceilDiv (hodHeld s i) 4096
     else if r = R.HOD_Cn_FREE_PAGES then hodFree s i / 4096
     else if r = R.HOD_LEG_AVAIL then legAvail s
     else if r.acc == .wo then 0 else s.get r p i)
  else if page = pgSEC then
    (if r = R.SEC_WIN then secWindow s i
     else if r = R.SEC_QUOTE_ID then leNat (slice s.sec.quote 8 4).reverse
     else if r.acc == .wo then 0 else s.get r p i)
  else if page = pgIRQ then
    (if r = R.IRQ_SUMw then
      sumN ((List.range 32).map (fun b => match summaryPage (32 * i + b) with | some q => if s.irqStat q = 0 then 0 else 2 ^ b | none => 0))
     else if r = R.IRQ_PIN_STAT then b2n (pinIrq s)
     else s.get r p i)
  else if r = R.LOCK_HELD then lockHeld s
  else if r = R.CAP_FILL then capFill s
  else if r = R.ARB_QUOTA_SUM then quotaSum s
  else if r = R.POE_STAT_TYPE4 then b2n (decide (7 ≤ s.get R.POE_CLASS_REQ))
  else if r = R.SPARE_WEAR_VAL then wearValue s
  else if r = R.CAL_STAT_QF_VALID then b2n (calFiguresShown s)
  else if r = R.CAL_QF_SHD_k ∨ r = R.CAL_QF_BASE_k ∨ r = R.CAL_QF_STITCH_j ∨ r = R.CAL_QF_COLOUR_MAX ∨ r = R.CAL_QF_COLOUR_MEAN then
    (if calFiguresShown s then s.get r p i else 0)
  else if r = R.TYREX_CTRL_LOCKED ∨ r = R.CLK_AON_SRC then s.get r p i
  else if r.acc == .wo then 0
  else s.get r p i

/-- While a page's domain is off, its status and counts read their reset values (R535; log 50). -/
def fieldLive (s : State) (page : Nat) (r : Row) (p i : Nat) : Nat :=
  if r.pages = 4096 then headerValue s page r
  else if r.acc == .ro && !r.kept && !(pagePowered s page) then Row.reset r s.variant p i
  else blockValue s page r p i

/-- What a field shows: a frozen one, its snapshot (R505). -/
def fieldShown (s : State) (page : Nat) (r : Row) (p i : Nat) : Nat :=
  match smFind s.snaps page with
  | some snap => if neverFrozen r then fieldLive s page r p i else (smFind snap (Row.code r p i)).getD (fieldLive s page r p i)
  | none => fieldLive s page r p i

/-- Compose a word from the fields at an offset. -/
def wordOf (fs : List (Row × Nat × Nat)) (f : Row → Nat → Nat → Nat) : Nat := sumN (fs.map (fun x => f x.1 x.2.1 x.2.2 * 2 ^ x.1.lsb))

/-- Value in force of the register that SHADOW_CTRL_SEL names (R502). -/
def shadowVal (s : State) (page : Nat) : Nat :=
  wordOf (fieldsAt page (4 * s.get R.SHADOW_CTRL_SEL page)) (fun r p i => if r.acc == .rws then s.get r p i else fieldShown s page r p i)

/-- The word at an offset of a present page, without the effects of a read. -/
def wordShown (s : State) (page off : Nat) : Nat :=
  if off = 0x034 then shadowVal s page else wordOf (fieldsAt page off) (fun r p i => fieldShown s page r p i)

/-! ## Snapshots (R505) -/

/-- The fields of a page: header rows and its own, with every element. -/
def pageFields (page : Nat) : List (Row × Nat × Nat) :=
  let own := match pageLine page with | some l => l.rows | none => []
  (R.headerRows.map (fun r => (r, page, 0))) ++ own.flatMap (fun r => (List.range r.count).map (fun i => (r, page - r.page, i)))

/-- A snapshot of every RO and W1C field that FREEZE covers. -/
def freezeOn (s : State) (page : Nat) : State :=
  let snap := (pageFields page).foldl (fun m x => if neverFrozen x.1 then m else smPut m (Row.code x.1 x.2.1 x.2.2) (fieldLive s page x.1 x.2.1 x.2.2)) []
  (s.set R.BLK_CTRL_FREEZE 1 page) |> fun t => { t with snaps := smPut t.snaps page snap }

def freezeOff (s : State) (page : Nat) : State :=
  (s.set R.BLK_CTRL_FREEZE 0 page) |> fun t => { t with snaps := smDel t.snaps page }

/-! ## A read by an agent (R375, R501, R513, R515, R516) -/

def latchKey (ag : Agent) (addr : Nat) : Nat := Agent.code ag * 2 ^ 24 + addr

/-- A _LO register stands here. -/
def isLo (page off : Nat) : Bool := R.loRows.any (fun r => decide (r.page ≤ page) && decide (page < r.page + r.pages) && (Row.at? r off).isSome)

/-- A _HI register stands here: four bytes above a _LO. -/
def isHi (page off : Nat) : Bool := decide (4 ≤ off) && isLo page (off - 4)

/-- A read of LOCK_n; the management SPI, and a Tyrex read with UNORDERED, read LOCK_STAT_n instead (R515, R516). -/
def lockRead (s : State) (ag : Agent) (n : Nat) (quiet : Bool) : Nat × State :=
  if ag == .spi || quiet then (wordShown s pgLOCK (0xC0 + 4 * n), s) else lockAttempt s n (Agent.code ag)

/-- A read of the word at an address: the value, and the state it leaves. -/
def busRead (s : State) (ag : Agent) (addr : Nat) (quiet : Bool := false) : Nat × State :=
  let page := addr / 0x1000
  let off := addr % 0x1000 / 4 * 4
  if !(reaches s ag page off) then (0, s)
  else if page = pgLOCK ∧ 0x40 ≤ off ∧ off < 0xC0 then lockRead s ag ((off - 0x40) / 4) quiet
  else if page = pgHOD ∧ off = 0x100 then hodLegRead s
  else if isLo page off then
    (wordShown s page off, { s with latches := smPut s.latches (latchKey ag (page * 0x1000 + off + 4)) (wordShown s page (off + 4)) })
  else if isHi page off then
    match smFind s.latches (latchKey ag (page * 0x1000 + off)) with
    | some v => (v, { s with latches := smDel s.latches (latchKey ag (page * 0x1000 + off)) })
    | none => (wordShown s page off, s)
  else (wordShown s page off, s)

/-- Words read one after another; the address advances by 4, or stays (R399, R500). -/
def busReads (s : State) (ag : Agent) (addr : Nat) (fixed quiet : Bool) : Nat → List Nat × State
  | 0 => ([], s)
  | n + 1 =>
    let r := busRead s ag addr quiet
    let rest := busReads r.2 ag (if fixed then addr else addr + 4) fixed quiet n
    (r.1 :: rest.1, rest.2)

end Sys2Proof.Machine
end

