-- ==== Sys2Proof/Machine/Reset.lean ====
section
/-! DEFINITION. Block soft resets (R374, R378, R410, R411, R504, R545): whether one is accepted, what it leaves, and when it is over. -/
namespace Sys2Proof.Machine
open Sys2Proof

/-- Where R504 accepts a soft reset: in every mode; in IDLE and SERVICE; as a full reset; never. -/
inductive ResetRule | always | quiet | full | never
deriving DecidableEq, Repr

def resetRule (page : Nat) : ResetRule :=
  match pageLine page with
  | none => .never
  | some l =>
    if l.type = 0x01 then .full
    else if l.type ∈ [0x05, 0x06, 0x1A, 0x1B, 0x1C, 0x1D, 0x1F, 0x20] then .always
    else if l.type ∈ [0x02, 0x03, 0x04, 0x07, 0x08, 0x1E, 0x23, 0x24] then .never
    else .quiet

/-- The clocks, besides the core's, that the block's crossings meet (R504, R539; log 51). -/
def resetClocks (page : Nat) : List Nat :=
  match pageLine page with
  | none => []
  | some l =>
    let i := page - l.first
    match l.type with
    | 0x15 => [3] | 0x16 => [3] | 0x1D => [2] | 0x20 => [2] | 0x1F => [4] | 0x18 => [1]
    | 0x30 => [8 + i / 4] | 0x31 => [8 + i / 4] | 0x32 => [8 + i]
    | _ => []

/-- Every register of a page returns to its reset value, but for those a reset leaves (R504). Three stay besides: MC_STAT_TRAINED,
PTP_STAT_FREE, which tells what has happened since power-up (R393), and the waiting TYREX_CTRL_LOCKED (R412; log 127). -/
def pageRegsReset (s : State) (page : Nat) : State :=
  let s1 := s.each ((pageFields page).filter (fun x => !(keptRow x.1) && x.1 != R.MC_STAT_TRAINED && x.1 != R.PTP_STAT_FREE)) (fun t x => t.unset x.1 x.2.1 x.2.2)
  { s1 with
    shadow := s1.shadow.filter (fun e => !(decide (pageLo page ≤ e.1) && decide (e.1 < pageHi page)) || e.1 = Row.code R.TYREX_CTRL_LOCKED 0 0)
    held := smDel s1.held page
    snaps := smDel s1.snaps page }

/-- The digests of some table types are dropped with the images (R487). -/
def digestsDrop (s : State) (f : Nat → Bool) : State := s.modSec (fun x => { x with digests := x.digests.filter (fun d => !(f d.1)) })

/-- What lies inside the block beyond its registers, reset (log 51). -/
def unitReset (s : State) (page : Nat) : State :=
  match pageLine page with
  | none => s
  | some l =>
    let i := page - l.first
    match l.type with
    | 0x05 => s.modHk (fun h => { h with vOut := [], far := [], offs := [], read := false, crit := false })
    | 0x06 => s.modHk (fun h => { h with run := none, due := false, urg := none, bridges := [] })
    | 0x10 => { s with timing := State.reset.timing }
    | 0x11 => digestsDrop { s with scrim := State.reset.scrim } (· == 8)
    | 0x12 => { s with plumb := { State.reset.plumb with dfRaw := s.plumb.dfRaw, dfQual := s.plumb.dfQual } }
    | 0x13 => let t := trkBoundary { s with trk := State.reset.trk }
      t.set R.TRK_FB_SCALE (fbNominal t)
    | 0x14 => digestsDrop { s with ins := { Ins.init with evtNum := s.ins.evtNum }, inPlace := s.inPlace.filter (fun t => t.staged) } (fun d => decide (5 ≤ d) && decide (d ≤ 7))
    | 0x15 => digestsDrop (s.modRol (fun r => { Roller.init with
        axes := r.axes, aborting := r.aborting, lims := r.lims, encLev := r.encLev, psRaw := r.psRaw, psQual := r.psQual, primer := r.primer })) (fun d => decide (0x300 ≤ d))
    | 0x16 => idxShow (s.modAxis i (fun x => { Axis.init with flt := x.flt, aonLow := x.aonLow, due := x.due })) i
    | 0x17 => digestsDrop { s with cap := Cap.init } (· == 4)
    | 0x18 => hodPath { s with
        hod := { s.hod with retraining := false }, mc := { s.mc with grant := none, postponed := 0, locked := none, driftSent := false } }
    | 0x19 => { s with mc := { s.mc with left := windowQuotas s, dmaServed := 15, dbgUsed := false } }
    | 0x1A => { s with dmaBytes := 0 }.set R.DMA_ACTIVE
        (maskOf ((List.range 16).filter (fun c => decide (1 ≤ s.get R.DMA_CHc_STATE c) && decide (s.get R.DMA_CHc_STATE c ≤ 3))))
    | 0x1B => dmaSoftReset s i
    | 0x1C => hodFlush (hodPath s) 15
    | 0x1D => s.modEth (fun e => { e with fails := [], removed := 0 })
    | 0x1F => { s with ptp := { State.reset.ptp with offset := s.ptp.offset } }
    | 0x20 => s.modTyrex (fun x => { State.reset.tyrex with prevEpoch := x.prevEpoch, image := x.image })
    | 0x21 => s.modCal (fun c => { Cal.init with nor := c.nor, seen := c.seen, checked := c.checked, stores := c.stores })
    | 0x22 => s.modFil (fun f => { Filler.init with
        fails := f.fails, retired := f.retired, norMap := f.norMap, rows := f.rows, sramOnce := f.sramOnce, sramList := f.sramList
        shdBad := f.shdBad, wear := f.wear, saved := f.saved })
    | 0x30 => s.modSlice i (fun x => { x with chans := [], spares := [], fits := [], supChecks := false, loRun := 0, loSince := none })
    | 0x31 => { s.modSlice i (fun _ => Slice.init) with staggerQ := s.staggerQ.filter (· != i) }
    | _ => s

/-- What a block does first, while it still has its registers: links and sessions end, moves stop, runs are abandoned (R374, R409, R411,
R422). -/
def unitStops (s : State) (page : Nat) : State :=
  match pageLine page with
  | none => s
  | some l =>
    let i := page - l.first
    match l.type with
    | 0x15 => if s.rol.run.isSome then advAbort s false else s
    | 0x16 => haltNow s (leadOf s i)
    | 0x1D => linkGoesDown s
    | 0x20 => epochNext (hodRenumber (sessionEnd s 3))
    | 0x21 => calAbandon s false
    | 0x31 => segOff s i
    | _ => s

/-- An accepted soft reset of a block (R504). -/
def blockReset (s : State) (page : Nat) : State :=
  let s1 := unitReset (pageRegsReset (unitStops s page) page) page
  let s2 := xingReset (s1.set R.BLK_STAT_RESETTING 1 page) (resetClocks page)
  settle (pixRelock (powerCount (budgetUpdate s2)))

/-- A SOFT_RESET written to a page (R504). -/
def softReset (s : State) (page : Nat) : State :=
  match resetRule page with
  | .full => fullReset s 4
  | .never => s
  | .always => blockReset s page
  | .quiet => if s.mode == .idle || s.mode == .service then blockReset s page else s.err page 1 s.mode.code

/-- Every crossing has completed, which takes every clock concerned (R504, R545, R371). -/
def softResetOver (s : State) (page : Nat) : State :=
  if (resetClocks page).all (clockRuns s) then
    let s1 := if s.bit R.BLK_STAT_RESETTING page then s.set R.BLK_STAT_RESETTING 0 page else s
    if page = pgHOD ∧ s.hod.spillReset = true then hodPath { s1 with hod := { s1.hod with spillReset := false } } else s1
  else s

end Sys2Proof.Machine
end

