-- ==== Sys2Proof/Machine/Bus.lean ====
section
/-! DEFINITION. Writing the register space (R18, R498 to R506, R583): what each kind of field does with a write, holding and releasing
writes, and the commands that registers carry. -/
namespace Sys2Proof.Machine
open Sys2Proof

/-! ## Commands that registers carry, as changes of state -/

/-- Clocks of SAMPLE that every enabled segment needs (R64). -/
def sampleNeed (s : State) : Nat :=
  (enabledSegs s).foldl (fun m k => match (s.slice k).entry with | some e => max m (segLead e + segPpt e) | none => m) 0

/-- The longest bank period that CAPTURE allows: the least PERIOD of the ladder (R295). -/
def periodLimit (s : State) : Option Nat :=
  if s.mode = .capture then
    match rungs s with
    | g :: l => some (l.foldl (fun m x => min m x.period) g.period)
    | [] => none
  else none

/-- TIMING_PB_COMMIT. -/
def cmdPbCommit (s : State) : State := pbCommit s (sampleNeed s) (periodLimit s)

/-- A word written to a bank of the pattern book at pixel-clock count `count` (R64, R65, R68). -/
def cmdBank (s : State) (bank word v count : Nat) : State :=
  if bank = liveBank s then pbLiveEdit s (word / 2) (word % 2 = 1) v count else pbSlotWrite s bank word v

/-- 1s written to TIMING_SEG_SYNC; a write in the boundary's own clock waits for the boundary after it (R56, R58, R509). -/
def cmdSegSync (s : State) (mask : Nat) (atBoundary : Bool) : State :=
  if atBoundary then { s with timing := { s.timing with segLate := s.timing.segLate ||| mask } }
  else s.set R.TIMING_SEG_SYNC (s.get R.TIMING_SEG_SYNC ||| mask)

/-- 1s written to TIMING_SHD_SYNC (R120). -/
def cmdShdSync (s : State) (mask : Nat) (atBoundary : Bool) : State :=
  if atBoundary then { s with timing := { s.timing with shdLate := s.timing.shdLate ||| mask } }
  else s.set R.TIMING_SHD_SYNC (s.get R.TIMING_SHD_SYNC ||| mask)

/-- SYS_MODE is written (R34, R35). -/
def cmdMode (s : State) (v : Nat) : State :=
  let fo := bitOf v 3
  let s1 := modeWritten (retestDrop s) (v % 8) fo
  match v % 8 with
  | 0 => after (requestIdle s1)
  | 1 => after (requestInspect s1 fo)
  | 2 => after (requestCapture s1)
  | 3 => after (requestCalibrate s1)
  | 4 => after (requestService s1)
  | _ => s.err pgSYS 0x23

/-- MOT_AXa_CMD (R249 to R263, R282). -/
def cmdAxis (s : State) (a code : Nat) (tbl : Option Nat) : State :=
  match code with
  | 1 => after (axisStart s a)
  | 2 => after (axisStop s a tbl)
  | 3 => after (axisHalt s a)
  | 4 => after (axisHome s a)
  | 5 => after (axisRearm s a)
  | 6 => after (axisRephase s a)
  | 7 => after (axisSetPos s a)
  | _ => s

/-- CAP_CMD RESUME and RESUME_FORCE, held during a calibration gap (R304, R431). -/
def cmdResume (s : State) (force : Bool) : State :=
  if s.bit R.CAL_STAT_GAP then calHold s force else after (if force then capDoForce s else capDoResume s)

/-- CAP_CMD (R286, R303, R304). -/
def cmdCap (s : State) (code : Nat) : State :=
  match code with
  | 1 => capPageStart s
  | 2 => after (capPageEnd s)
  | 3 => after (capHostPause s)
  | 4 => cmdResume s false
  | 5 => cmdResume s true
  | _ => s

/-- SEC_UPD_CMD (R479 to R481): `good` fuses blow before one fails (R482). -/
def cmdUpdate (s : State) (code : Nat) (good : Option Nat) : State :=
  match code with
  | 1 => updBegin s
  | 2 => updFinish s
  | 3 => updAbort s
  | 4 => let r := updActivate s; if r.2 then fullReset r.1 6 else r.1
  | 5 => updConfirm s good
  | _ => s

/-- SEC_DBG_CMD RELOCK: the permissions end, and the locks of DEBUG with them (R489, R514). -/
def cmdRelock (s : State) : State := lockBreak (debugRelock s) 4

/-- DBG_CMD (R523). -/
def cmdDebug (s : State) (write : Bool) : State :=
  let a := s.get64 R.DBG_ADDR_LO R.DBG_ADDR_HI
  if s.bit R.DBG_STAT_BUSY then s
  else if dramEnd ≤ a then s.set R.DBG_STAT_ADDR_ERR 1
  else
    let data := if write then (List.range 16).flatMap (fun w => leBytes 4 (s.get R.DBG_DATA_w 0 w)) else []
    { (s.set R.DBG_STAT_ADDR_ERR 0).set R.DBG_STAT_BUSY 1 with mc := { s.mc with dbg := some (write, a, data) } }

/-- IRQ_SET (R502, R508). -/
def cmdIrqSet (s : State) (page mask : Nat) : State :=
  if mask = 0 then s
  else if s.mode == .service then raiseEvents s page (mask &&& irqMask page) else s.err page 2 mask

/-- ERR_CLEAR (R502). -/
def cmdErrClear (s : State) (page : Nat) : State :=
  ((s.set R.ERR_CODE 0 page).set R.ERR_INFO 0 page).set R.BLK_STAT_ERR_OVW 0 page

/-! ## Who may write what (R412, R499, R516) -/

def mayWrite (ag : Agent) (page off : Nat) : Bool :=
  (page != pgLOCK || ag != .spi) && (page != pgTYREX || ag == .spi || !(decide (0x04C ≤ off) && decide (off < 0x070)))

/-! ## Fields that take effect at once, or at the next COMMIT (R18, R506) -/

/-- Fields that HOLD never holds although they name COMMIT: SYS_MODE acts as R35 lays down, and SHADOW_CTRL releases what is held. -/
def unheld (r : Row) : Bool :=
  r = R.SYS_MODE_REQ || r = R.SYS_MODE_FEED_OWNER || r = R.SHADOW_CTRL_HOLD || r = R.SHADOW_CTRL_COMMIT || r = R.SHADOW_CTRL_DISCARD ||
  r = R.SHADOW_CTRL_SEL

/-- RW and WO fields whose boundary is COMMIT. -/
def commitField (r : Row) : Bool := (r.acc == .rw || r.acc == .wo) && r.bnd == .commit && !(unheld r)

/-- A write to some RW fields does more than store their values (R278, R310, R448, R451, R454, R480, R505, R511, R534). -/
def rwEffect (s0 s : State) (page off v : Nat) : State :=
  if off = 0x008 then (if bitOf v 2 then freezeOn s page else if (smFind s.snaps page).isSome then freezeOff s page else s)
  else if off = 0x014 then s0.irqAfter s page
  else if page = pgCAP ∧ off = 0x08C then (if s.mode == .inspect then capReserve s else s)
  else if page = pgSCRIM ∧ off = 0x048 then (if Row.field R.SCRIM_CORR_GAIN v ≤ 4 then stitchGain s (Row.field R.SCRIM_CORR_GAIN v) else s)
  else if page = pgHK ∧ off = 0x040 then (if s.bit R.HK_CTRL_REF_EN then s else hkRefOff s)
  else if page = pgHK ∧ (off = 0x100 ∨ off = 0x120) then bridgeSwitched s ((off - 0x100) / 32)
  else if page = pgSEC ∧ off = 0x098 then (if s.mode == .idle then secIdle s else s)
  else if page = pgHK ∧ 0x200 ≤ off then s.set R.HK_STAT_LUT_ZERO 0
  else if page = pgPWR ∧ 0x060 ≤ off ∧ off < 0x06C then domSync s
  else s

/-- The RW fields at an offset take their values (R18, R506). `count`: the pixel-clock count, for the live bank (R68). -/
def writeRw (s : State) (ag : Agent) (page off v count : Nat) : State :=
  if page = pgLOCK ∧ 0x040 ≤ off ∧ off < 0x0C0 then lockWrite s ((off - 0x040) / 4) (Agent.code ag) v
  else if page = pgTIMING ∧ 0x400 ≤ off ∧ off < 0x800 then cmdBank s ((off - 0x400) / 0x200) (off % 0x200 / 4) v count
  else if pgAXIS 0 ≤ page ∧ page < pgAXIS 6 ∧ off = 0x050 then after (axisVelSel s (page - pgAXIS 0) v)
  else
    let s1 := (fieldsAt page off).foldl (fun (t : State) x =>
      let n := Row.field x.1 v
      if x.1.acc == .rw && commitField x.1 && accepts s x.1 x.2.1 x.2.2 n v then t.set x.1 n x.2.1 x.2.2 else t) s
    rwEffect s s1 page off v

/-- The WO fields that name COMMIT act (R18). -/
def writeWo (s : State) (ag : Agent) (page off v : Nat) : State :=
  if off = 0x008 then
    let s1 := if bitOf v 3 then s.set R.EVT_CNT 0 page else s
    let s2 := if bitOf v 4 then cmdErrClear s1 page else s1
    if bitOf v 1 then after (softReset s2 page) else s2
  else if off = 0x01C then cmdIrqSet s page v
  else match pageLine page with
    | none => s
    | some l =>
      let i := page - l.first
      match l.type, off with
      | 0x01, 0x068 => if bitOf v 0 then sysTableCmd s else s
      | 0x01, 0x074 => if bitOf v 0 then sectionEnd s else s
      | 0x31, 0x044 => if bitOf v 0 then linkRerun s i else s
      | 0x14, 0x040 => if bitOf v 8 then healthSend s else s
      | 0x15, 0x0D0 => let s1 := if bitOf v 1 then advFlush s else s; if bitOf v 0 then advPush s1 else s1
      | 0x15, 0x110 => after ((maskList v 2).foldl groupStart s)
      | 0x16, 0x040 => cmdAxis s i (v % 16) (if bitOf v 14 then some (bits v 8 6) else none)
      | 0x17, 0x05C => cmdCap s (v % 8)
      | 0x19, 0x048 => if bitOf v 0 then arbCntClear s else s
      | 0x1B, 0x048 => if v % 4 = 1 then dmaStart s ag i else if v % 4 = 2 then dmaAbort s i else s
      | 0x1C, 0x060 => hodFlush s (v % 16)
      | 0x1C, 0x108 => if v % 4 = 1 then hodLegMark s else if v % 4 = 2 then hodLegRewind s else if v % 4 = 3 then hodLegRelease s else s
      | 0x1F, 0x054 => if bitOf v 0 then ptpLatchTime s else s
      | 0x21, 0x044 => if bitOf v 8 then after (calTileReady s) else s
      | 0x06, 0x048 => if bitOf v 8 then hkUrgent s else s
      | 0x23, 0x084 => let s1 := cmdUpdate s (v % 8) none; if bitOf v 8 then ownerProvision s1 else s1
      | 0x23, 0x08C => updData s v
      | 0x23, 0x0C0 => if v % 4 = 1 then debugUnlock s else if v % 4 = 2 then cmdRelock s else s
      | 0x24, 0x048 => if v % 4 = 1 then cmdDebug s false else if v % 4 = 2 then cmdDebug s true else s
      | 0x20, _ => if 0x050 ≤ off ∧ off < 0x070 then pairStore (s.set R.TYREX_PAIR_KEYj v 0 ((off - 0x050) / 4)) else s
      | 0x23, _ => if 0x400 ≤ off ∧ off < 0x800 then secWindowWrite s ((off - 0x400) / 4) v else s
      | _, _ => s

/-! ## HOLD, COMMIT, DISCARD (R506) -/

/-- A write is held, if there is room. -/
def holdPush (s : State) (ag : Agent) (page off v : Nat) : State :=
  if 64 ≤ (s.heldOf page).length then (s.set R.SHADOW_STAT_OVERFLOW 1 page).err page 3 off
  else { s with held := smPut s.held page (s.heldOf page ++ [{ off := off, value := v, agent := ag }]) }

/-- The pixel-clock count at which a register write meets the live bank of the pattern book (R68): a free value, but where a command
gives it (log 27). -/
def pickCount (s : State) (page off : Nat) : Nat × State :=
  if page = pgTIMING ∧ 0x400 ≤ off ∧ off < 0x800 ∧ s.bit R.TIMING_PB_LIVE_EDIT = true then
    ((Config.unstated 26 s.draws % 65536).toNat, s.draw.2)
  else (0, s)

/-- PRINT_HOLD_L follows its sources after the RW values of a write, or of all that a COMMIT brings in one core clock, have come into force (R278, R506). -/
def holdFollows (s : State) (page : Nat) : State := if page = pgMOT then holdUpdate s else s

/-- COMMIT: every held write acts, RW values first and then WO commands, each in order (R506). -/
def commitHeld (s : State) (page : Nat) : State :=
  let ws := s.heldOf page
  let s1 := { s with held := smDel s.held page }
  let s2 := ws.foldl (fun (t : State) w => let c := pickCount t page w.off; writeRw c.2 w.agent page w.off w.value c.1) s1
  ws.foldl (fun (t : State) w => writeWo t w.agent page w.off w.value) (holdFollows s2 page)

/-- DISCARD: held writes are dropped, and every waiting shadow of the page takes the value in force (R506). -/
def discardHeld (s : State) (page : Nat) : State :=
  { s with
    held := smDel s.held page
    shadow := s.shadow.filter (fun e => !(decide (pageLo page ≤ e.1) && decide (e.1 < pageHi page) && !(waitingRw e.1))) }

/-- A write to SHADOW_CTRL (R502, R506). -/
def shadowCtrl (s : State) (page v : Nat) : State :=
  let s1 := s.setB R.SHADOW_CTRL_HOLD (bitOf v 0) page
  let s2 := if 16 ≤ bits v 4 10 then s1.set R.SHADOW_CTRL_SEL (bits v 4 10) page else s1
  let s3 := if bitOf v 1 then commitHeld s2 page else s2
  if bitOf v 2 then discardHeld s3 page else s3

/-! ## A write by an agent -/

/-- What a write does at once to fields that HOLD does not concern: RWS shadows, W1C and W1S bits, requests that wait for their boundary
(R18, R19). -/
def writeField (s0 : State) (v : Nat) (s : State) (x : Row × Nat × Nat) : State :=
  let r := x.1
  let p := x.2.1
  let i := x.2.2
  let n := Row.field r v
  match r.acc with
  | .rws => if accepts s0 r p i n v then s.shadowWrite r p i n else s
  | .w1c => s.set r (s.get r p i - (s.get r p i &&& n)) p i
  | .w1s => if r = R.TIMING_SEG_SYNC then cmdSegSync s n false else if r = R.TIMING_SHD_SYNC then cmdShdSync s n false else after (calRequest s n)
  | .rw => if waitingRw (Row.code r p i) then s.shadowWrite r p i n else s
  | .wo => if r.bnd == .commit || n == 0 then s else if r = R.TIMING_PB_COMMIT then cmdPbCommit s else s.set r 1 p i
  | .ro => s

/-- A word written at an offset of a page that the agent reaches and may write. `count`: the pixel-clock count (R68). -/
def pageWrite (s : State) (ag : Agent) (page off v count : Nat) : State :=
  if off = 0x02C then shadowCtrl s page v
  else if page = pgSYS ∧ off = 0x044 then cmdMode s v
  else
    let fs := fieldsAt page off
    let s0 := fs.foldl (writeField s v) s
    let s1 := if page = pgTYREX ∧ off = 0x04C then pairStore s0 else s0
    -- of a word that also sets MOT_HOLD_SW the hold follows the whole (R278)
    if !(fs.any (fun x => commitField x.1)) then s1
    else if s1.bit R.SHADOW_CTRL_HOLD page then holdPush (if page = pgMOT ∧ off = 0x124 then holdUpdate s1 else s1) ag page off v
    else writeWo (holdFollows (writeRw s1 ag page off v count) page) ag page off v

/-- A register write by an agent (R498, R499). -/
def busWrite (s : State) (ag : Agent) (addr v : Nat) : State :=
  let page := addr / 0x1000
  let off := addr % 0x1000 / 4 * 4
  if reaches s ag page off && mayWrite ag page off then
    let c := pickCount s page off
    pageWrite c.2 ag page off v c.1
  else s

/-- Words written one after another; the address advances by 4, or stays (R399, R500). -/
def busWrites (s : State) (ag : Agent) (fixed : Bool) : Nat → List Nat → State
  | _, [] => s
  | addr, v :: vs => busWrites (busWrite s ag addr v) ag fixed (if fixed then addr else addr + 4) vs

/-! ## A command given by its row: the word it writes, and what it does when it is not held -/

/-- The word with trigger bits `v` that leaves the RW fields beside them as they are. -/
def withRw (s : State) (page off v : Nat) : Nat :=
  (fieldsAt page off).foldl (fun w x => if x.1.acc == .rw then w + s.get x.1 x.2.1 x.2.2 * 2 ^ x.1.lsb else w) v

/-- A word `w` written to a register that names COMMIT acts as `f`, is held (R506), or is ignored (R7, R498, R499). -/
def gateWord (s : State) (ag : Agent) (page off w : Nat) (f : State → State) : State :=
  if !(reaches s ag page off) || !(mayWrite ag page off) then s
  else if s.bit R.SHADOW_CTRL_HOLD page then holdPush s ag page off w
  else f s

/-- The same for trigger bits `v` beside which the RW fields stay as they are. -/
def gate (s : State) (ag : Agent) (page off v : Nat) (f : State → State) : State := gateWord s ag page off (withRw s page off v) f

/-- The same for a register that HOLD does not concern. -/
def gateNow (s : State) (ag : Agent) (page off : Nat) (f : State → State) : State :=
  if reaches s ag page off && mayWrite ag page off then f s else s

end Sys2Proof.Machine
end

