-- ==== Sys2Proof/Machine/Tyrex.lean ====
section
/-! DEFINITION. The Tyrex engine (R397 to R414): what a datagram from the host does, the control window, TABLE_LOAD, sessions, credit and
acknowledgement, and sending. -/
namespace Sys2Proof.Machine
open Sys2Proof

/-! ## Headers and tags (R398, R399, R412) -/

def CtlOp.type : CtlOp → Nat
  | .regRead _ _ => 1 | .regWrite _ _ => 2 | .regBlock _ _ _ _ => 3 | .tableLoad _ _ _ _ => 4 | .attest _ => 5 | .keepalive => 6 | .close => 6

/-- Payload bytes of a control request (R399). -/
def CtlOp.bytes : CtlOp → List (BitVec 8)
  | .regRead a n => beBytes 4 a ++ beBytes 2 n ++ beBytes 2 0
  | .regWrite a v => beBytes 4 a ++ beBytes 4 v
  | .regBlock a n f ws => beBytes 4 a ++ beBytes 2 n ++ beBytes 2 (b2n f) ++ ws.flatMap (beBytes 4)
  | .tableLoad d o t img => beBytes 8 d ++ beBytes 4 o ++ beBytes 4 t ++ img
  | .attest nonce => nonce
  | .keepalive => beBytes 1 2 ++ beBytes 7 0
  | .close => beBytes 1 3 ++ beBytes 7 0

/-- The 16 header bytes of a tagged control request. -/
def ctlHdr (h : Hdr) (type len : Nat) : List (BitVec 8) :=
  [h.version, BitVec.ofNat 8 type, 0, BitVec.ofNat 8 (b2n h.unordered + 4)] ++ beBytes 4 h.session.toNat ++ beBytes 4 h.seq.toNat ++
  beBytes 2 h.epoch.toNat ++ beBytes 2 len

def pairKey (s : State) : List (BitVec 8) := (List.range 8).flatMap (fun j => leBytes 4 (s.get R.TYREX_PAIR_KEYj 0 j))

/-- The 16-byte tag over a header and its payload (R412; log 6). -/
def ctlTag (s : State) (b : List (BitVec 8)) : List (BitVec 8) :=
  kmac256 (pairKey s) "TYREX-CTL" 16 b

/-- The request's tag is right, or none is asked for (R412). -/
def tagOk (s : State) (h : Hdr) (type : Nat) (payload : List (BitVec 8)) : Bool :=
  !(s.bit R.TYREX_CTRL_LOCKED) || h.tag == some (ctlTag s (ctlHdr h type payload.length ++ payload))

/-- The bytes of a datagram of the device: header (R398), payload, and the tag where it carries one (R412). -/
def dgramBytes (s : State) (type cls flags session seq : Nat) (payload : List (BitVec 8)) (tagged : Bool) : List (BitVec 8) :=
  let b := [(1 : BitVec 8), BitVec.ofNat 8 type, BitVec.ofNat 8 cls, BitVec.ofNat 8 (flags + 4 * b2n tagged)] ++ beBytes 4 session ++ beBytes 4 seq ++
    beBytes 2 (s.get R.TYREX_EPOCH) ++ beBytes 2 payload.length ++ payload
  if tagged then b ++ ctlTag s b else b

/-- Where the host takes STREAM: its address, at the port of the session (R397, R408). -/
def streamHost (s : State) : Nat := s.tyrex.host / 65536 * 65536 + s.tyrex.port

/-- An EVENT: a class 0 packet, RETX where it has been sent in this epoch (R399, R404, R407). -/
def eventTx (s : State) (p : Pkt) : Tx :=
  .dgram (s.get R.TYREX_CTL_PORT) s.tyrex.host
    (dgramBytes s 0x11 0 (2 * b2n p.sentEpoch) (s.get R.TYREX_SESS_ID) p.seq (pktBytes 0 p) (s.bit R.TYREX_CTRL_LOCKED))

/-- A STREAM datagram: the fragment of `len` bytes at the packet's position, behind its sub-header (R404). -/
def streamTx (s : State) (n : Nat) (p : Pkt) (len : Nat) : Tx :=
  let b := pktBytes n p
  .dgram (s.get R.TYREX_STREAM_PORT) (streamHost s) (dgramBytes s 0x10 n (2 * b2n p.sentEpoch) (s.get R.TYREX_SESS_ID) p.seq
    (beBytes 4 p.fragPos ++ beBytes 4 b.length ++ slice b p.fragPos len) false)

/-- A NACK of the device, NOT_HELD set (R399, R407), which leaves on the stream port (log 118). -/
def nackTx (s : State) (n : Nat) (ranges : List (Nat × Nat)) : Tx :=
  .dgram (s.get R.TYREX_STREAM_PORT) (streamHost s) (dgramBytes s 0x14 n 8 (s.get R.TYREX_SESS_ID) 0
    (beBytes 1 ranges.length ++ beBytes 3 0 ++ ranges.flatMap (fun r => beBytes 4 r.1 ++ beBytes 4 r.2)) false)

def tyrexDrop (s : State) : State := s.inc R.TYREX_DROP

/-- The frame of a datagram over IPv4, or over IPv6 where the host's address is one: MAC header, FCS and the headers of IP and UDP come to its
bytes (R380; log 73). -/
def frameOf (h : Hdr) : Nat := h.total + (if h.src / 65536 < 2 ^ 32 then 46 else 66)

/-- The port takes a datagram: its frame is not too long, and it is for one of the Tyrex ports of its message (R380, R382, R399). -/
def heard (s : State) (h : Hdr) (ports : List Row) : Bool :=
  decide (frameOf h ≤ frameLimit s false) && ports.any (fun r => h.port.toNat == s.get r)

/-- The ports a message may come to (R399). -/
def ctlPorts : List Row := [R.TYREX_CTL_PORT]
def streamPorts : List Row := [R.TYREX_STREAM_PORT]
def eitherPorts : List Row := [R.TYREX_CTL_PORT, R.TYREX_STREAM_PORT]

/-- The longest datagram the device sends: without LINK_CTRL_JUMBO its frame too must stay within R380 (R397, R419). -/
def dgramMax (s : State) : Nat := if s.bit R.LINK_CTRL_JUMBO then s.get R.TYREX_MAX_DGRAM else min (s.get R.TYREX_MAX_DGRAM) 1452

/-- R399: what a header must have, the session apart. -/
def hdrWhole (s : State) (h : Hdr) : Bool := h.lengthOk && decide (h.total ≤ s.get R.TYREX_MAX_DGRAM)

/-- R399: what a datagram of the session must have. -/
def hdrGood (s : State) (h : Hdr) : Bool :=
  hdrWhole s h && h.version == 1 && sessionOpen s && h.session.toNat == s.get R.TYREX_SESS_ID && h.epoch.toNat == s.get R.TYREX_EPOCH

/-- A datagram of the session arrives at one of `ports`: with the link down it does not, the port drops one it does not take, and a bad one is
dropped and counted (R380, R382, R383, R399). -/
def msgIn (s : State) (ports : List Row) (h : Hdr) (f : State → State) : State :=
  if !(s.bit R.LINK_STAT_UP) then s else if !(heard s h ports) then rxDrop s else if hdrGood s h then f s else tyrexDrop s

/-- A missing or wrong tag (R412, R419). -/
def authFail (s : State) : State := (s.inc R.TYREX_AUTH_FAIL).raise pgTYREX 2

/-! ## Responses (R399 to R401) -/

def stOK := 0
def stBAD_VERSION := 1
def stBAD_LENGTH := 3
def stBAD_ADDR := 4
def stREFUSED := 5
def stBUSY := 6
def stUNORDERED := 7

/-- A response to a request of the session `session` from the host `to`: RESP set, STATUS and 2 reserved bytes before its payload (R399). -/
def respMake (s : State) (dest session type seq status : Nat) (payload : List (BitVec 8)) : Tx :=
  .dgram (s.get R.TYREX_CTL_PORT) dest
    (dgramBytes s type 0 0x80 session seq (beBytes 2 status ++ beBytes 2 0 ++ payload) (s.bit R.TYREX_CTRL_LOCKED))

/-- A response of so many payload bytes after its STATUS stays within the longest datagram (R397). -/
def respFits (s : State) (n : Nat) : Bool := decide (20 + n + 16 * b2n (s.bit R.TYREX_CTRL_LOCKED) ≤ dgramMax s)

/-- A message leaves, unless the link has gone down meanwhile (R383). -/
def sendUp (s : State) (t : Tx) : State := if s.bit R.LINK_STAT_UP then s.send t else s

/-- A response goes out and is kept, the last 64 of them (R401). -/
def respond (s : State) (type seq status : Nat) (payload : List (BitVec 8)) : State :=
  let t := respMake s s.tyrex.host (s.get R.TYREX_SESS_ID) type seq status payload
  sendUp (s.modTyrex (fun x => { x with resps := (x.resps ++ [(seq, t)]).drop (x.resps.length - 63) })) t

/-! ## What a request does (R399, R400, R403) -/

/-- The pages whose ERR_CODE a write to a page can set as its refusal. -/
def errPages (page : Nat) : List Nat :=
  page :: pgSYS :: pgTYREX :: (if page = pgMOT then (List.range 6).map pgAXIS else [])

/-- The code with which a write is refused; none where it is not (R400). A mode or calibration request that the variant refuses answers with
the code of SYS (R12). -/
def writeRefusal (s : State) (addr v : Nat) : Option Nat :=
  let ps := errPages (addr / 0x1000)
  let t := busWrite (ps.foldl (fun (u : State) p => u.set R.ERR_CODE 0 p) s) .host addr v
  if t.get R.ERR_CODE pgSYS = 0x21 then some 0x21 else (ps.map (fun p => t.get R.ERR_CODE p)).find? (fun c => c != 0)

/-- Words of a REG_WRITE or REG_WRITE_BLOCK, and the first refusal with its word's index (R401). -/
def ctlWrites (fixed : Bool) : Nat → Nat → List Nat → State → Option (Nat × Nat) × State
  | _, _, [], s => (none, s)
  | addr, i, v :: vs, s =>
    let r := ctlWrites fixed (if fixed then addr else addr + 4) (i + 1) vs (busWrite s .host addr v)
    match writeRefusal s addr v with
    | some c => (some (c, i), r.2)
    | none => r

/-- An address that no register can have (R400). -/
def addrBad (a : Nat) : Bool := a % 4 != 0 || decide (0x1000000 ≤ a)

/-- The partial image is discarded (R403). -/
def loadDiscard (s : State) : State := loadShow (s.modTyrex (fun x => { x with load := none })) s

/-- A chunk is refused: status and code (R403). -/
def chunkRefuse (s : State) (code : Nat) : (Nat × Nat) × State := ((stREFUSED, code), (loadDiscard s).err pgTYREX code)

/-- Bytes land in DRAM through DMA channel 15; what lies beyond the address space is not written (R315, R403). -/
def chunkLand (s : State) (addr : Nat) (bs : List (BitVec 8)) : State :=
  let n := min bs.length (dramEnd - addr)
  let s1 := dramFresh { s with mem := memPutBytes s.mem addr (bs.take n) } addr n
  dmaCountBytes (if n < bs.length then dramAddrError s1 4 (addr + n) else s1) n

/-- The image that TYREX_TABLE_STAT and TYREX_TABLE_TYPE show (R419). -/
def tableShow (s : State) (stat : Nat) (x : TableImage) : State := (s.set R.TYREX_TABLE_STAT stat).set R.TYREX_TABLE_TYPE x.type

/-- A chunk's image stands as received so far, which shows unless another is under its checks (log 127); complete, it goes to its checks (R403,
R419). -/
def chunkTaken (s : State) (x : TableImage) : (Nat × Nat) × State :=
  if x.got < x.total then
    let s1 := s.modTyrex (fun y => { y with load := some x })
    ((stOK, 0), if s.tyrex.image.isSome then s1 else tableShow s1 1 x)
  else ((stOK, 0), tableShow (s.modTyrex (fun y => { y with load := none, image := some x })) 2 x)

/-- TABLE_LOAD (R403). -/
def chunkIn (s : State) (dest offset total : Nat) (b : List (BitVec 8)) : (Nat × Nat) × State :=
  if offset = 0 then
    if s.tyrex.image.isSome then ((stBUSY, 0), s)
    else if b.length < 64 ∨ total < 65 ∨ total < b.length then chunkRefuse s 0xC02
    else match tableRegion s (leAt b 4 1) dest (total - 64) with
      | some c => chunkRefuse s c
      | none =>
        chunkTaken (chunkLand (loadDiscard s) dest (b.drop 64)) { hdr := b.take 64, dest := dest, total := total, got := b.length, local_ := false }
  else match s.tyrex.load with
    | none => chunkRefuse s 0xC02
    | some x =>
      if offset ≠ x.got ∨ total ≠ x.total ∨ x.total < offset + b.length then chunkRefuse s 0xC02
      else if offset + b.length = x.total ∧ s.tyrex.image.isSome then ((stBUSY, 0), s)
      else chunkTaken (chunkLand s (x.dest + (offset - 64)) b) { x with got := offset + b.length }

/-- The answer to a register write: OK, or REFUSED with the code and, for a block, the index (R400). -/
def writeAnswer (block : Bool) : Option (Nat × Nat) → Nat × List (BitVec 8)
  | none => (stOK, [])
  | some (c, i) => (stREFUSED, beBytes 4 c ++ (if block then beBytes 2 i ++ beBytes 2 0 else []))

/-- A request runs: status and payload of its response, where one follows at once. CLOSE is answered first (R409). A `quiet` read, one with
UNORDERED, acquires no lock (R516). A request whose response would be longer than a datagram may be is answered BAD_LENGTH, and does nothing
(R397; log 127). -/
def ctlRun (s : State) (seq : Nat) (quiet : Bool) : CtlOp → Option (Nat × List (BitVec 8)) × State
  | .regRead a n =>
    if n = 0 ∨ 256 < n ∨ respFits s (4 * n) = false then (some (stBAD_LENGTH, []), s)
    else if addrBad a then (some (stBAD_ADDR, []), s)
    else let r := busReads s .host a false quiet n; (some (stOK, r.1.flatMap (beBytes 4)), r.2)
  | .regWrite a v =>
    if addrBad a then (some (stBAD_ADDR, []), s)
    else let r := ctlWrites true a 0 [v] s; (some (writeAnswer false r.1), r.2)
  | .regBlock a n f ws =>
    if n = 0 ∨ 256 < n ∨ ws.length ≠ n then (some (stBAD_LENGTH, []), s)
    else if addrBad a then (some (stBAD_ADDR, []), s)
    else let r := ctlWrites f a 0 ws s; (some (writeAnswer true r.1), r.2)
  | .tableLoad d o t b =>
    let r := chunkIn s d o t b
    (some (r.1.1, if r.1.1 = stREFUSED then beBytes 4 r.1.2 else []), r.2)
  | .attest nonce =>
    if nonce.length ≠ 32 ∨ respFits s 480 = false then (some (stBAD_LENGTH, []), s)
    else if s.bit R.SEC_STAT_ID_FAIL then (some (stREFUSED, beBytes 4 0xA20), s.err pgSEC 0xA20)
    else if s.tyrex.quote.isSome then (some (stBUSY, []), s)
    else
      let id := s.sec.quotes + 1
      (none, (s.modSec (fun x => { x with quotes := id })).modTyrex (fun x => { x with
        quote := some (seq, quoteBody s id nonce, s.bit R.TYREX_CTRL_LOCKED) }))
  | .keepalive => (some (stOK, []), s)
  | .close => (some (stOK, []), s)

/-- A request executes and is answered. Where it ends the session itself, nothing more is sent in it (R409). -/
def ctlExec (s : State) (seq : Nat) (quiet : Bool) (op : CtlOp) : State :=
  let r := ctlRun s seq quiet op
  if r.2.get R.TYREX_SESS_ID ≠ s.get R.TYREX_SESS_ID then r.2
  else
    let s1 := match r.1 with | some (st, p) => respond r.2 op.type seq st p | none => r.2
    match op with
    | .close => sessionEnd s1 1
    | _ => s1

/-! ## Control order (R401, R402) -/

/-- UNORDERED may be set on these (R402). -/
def CtlOp.unorderedOk : CtlOp → Bool
  | .regRead _ _ => true | .attest _ => true | .keepalive => true | _ => false

/-- The same session is still open. -/
def sameSession (s t : State) : Bool := sessionOpen t && t.get R.TYREX_SESS_ID == s.get R.TYREX_SESS_ID

/-- The next expected number moves on over what has executed and what was held behind it (R401). -/
def ctlAdvance : Nat → State → State
  | 0, s => s
  | k + 1, s =>
    let n := s.get R.TYREX_CTL_NEXT
    let nextNo (t : State) : State := t.set R.TYREX_CTL_NEXT (n + 1)
    if s.tyrex.done.contains n then
      ctlAdvance k (nextNo (s.modTyrex (fun x => { x with done := x.done.filter (· != n) })))
    else match smFind s.tyrex.held n with
      | none => s
      | some (_, op) =>
        let t := ctlExec (s.modTyrex (fun x => { x with held := smDel x.held n })) n false op
        if sameSession s t then ctlAdvance k (nextNo t) else t

/-- A control request of the session, by its number (R401, R402). -/
def ctlOrder (s : State) (h : Hdr) (op : CtlOp) : State :=
  let seq := h.seq.toNat
  let d := (seq + 2 ^ 32 - s.get R.TYREX_CTL_NEXT) % 2 ^ 32
  if 2 ^ 31 ≤ d ∨ s.tyrex.done.contains seq then
    match s.tyrex.resps.find? (fun (x : Nat × Tx) => x.1 == seq) with
    | some x => s.send x.2
    | none => s
  else if 64 ≤ d then s
  else
    let run (t : State) : State :=
      let u := if h.unordered && !op.unorderedOk then respond t op.type seq stUNORDERED [] else ctlExec t seq h.unordered op
      if sameSession s u then
        ctlAdvance 128 (u.modTyrex (fun x => { x with done := seq :: x.done }))
      else u
    if h.unordered then run (s.modTyrex (fun x => { x with held := smDel x.held seq }))
    else if d = 0 then run s
    else if (smFind s.tyrex.held seq).isSome then s
    else s.modTyrex (fun x => { x with held := smPut x.held seq (h, op) })

/-- A control request arrives (R399, R412); while CPU0 is being reset it is dropped unanswered (R28, R414). -/
def ctlIn (s : State) (h : Hdr) (op : CtlOp) : State :=
  if cpu0Down s then s else msgIn s ctlPorts h (fun t => if tagOk t h op.type op.bytes then ctlOrder t h op else authFail t)

/-! ## Sessions (R408, R409) -/

/-- The OPEN response's payload (R408). -/
def openBytes (s : State) : List (BitVec 8) :=
  let ep := s.get R.TYREX_EPOCH
  let prev := s.tyrex.prevEpoch.getD ep
  let part (n : Nat) : List (BitVec 8) :=
    beBytes 4 (hc s n).nextSeq ++ beBytes 4 (hodOldestSeq s n) ++
      beBytes 4 (if prev = ep then 0xFFFFFFFF else (hc s n).renumFrom.getD 0xFFFFFFFF)
  beBytes 2 ep ++ beBytes 2 prev ++ beBytes 2 (s.get R.TYREX_MAX_DGRAM) ++ beBytes 2 0 ++ part 0 ++ part 1 ++ part 2 ++ part 3

/-- A session opens (R401, R405, R408). Its number is a free value (log 5). -/
def openNew (s : State) (h : Hdr) (port : Nat) : State :=
  let d := s.draw
  let id := 1 + (Config.sessionId d.1).toNat % (2 ^ 32 - 1)
  let s1 := [R.TYREX_CREDIT_LIMIT, R.TYREX_SENT_UNITS, R.TYREX_CTL_NEXT].foldl (fun (t : State) r => t.set r 0) d.2
  let s2 := ((s1.set R.TYREX_SESS_STATE 1).set R.TYREX_SESS_ID id).modTyrex (fun x => { x with
    host := h.src, port := if port = 0 then h.src % 65536 else port, sent := 0, held := [], done := [], resps := [], load := none,
    quote := none })
  let s3 := s2.send (respMake s2 h.src id 6 h.seq.toNat stOK (openBytes s2))
  let s4 := [0, 1, 2, 3].foldl (fun (t : State) n => hcSet t n { hc t n with renumFrom := none }) s3
  (hodUnsend (s4.modTyrex (fun x => { x with prevEpoch := some (s.get R.TYREX_EPOCH) }))).raise pgTYREX 0

/-- SESSION OPEN (R399, R401, R402, R408), which CPU0 handles (R27, R28). One that opens nothing is answered under SESSION 0, its own. -/
def openIn (s : State) (h : Hdr) (port : Nat) : State :=
  let answer (st : Nat) : State := s.send (respMake s h.src 0 6 h.seq.toNat st [])
  if !(s.bit R.LINK_STAT_UP) || cpu0Down s then s
  else if !(heard s h ctlPorts) then rxDrop s
  else if !(hdrWhole s h) || h.session != 0 then tyrexDrop s
  else if !(tagOk s h 6 (beBytes 1 1 ++ beBytes 3 0 ++ beBytes 2 port ++ beBytes 2 0)) then authFail s
  else if h.version != 1 then answer stBAD_VERSION
  else if h.unordered then answer stUNORDERED
  else if !(sessionOpen s) then openNew s h port
  else if h.src = s.tyrex.host then openNew (sessionEnd s 4) h port
  else answer stBUSY

/-- No valid message for 2 s; the timer stands still while suspended (R409). -/
def sessionSilent (s : State) : State := if s.get R.TYREX_SESS_STATE = 1 then sessionEnd s 2 else s

/-- The quote is signed: the response goes out with the body, and the whole is held for the SEC window (R486, R488). -/
def quoteDone (s : State) : State :=
  match s.tyrex.quote with
  | none => s
  | some (seq, body, _) =>
    let s1 := quoteSign (s.modTyrex (fun x => { x with quote := none })) body
    respond s1 5 seq stOK body

/-! ## Credit, acknowledgement and NACK (R405 to R407) -/

/-- `a` is ahead of `b` in serial arithmetic modulo 2^32. -/
def ahead (a b : Nat) : Bool := a != b && decide ((a + 2 ^ 32 - b) % 2 ^ 32 < 2 ^ 31)

/-- CREDIT (R298, R405). -/
def creditIn (s : State) (limit : Nat) : State :=
  let old := s.get R.TYREX_CREDIT_LIMIT
  if ahead limit old then after (capWatch (capCredit (s.set R.TYREX_CREDIT_LIMIT limit) ((limit + 2 ^ 32 - old) % 2 ^ 32))) else s

/-- ACK names a packet: numbered before UPTO, or by a bit (R406). -/
def ackNames (upto bitmap seq : Nat) : Bool :=
  let i := (seq + 2 ^ 33 - upto - 1) % 2 ^ 32
  ahead upto seq || decide (i < 256) && bitOf bitmap i

/-- ACK names no number but such as are held and sent, or were before its oldest (R406). -/
def ackGood (s : State) (n upto bitmap : Nat) : Bool :=
  !(ahead upto (hc s n).nextSeq) && (hc s n).pkts.all (fun (p : Pkt) => !(ackNames upto bitmap p.seq) || p.sent) &&
  (maskList bitmap 256).all (fun i => (hc s n).pkts.any (fun (p : Pkt) => p.seq == (upto + 1 + i) % 2 ^ 32))

/-- ACK (R367, R406). -/
def ackIn (s : State) (n upto bitmap : Nat) : State :=
  if ackGood s n upto bitmap then after (capWatch (hodRelease (hodMark s n (fun p => ackNames upto bitmap p.seq)) n))
  else tyrexDrop s

/-- A sent packet that has not been acknowledged is to be sent again (R407). -/
def sendAgain (s : State) (n : Nat) (f : Nat → Bool) : State :=
  hcSet s n { hc s n with pkts := (hc s n).pkts.map (fun (p : Pkt) => if p.sent && !p.acked && f p.seq then { p with again := true } else p) }

/-- Runs of numbers between held ones, from offset `at_` up to `stop`, held offsets ascending. -/
def runsBetween (stop : Nat) : Nat → List Nat → List (Nat × Nat)
  | at_, [] => if at_ < stop then [(at_, stop - 1)] else []
  | at_, d :: ds =>
    if d < at_ then runsBetween stop at_ ds
    else if stop ≤ d then (if at_ < stop then [(at_, stop - 1)] else [])
    else (if at_ < d then [(at_, d - 1)] else []) ++ runsBetween stop (d + 1) ds

/-- The numbers of a range that have been committed and are no longer held (R407). -/
def notHeld (s : State) (n first last : Nat) : List (Nat × Nat) :=
  let len := (last + 2 ^ 32 - first) % 2 ^ 32 + 1
  let c := ((hc s n).nextSeq + 2 ^ 32 - first) % 2 ^ 32
  let stop := if 2 ^ 31 ≤ c then 0 else min len c
  let held := sortBy (fun x => x) (((hc s n).pkts.map (fun (p : Pkt) => (p.seq + 2 ^ 32 - first) % 2 ^ 32)).filter (fun d => decide (d < stop)))
  (runsBetween stop 0 held).map (fun (r : Nat × Nat) => ((first + r.1) % 2 ^ 32, (first + r.2) % 2 ^ 32))

/-- A device NACK names at most 32 ranges (R399). -/
def nackSend (s : State) (n : Nat) : Nat → List (Nat × Nat) → State
  | 0, _ => s
  | _, [] => s
  | k + 1, l => nackSend (s.send (nackTx s n (l.take 32))) n k (l.drop 32)

/-- NACK (R407). -/
def nackIn (s : State) (n : Nat) (ranges : List (Nat × Nat)) : State :=
  if ranges.length = 0 ∨ 32 < ranges.length then tyrexDrop s
  else
    let inside (seq : Nat) : Bool := ranges.any (fun (r : Nat × Nat) =>
      decide ((seq + 2 ^ 32 - r.1) % 2 ^ 32 ≤ (r.2 + 2 ^ 32 - r.1) % 2 ^ 32))
    let gone := ranges.flatMap (fun (r : Nat × Nat) => notHeld s n r.1 r.2)
    nackSend (sendAgain s n inside) n gone.length gone

/-! ## Sending (R358, R370, R404, R405, R407) -/

/-- Hod can read the packet now: in fallback the rings are out of reach (R370). -/
def pktReadable (s : State) (p : Pkt) : Bool := !(s.bit R.HOD_STAT_FALLBACK) || p.bank.isSome

/-- A packet not yet sent may be sent now: in fallback it must lie in the sending bank (R370). -/
def pktFresh (s : State) (p : Pkt) : Bool := !(s.bit R.HOD_STAT_FALLBACK) || p.bank = some (1 - s.hod.fillBank)

/-- Class 0 packets sent and not acknowledged (R404). -/
def eventsOut (s : State) : Nat := ((hc s 0).pkts.filter (fun (p : Pkt) => p.sent && !p.acked)).length

/-- The packet of a class that goes next: one part-way through its fragments, then one to be sent again, then the oldest not yet sent. The
legacy class is not offered to the link (R358, R375, R404, R407). -/
def sendNext (s : State) (n : Nat) : Option Pkt :=
  if s.bit R.HOD_CTRL_LEG_EN && s.get R.HOD_CTRL_LEG_CLASS = n then none
  else
    let ps := (hc s n).pkts.filter (fun (p : Pkt) => !p.acked)
    match ps.find? (fun (p : Pkt) => p.fragPos != 0) with
    | some p => if pktReadable s p then some p else none
    | none => match ps.find? (fun (p : Pkt) => p.again && pktReadable s p) with
      | some p => some p
      | none => match ps.find? (fun (p : Pkt) => !p.sent && !p.again) with
        | some p => if pktFresh s p && (n != 0 || decide (eventsOut s < 256)) then some p else none
        | none => none

/-- Sending can take place: a session is open over a link that is up (R383, R409). -/
def mayStream (s : State) : Bool := s.get R.TYREX_SESS_STATE = 1 && s.bit R.LINK_STAT_UP

/-- Bytes of STREAM so far, in units of 4 KiB rounded up. -/
def streamUnits (bytes : Nat) : Nat := ceilDiv bytes 4096

/-- `n` more bytes stay within the held limit (R405). -/
def creditFor (s : State) (n : Nat) : Bool :=
  let u := streamUnits s.tyrex.sent
  decide (streamUnits (s.tyrex.sent + n) - u ≤ (s.get R.TYREX_CREDIT_LIMIT + 2 ^ 32 - u % 2 ^ 32) % 2 ^ 32)

def pktPut (s : State) (n : Nat) (q : Pkt) : State :=
  hcSet s n { hc s n with pkts := (hc s n).pkts.map (fun (p : Pkt) => if p.seq = q.seq then q else p) }

/-- A sending of a packet begins: first sendings and repeats are counted (R407, R419). -/
def sendCount (s : State) (n : Nat) (p : Pkt) : State :=
  if p.sentEpoch then s.inc R.TYREX_Cn_RETX 0 n else s.inc R.TYREX_Cn_SENT 0 n

def pktSent (p : Pkt) : Pkt := { p with sent := true, sentEpoch := true, again := false, fragPos := 0 }

/-- EVENT_SEND: a class 0 packet in one datagram (R404). -/
def eventSend (s : State) : State :=
  if !(mayStream s) then s
  else match sendNext s 0 with
    | none => s
    | some p => hodBanks (pktPut (sendCount (s.send (eventTx s p)) 0 p) 0 (pktSent p))

/-- STREAM_SEND: the next fragment of a class, where no class above it holds a packet that can go (R358, R404, R405). -/
def streamSend (s : State) (n : Nat) : State :=
  if n = 0 || !(mayStream s) || (List.range n).any (fun m => (sendNext s m).isSome) then s
  else match sendNext s n with
    | none => s
    | some p =>
      let b := pktBytes n p
      let len := min (b.length - p.fragPos) (dgramMax s - 24)
      if !(creditFor s (8 + len)) then s
      else
        let s1 := if p.fragPos = 0 then sendCount s n p else s
        let bytes := s.tyrex.sent + (8 + len)
        let s2 := (s1.send (streamTx s n p len)).modTyrex (fun x => { x with sent := bytes })
        let s3 := s2.set R.TYREX_SENT_UNITS (streamUnits bytes)
        hodBanks (pktPut s3 n (if p.fragPos + len < b.length then { p with fragPos := p.fragPos + len } else pktSent p))

/-- RTO_EXPIRE (R407). -/
def rtoExpire (s : State) (n seq : Nat) : State :=
  if mayStream s then sendAgain s n (fun m => m == seq) else s

end Sys2Proof.Machine
end

