-- ==== Sys2Proof/Machine/Dram.lean ====
section
/-! DEFINITION. The end of a DRAM access: ECC outcomes and what they mean to the input that read (R331 to R333, R377), scrubbing, and the
debug port (R324, R523). -/
namespace Sys2Proof.Machine
open Sys2Proof

/-- One error of a read is counted and reported, with the address of its data block (R332). -/
def eccOne (input : Nat) (s : State) (e : Nat × Bool) : State :=
  if e.2 then fillerUe (eccUncorrectable s (32 * e.1) input) (32 * e.1) else fillerCe (eccCorrectable s (32 * e.1) input) (32 * e.1)

/-- The errors of a read of `n` data blocks from address `a`, as (block of the DRAM, uncorrectable): those the ECC finds, and the blocks that
carry a mark (R333). -/
def eccFound (s : State) (a n : Nat) (errs : List EccError) : List (Nat × Bool) :=
  (List.range n).filterMap (fun i =>
    let b := a / 32 + i
    if s.mc.marks.contains b then some (b, true) else (errs.find? (fun e => e.block.val = i)).map (fun e => (b, e.ue)))

/-- Block `b` could, or could not, be read by an input (R333). -/
def poisonMark (input : Nat) (bad : Bool) (s : State) (b : Nat) : State :=
  let m := setBit (smGet 0 s.mc.poison b) input bad
  { s with mc := { s.mc with poison := if m = 0 then smDel s.mc.poison b else smPut s.mc.poison b m } }

/-- An accumulator that could not be read is zeroed; its verdict stands (R224, R333). -/
def nozLost (s : State) (a : Nat) : State :=
  let st := (memGet s.mem (a + 0x1C)).toNat
  { s with mem := memPutBytes s.mem a (leBytes 28 0 ++ leBytes 1 (st % 4 + 8 * (st / 8 % 2))) }

/-- The accumulators that the blocks `bad` hold: one each (R224). -/
def nozzlesLost (s : State) (bad : List Nat) : State :=
  s.each ((List.range (nozTotal s)).filter (fun i => bad.any (fun b => meetsBlock (nozBase s + 32 * i) 32 b)))
    (fun (t : State) i => nozLost t (nozBase t + 32 * i))

/-- Does a packet of class `n` lie in block `b` of the DRAM (R364)? -/
def pktInBlock (s : State) (n b : Nat) (p : Pkt) : Bool :=
  let r := hodRing s n
  decide (r.2 ≠ 0) && (List.range 32).any (fun i => decide (r.1 ≤ 32 * b + i) && decide (32 * b + i < r.1 + r.2) &&
    (pktAt r.2 (32 * b + i - r.1) p).isSome)

/-- The spill reader could not read a packet: it is read again on the next request, and after three failed reads discarded (R377). -/
def spillMissed (n : Nat) (s : State) (p : Pkt) : State :=
  if 2 ≤ p.readFails then hodDiscardOne s n p.seq
  else pktPut s n { p with readFails := p.readFails + 1, fragPos := 0, again := p.again || p.fragPos != 0,
                           sentEpoch := p.sentEpoch || p.fragPos != 0 }

/-- Hod's spill reader could not read the blocks `bad`: every packet that lies in one of them was not read (R377). -/
def spillLost (s : State) (bad : List Nat) : State :=
  (List.range 4).foldl (fun (t : State) n => t.each ((hc s n).pkts.filter (fun p => bad.any (fun b => pktInBlock s n b p))) (spillMissed n)) s

/-- A read of an input is answered: which of its blocks it could read (R333). -/
def readMarks (s : State) (input addr bytes : Nat) (bad : List Nat) : State :=
  s.each ((List.range (bytes / 32)).map (fun i => addr / 32 + i)) (fun t b => poisonMark input (bad.contains b) t b)

/-- R333: what the blocks `bad` of a read, which were uncorrectable, mean to its input. A DMA channel hears of it with DMA_READ_DONE or
DMA_FETCH_DONE; Sanding only counts. -/
def readLost (s : State) (input addr bytes : Nat) (bad : List Nat) : State :=
  if input = 5 ∨ input = 6 ∨ input = 11 then readMarks s input addr bytes bad
  else if input = 7 then nozzlesLost s bad
  else if input = 8 then spillLost s bad
  else if input = 2 then { s with mc := { s.mc with busErrors := s.mc.busErrors + 1 } }
  else if input = 3 then { s with mc := { s.mc with marks := s.mc.marks ++ bad.filter (fun b => !(s.mc.marks.contains b)) } }
  else s

/-- A telemetry sample is written; in a full buffer it takes the place of the oldest, which is lost (R335; log 116). -/
def telemetryWrite (s : State) : State :=
  let full := decide (Config.telemetryRoom < s.mc.telemetry.length)
  { s with mc := { s.mc with
      telemetry := (if full then s.mc.telemetry.drop 1 else s.mc.telemetry) ++ [s.mc.telNext], telNext := s.mc.telNext + 1
      telLost := if full then s.mc.telLost + 1 else s.mc.telLost } }

/-- A read of input 1 takes the oldest sample out; one that could not be read is dropped, and so goes the same way (R333). -/
def telemetryRead (s : State) : State := { s with mc := { s.mc with telemetry := s.mc.telemetry.drop 1 } }

/-- DRAM_TRANSACTION_DONE (R325, R332, R333). The refreshes that waited for the end now run (R324). -/
def dramDone (s : State) (errs : List EccError) : State :=
  match s.mc.grant with
  | none => s
  | some g =>
    let s1 := { s with mc := { s.mc with grant := none, postponed := 0 } }
    if g.write then (if g.input = 1 then telemetryWrite s1 else if g.input = 9 then hodDrain s1 g.addr g.bytes else s1)
    else
      let l := eccFound s1 g.addr (g.bytes / 32) errs
      let bad := (l.filter (·.2)).map (·.1)
      let s2 := s1.each l (eccOne g.input)
      let s3 := if g.input = 1 then telemetryRead s2 else s2
      if bad = [] then s3.each (s3.mc.poison.map (·.1)) (fun t b => if meetsBlock g.addr g.bytes b then poisonMark g.input false t b else t)
      else after (capWatch (readLost s3 g.input g.addr g.bytes bad))

/-- The winner is granted: charged to this window, its age 0, its wait recorded (R319, R320, R338). A transaction where no DRAM is is not performed: what it
would write is dropped, what it would read is marked uncorrectable, which is no ECC error and not counted as one (R315). -/
def arbGrant (s : State) (w : ArbReq) : State :=
  let s1 := (s.set R.ARB_AGE_i 0 0 w.input).inc R.ARB_GRANTS_i 0 w.input
  let s2 := s1.set R.ARB_MAXWAIT_i (max (s1.get R.ARB_MAXWAIT_i 0 w.input) (min w.waitNs 1048575)) 0 w.input
  let left := smPut s2.mc.left w.input (arbLeft s w.input - arbUnits w.bytes)
  if dramEnd < w.addr + w.bytes then
    let s3 := dramAddrError { s2 with mc := { s2.mc with left := left } } w.input w.addr
    if w.write then s3 else after (capWatch (readLost s3 w.input w.addr w.bytes ((List.range (w.bytes / 32)).map (fun i => w.addr / 32 + i))))
  else
    let ch := if w.input = 4 then dmaNext s else s.mc.dmaServed
    { s2 with
      dma := if w.input = 4 ∧ 0 < (dmaCh s ch).asked then smPut s2.dma ch { dmaCh s ch with asked := (dmaCh s ch).asked - 1 } else s2.dma
      mc := { s2.mc with
        left := left
        dmaServed := ch
        grant := some { input := w.input, write := w.write, addr := w.addr, bytes := w.bytes, ch := ch }
        locked := if w.input = 3 ∧ w.write = false then (s.mc.migration.map (fun m => m.chunk)) else s2.mc.locked } }

/-- R318, R319: one round of the port, with the requests now pending. -/
def arbRound (s : State) (reqs : List ArbReq) : State :=
  if s.mc.grant.isSome || s.bit R.MC_STAT_RETRAIN_ACTIVE then s
  else
    let el := reqs.filter (arbEligible s)
    match arbWinner s el with
    | none => s
    | some w => arbGrant ((el.filter (fun r => r.input != w.input)).foldl (fun s r => arbLose s r.input) s) w

/-- SCRUB_READ (R331, R332, R336): the next 64 bytes are read, unless they lie in a chunk under migration, where Sanding waits. What Sanding writes
back, or leaves to a newer write, changes no data. -/
def scrubRead (s : State) (errs : List EccError) (_writtenSince : Bool) : State :=
  let a := s.get64 R.MC_SCRUB_ADDR_LO R.MC_SCRUB_ADDR_HI
  if !(s.bit R.MC_SCRUB_EN) || s.bit R.MC_STAT_RETRAIN_ACTIVE || chunkLocked s 0 a then s
  else scrubAdvance (State.each { s with mc := { s.mc with passStart := some (s.mc.passStart.getD s.now) } } (eccFound s a 2 errs) (eccOne 0))

/-- DEBUG_ACCESS_DONE (R324, R523). The port has no input number: the one an error records is a free value (log 8). -/
def debugDone (s : State) (errs : List EccError) : State :=
  match s.mc.dbg with
  | none => s
  | some (write, a, data) =>
    if (s.mode != .service && s.mc.dbgUsed) || s.bit R.MC_STAT_RETRAIN_ACTIVE then s
    else
      let s1 := if s.mc.grant.isSome then s.inc R.ARB_PREEMPT_DBG else s
      let s2 := ({ s1 with mc := { s1.mc with dbg := none, dbgUsed := true } }).set R.DBG_STAT_BUSY 0
      if write then dramFresh { s2 with mem := memPutBytes s2.mem a data } a 64
      else
        let put (t : State) (bs : List (BitVec 8)) : State :=
          t.each (List.range 16) (fun (u : State) w => u.set R.DBG_DATA_w (leAt bs (4 * w) 4) 0 w)
        let l := eccFound s2 a 2 errs
        let d := s2.draw
        let s3 := if l = [] then s2 else d.2.each l (eccOne (Config.unstated 27 d.1 % 16).toNat)
        if l.any (·.2) then put (s3.set R.DBG_STAT_UE 1) (leBytes 64 0)
        else put (s3.set R.DBG_STAT_UE 0) (memBytes s.mem a 64)

end Sys2Proof.Machine
end

