-- ==== Sys2Proof/Machine/Line.lean ====
section
/-! DEFINITION. The path of a capture line (R62, R63, R97, R128, R187) and of an output line (R44, R145), with what each boundary does
on the way. -/
namespace Sys2Proof.Machine
open Sys2Proof

/-- Tracker, Float and Scrim run (R40): in a job and in CALIBRATE. -/
def linesTaken (s : State) : Bool := s.inJob || s.mode == .calibrate

/-! ## Output lines (R43, R44, R145) -/

/-- What the branches make of an output line (R43); in CALIBRATE only Primer takes it. -/
def lineBranches (s : State) (o : OutLine) : State :=
  if s.mode == .calibrate then calOutLine s o else capLine (insLine (plumbOutput s o.n) o) o

/-- A closed line goes through Scrim and its branches, and its slot is free (R44, R145). -/
def linePasses (s0 : State) : State :=
  let s := if s0.inJob && s0.modePend == some .idle then pendsInvalid s0 else s0
  let n := s.flt.scrimNext
  let r := scrimLine (scrimGeometry s false) n
  let s1 := lineBranches r.2 r.1
  ringRelease (stitchWindows s1 (corrLine s1 n)) n

/-- SCRIM_LINE_READ (R44, R145): the OLINE boundary, the line, its branches, the seam windows, and a job that ends with the line (R35). Rows that
the boundary starts or adds may have still to close the line, which then waits for them (R44, R584). -/
def lineRead (s : State) : State :=
  if !(linesTaken s) || !(lineClosed s s.flt.scrimNext) || s.modePend == some .stopping then s
  else
    let s1 := modeAtOline s
    if lineClosed s1 s1.flt.scrimNext then after (jobEndAtOline (linePasses s1)) else after s1

/-- The lines already closed pass, at most `n` of them (R39 step 3). -/
def linesDrain : Nat → State → State
  | 0, s => s
  | n + 1, s =>
    if lineClosed s s.flt.scrimNext then
      let s1 := modeAtOline s
      if lineClosed s1 s1.flt.scrimNext then linesDrain n (linePasses s1) else s1
    else s

/-- Float admits no more lines and drops its open bins; the lines already closed pass (R38, R39 steps 2 and 3). The ring holds at most 2,046. -/
def linesStop (s : State) : State := linesDrain 2046 (floatDiscard { s with capLines := [] })

/-- SERVICE_ENTRY_ABORT, at the LINE boundary after the request (R39 steps 2 to 5, R440). -/
def serviceAbort (s : State) : State :=
  let s1 := if s.bit R.CAL_STAT_GAP || s.mode == .calibrate then calAbandon s true else s
  let s2 := capClosePage (insDiscard (linesStop s1)) true false
  (trkService (hodServiceRewind (rollerService s2))).setPend (some .stopping)

/-- What a LINE boundary does for a request that waits for it (R38, R39). -/
def modeAtLine (s : State) : State :=
  match s.modePend with
  | some .service => serviceAbort s
  | some .idleLine => idleEntry (linesStop s)
  | some .idle => s
  | some .stopping => s
  | none => s

/-! ## LINE boundaries (R19, R62, R63) -/

/-- What the line now ending latched, where lines pass: its MARK time goes to Scrim, both latches to the tracker (R62). A latch that the pattern did not
take has no stated value (log 8). -/
def lineLatched (s : State) : State :=
  let line := s.get R.TIMING_LINE_CNT
  let s1 := { s with timing := { s.timing with mark := none, trk := none, restarted := false } }
  if !(linesPass s) then s1
  else match s.timing.mark, s.timing.trk with
  | none, none => s1
  | m, t =>
    let d := s1.draw
    let mk := m.getD ((Config.unstated 4 d.1).toNat % 2 ^ 64)
    let v := Config.unstated 11 d.1
    let tk := t.getD ([v, v], v)
    { d.2 with
      timing := { d.2.timing with lineLatch := d.2.timing.lineLatch ++ [(line, (mk, tk.1, tk.2))] }
      scrim := { d.2.scrim with stamps := if s.inJob then d.2.scrim.stamps ++ [(line, mk)] else [] } }

/-- What the line now ending was sampled with, and the state of its supply, converters and pixel clock, for a group that wraps (R33, R97, R106, R537). -/
def lineKept (s : State) : State :=
  let s1 := s.each (List.range 24) (fun (t : State) k =>
    let bad := lineEndBad t k
    if (t.slice k).lineSup == bad && (t.slice k).chans.all (fun x => x.2.lineBad == (x.2.swap == 1)) then t
    else t.modSlice k (fun x => { x with lineSup := bad, chans := x.chans.map (fun y => (y.1, { y.2 with lineBad := y.2.swap == 1 })) }))
  { s1.modPwr (fun x => { x with pixBad := pixUnlocked s1 }) with
    timing := { s1.timing with contentWas := some (s.timing.content.getD s.contentNow) } }

/-- LINE_BOUNDARY (R33, R39, R62 to R65, R106, R296, R459): nothing while the pixel clocks relock (R537). -/
def lineBoundary (s : State) : State :=
  if relocking s then s
  else
    let s1 := modeAtLine (pbSwap (lineKept (lineLatched s)))
    let n := (s1.get R.TIMING_LINE_CNT + 1) % 2 ^ 32
    let s2 := (laneTakeovers (adcSwaps (visitLines s1))).each (List.range (Variant.clusters s.variant)) laneWatch
    let s3 := pbNewLine ((s2.shadowsTakeEffect .line).set R.TIMING_LINE_CNT n)
    after (capLineStart s3 n)

/-- PATTERN_SLOT_START (R62). -/
def slotStart (s : State) (slot : Nat) : State := if relocking s then s else patternStart s slot

/-! ## The judging of a line (R97 to R125, R457, R461) -/

/-- A row of a segment that is not READY: every block INVALID (R60). -/
def RowData.invalid (d : RowData) : RowData := { d with px := d.px.map (fun _ => 0), flags := d.flags.map (fun _ => flINVALID) }

/-- Slices whose front end runs (R40, R421): every one in a job and in SERVICE; in CALIBRATE those that the kind requires; of a tile run those it calibrates; else
none. -/
def frontRuns (s : State) (k : Nat) : Bool :=
  match s.cal.run with
  | some r => if s.mode == .calibrate && linesPass s then (s.slice k).contributing else (smFind r.slices k).isSome
  | none => s.inJob || s.mode == .service

/-- One slice of the line judged: its rows, its columns for Plumb, and Primer's part. -/
def judgeOne (wrapped : Bool) (taps : List (Nat × List TapIn)) (lanes : List LaneBad)
    (a : List (Nat × List RowData) × List (Nat × PlumbData) × State) (k : Nat) : List (Nat × List RowData) × List (Nat × PlumbData) × State :=
  let tk := smGet [] taps k
  let r := judgeSlice a.2.2 k wrapped tk
  let t := calLineSlice r.2.2.2 k tk r.2.2.1
  let rows := if t.bit R.SLC_SEG_STAT_READY k then r.1 else r.1.map RowData.invalid
  (if r.1 = [] then a.1 else a.1 ++ [(k, laneMark t lanes k rows)],
   match r.2.1 with | some p => if t.bit R.SLC_SEG_STAT_READY k then a.2.1 ++ [(k, p)] else a.2.1 | none => a.2.1, t)

/-- LINE_JUDGED: `wrapped` says that the group ended after the LINE boundary (R97); the line before a restarted count's first goes nowhere
(log 106). Where no slice's front end runs there is no line (R40). `ce` names the SRAM words read with a correctable error (R461). -/
def lineJudged (s : State) (wrapped : Bool) (taps : List (Nat × List TapIn)) (lanes : List LaneBad) (ce : List Nat) : State :=
  if relocking s || !((List.range 24).any (frontRuns s)) then s
  else
    let skip := s.fil.skip
    let r := ((List.range 24).filter (frontRuns s)).foldl (judgeOne wrapped taps lanes)
      (([] : List (Nat × List RowData)), ([] : List (Nat × PlumbData)), sramCorrected (laneChecks s lanes) ce)
    let s1 := calLineEnd r.2.2
    let cl : CapLine := {
      line := lineJudgedNo s wrapped, slices := r.1, plumb := r.2.1, pos := none, lost := laneFailed lanes
      cont := sampledWith s wrapped }
    let s2 := if linesPass s1 && s1.modePend != some .stopping && !(wrapped && s.timing.restarted) then { s1 with capLines := s1.capLines ++ [cl] } else s1
    after (laneLineDone (capTabs s2 cl) skip)

/-- The oldest line the tracker has yet to place. -/
def lineUnplaced (s : State) : Option CapLine := s.capLines.find? (fun (c : CapLine) => c.pos.isNone)

/-- TRK_LINE_RESULT (R187): the line's position goes to Plumb, Straightedge, Roller and the capture. -/
def lineTracked (s : State) : State :=
  match (lineUnplaced s).filter (fun _ => linesTaken s) with
  | none => s
  | some cl =>
    let r := trkLine s cl
    let pos := r.2.1
    let placed : CapLine := { cl with pos := some pos }
    let s0 := calTravel r.1 pos.p
    let s1 := { s0 with capLines := s0.capLines.map (fun (c : CapLine) => if c.line = cl.line && c.pos.isNone then placed else c) }
    let wasOpen := s1.plumb.sheet.isSome
    let s2 := if capAdmits s1 cl.line then plumbLine s1 placed pos else s1
    let s3 := if s2.mode == .calibrate then calSheet s2 else capSheets s2 wasOpen
    let s4 := rollerLine (insCapture s3 cl.line r.2.2.2 pos) cl.line pos r.2.2.1
    after (capDelivered s4 cl.line pos)

/-- FLOAT_CAPTURE_LINE (R128): the oldest line is applied to the bins, if it has been placed and the capture lets it in (R303). -/
def lineFloated (s : State) : State :=
  match s.capLines.filter (fun _ => linesTaken s) with
  | [] => s
  | cl :: rest =>
    match cl.pos with
    | none => s
    | some pos =>
      let s1 := { s with capLines := rest }
      if s.modePend = some .stopping ∨ capAdmits s cl.line = false then s1 else after (floatLine s1 cl pos)

/-! ## PASS_SYNC_IN and DF_IN (R169, R276, R396) -/

/-- The level of PASS_SYNC_IN, as active or not (R276). -/
def passActive (s : State) : Bool := s.rol.psRaw != s.bit R.MOT_PASS_SYNC_POL

/-- PASS_SYNC_IN has qualified at the level it stands at: the stamp of its first edge, and a swath that begins or ends (R276, R396). -/
def passQualified (s : State) : State :=
  let act := passActive s
  if act = s.rol.psQual then s.modRol (fun r => { r with psTs := none })
  else
    let ts := s.rol.psTs.getD s.ts
    let s1 := s.modRol (fun r => { r with psTs := none })
    let s2 := (if act then s1.set64 R.PTP_PASS_RISE_TS_LO R.PTP_PASS_RISE_TS_HI ts
      else s1.set64 R.PTP_PASS_FALL_TS_LO R.PTP_PASS_FALL_TS_HI ts).raise pgPTP 3
    after (passAfter s (if act then passRise s2 else passFall s2))

/-- PASS_SYNC_RISE and PASS_SYNC_FALL: the debounce of a level is over. -/
def passSync (s : State) (rise : Bool) : State := if passActive s = rise then passQualified s else s

/-- PASS_SYNC_RAW_EDGE (R396). -/
def passRaw (s : State) (level : Bool) : State :=
  if s.rol.psRaw = level then s
  else
    let s1 := s.modRol (fun r => { r with psRaw := level })
    let s2 := if passActive s1 != s1.rol.psQual && s1.rol.psTs.isNone then s1.modRol (fun r => { r with psTs := some s.ts }) else s1
    if s2.get R.MOT_PASS_SYNC_DEB = 0 then passQualified s2 else s2

/-- DF_IN_QUALIFY (R169): the pin has stood at the level. -/
def dfStood (s : State) (level : Bool) : State :=
  if s.plumb.dfRaw = level ∧ s.plumb.dfQual ≠ level then after (dfQualify s level) else s

/-- DF_IN_RAW_EDGE (R169); with no debounce the level qualifies at once. -/
def dfRawEdge (s : State) (level : Bool) : State :=
  let s1 := { s with plumb := { s.plumb with dfRaw := level } }
  if s.get R.LAP_DFIN_DEB = 0 then dfStood s1 level else s1

/-- ADV_SETTLE_DONE (R274). -/
def advSettled (s : State) : State := after (passAfter s (advSettle s))

end Sys2Proof.Machine
end

