-- ==== Sys2Proof/Machine/Ports.lean ====
section
/-! DEFINITION. The management SPI and JTAG (R500, R576), reads that give a word to an agent, and the small meanings that several units
share. -/
namespace Sys2Proof.Machine
open Sys2Proof

/-! ## Reads -/

/-- An agent reads a register: the word goes to it, with whatever else the read does (R375, R498, R501, R513). -/
def readOut (s : State) (ag : Agent) (addr : Nat) : State := let r := busRead s ag addr; r.2.send (.word ag r.1)

/-! ## The management SPI (R500) -/

/-- The address after a word: at HOD_LEG_DATA and SEC_UPD_DATA it stays. -/
def spiNext (addr : Nat) : Nat :=
  if addr = pgHOD * 0x1000 + 0x100 ∨ addr = pgSEC * 0x1000 + 0x08C then addr else addr + 4

def spiWrites : Nat → List Nat → State → State
  | _, [], s => s
  | addr, v :: vs, s => spiWrites (spiNext addr) vs (busWrite s .spi addr v)

def spiReads : Nat → Nat → State → List Nat × State
  | 0, _, s => ([], s)
  | n + 1, addr, s =>
    let r := busRead s .spi addr
    let rest := spiReads n (spiNext addr) r.2
    (r.1 :: rest.1, rest.2)

/-- A frame: WRITE, READ, or void. -/
def spiFrame (s : State) (f : SpiFrame) : State :=
  let a := f.addr.toNat / 4 * 4
  if f.cmd = 0x02 then spiWrites a (f.words.map (fun (w : Word) => w.toNat)) s
  else if f.cmd = 0x03 then let r := spiReads f.readWords a s; r.2.send (.miso r.1)
  else s.inc R.SYS_MGMT_BAD_CNT

/-! ## JTAG (R489, R576) -/

/-- A scan. What SAMPLE captures is a free value: the spec gives no boundary-scan order (log 8). Register access needs the permission. -/
def jtagRun (s : State) (op : JtagOp) : State :=
  match op with
  | .idcode => s.send (.tdo (2 ^ 28 + s.get R.SYS_VARIANT_PART * 4096 + 0x5A3 * 2 + 1))
  | .bypass b => s.send (.tdo (b2n b))
  | .samplePreload => let d := s.draw; d.2.send (.tdo (Config.unstated 28 d.1).toNat)
  | .regRead addr =>
    if bitOf (s.get R.SEC_DBG_STAT_PERM) 1 then let r := busRead s .jtag addr.toNat; r.2.send (.tdo r.1) else s
  | .regWrite addr v => busWrite s .jtag addr.toNat v.toNat

/-! ## Flags (R509, R511) -/

/-- A W1C write to IRQ_RAW meets bits that hardware sets in the same clock: the set wins (R509). -/
def rawClear (s : State) (page mask setting : Nat) : State :=
  let set := setting &&& irqMask page
  let s1 := if set = 0 then s else raiseEvents s page set
  let raw := s1.get R.IRQ_RAW page
  s1.set R.IRQ_RAW (raw - (raw &&& mask) ||| set) page

/-- The hold-off of a page's IRQ events ends (R511). -/
def holdoffEnd (s : State) (page : Nat) : State :=
  match smFind s.irqHold page with
  | none => s
  | some _ =>
    let s1 := { s with irqHold := smDel s.irqHold page }
    if s.irqStat page != 0 then s1.irqEvent page else s1

/-! ## Hod's producers (R233, R237, R309) -/

/-- Crops of Straightedge that wait to be written. -/
def cropsWaiting (s : State) : Nat := (s.outbox.filter (fun (o : OutPkt) => o.cls = 3 && o.prod = 6 && o.kind = 0x30)).length

/-- A packet has left its producer, `t` being the state after: Straightedge learns what became of its crops and events (R233, R237). -/
def hodCommitted1 (s : State) (n prod : Nat) (t : State) : State :=
  match hodOpenOf s n prod with
  | none => t
  | some o =>
    if (hodOpenOf t n prod).isSome then t
    else
      let seq := (hc s n).nextSeq
      let ok := (hc t n).pkts.any (fun (p : Pkt) => p.seq = seq && p.typ = prod * 256 + o.kind)
      let t1 := if n = 3 ∧ prod = 6 ∧ o.kind = 0x30 then insCropDone t (if ok then some seq else none) else t
      let t2 := if n = 0 ∧ prod = 6 ∧ ok = true then t1.inc R.INS_EVT_SENT else t1
      after (capWatch t2)

/-- A class 0 or 1 record is committed in the burst that writes it, so that none is open at a boundary (R361). -/
def hodShortCommit (s : State) (n prod : Nat) : State :=
  match hodOpenOf s n prod with
  | none => s
  | some o => if n < 2 ∧ 16 + o.payload.length ≤ o.written then hodCommitted1 s n prod (hodPacketCommit s n prod) else s

/-- HOD_PACKET_WRITE; a crop that the policy drops never comes (R233, R309). -/
def hodWrite (s : State) (n prod : Nat) : State :=
  let t := hodPacketWrite s n prod
  let dropped := decide (cropsWaiting t < cropsWaiting s) && (hodOpenOf t n prod).isNone
  after (capWatch (hodShortCommit (if dropped then insCropDone t none else t) n prod))

/-- HOD_TAIL_HOLD_EXPIRE (R366). -/
def hodHoldExpired (s : State) (n prod : Nat) : State := after (capWatch (hodShortCommit (hodTailHoldExpire s n prod) n prod))

/-! ## Small meanings -/

/-- SEG_PING_START: 50 ms after SEG_EN, the supply having been checked (R61 step 3). -/
def pingStart (s : State) (k : Nat) : State :=
  if (s.slice k).bring = .supply ∧ (s.slice k).supChecks = true then bringPing s k else s

/-- SEG_LINK_FRAME_DISCARD: what was received of the frame is gone; the request it would have answered stays as it was (R71). A frame comes
into the state only when it is whole. -/
def frameDiscard (s : State) (_k : Nat) : State := s

/-- MIGRATION_CHUNK, and the section's retirement with the last one (R330, R462). -/
def chunkMoved (s : State) : State :=
  if s.bit R.MC_STAT_RETRAIN_ACTIVE then s else
  let t := migrationChunk s
  match s.mc.migration with
  | some m => if t.mc.migration.isNone then sectionRetired t m.sect else t
  | none => t

/-- MON_THERMAL_READ: the readings, the trip (R445), a release that waited for cooling, and Primer's triggers (R428). -/
def thermalStep (s : State) (centi : List Int) : State :=
  let t := thermalRead s centi
  if (hottest t).any (fun (x : Nat × Int) => decide ((12500 : Int) ≤ x.2)) then (fullReset t 3).modPwr (fun x => { x with cooling := true })
  else after (calTrigger (if s.pwr.cooling then resetRelease t else t))

/-- SEC_UPD_CHECK_DONE; in recovery the ROM then resets (R478, R479). -/
def updateChecked (s : State) (norError : Bool) : State :=
  let r := updChecked s norError
  if r.2 then fullReset r.1 6 else r.1

/-- PD_INRUSH_TIMEOUT (R525). -/
def pdInrushLong (s : State) : State := pdOpen s 1

/-- PD_CURRENT_LIMIT (R525). -/
def pdLimited (s : State) : State := pdOpen s 2

end Sys2Proof.Machine
end

