-- ==== Sys2Proof/WellFormed.lean ====
section
/-! DEFINITION. Well-formed commands: an operand names a place that the block has, and a measurement has the length and range that its
source gives it. A command that is not well-formed cannot be sent; `exec` refuses it by name. -/
namespace Sys2Proof

/-- The register space has 4,096 pages (R496, R497). -/
def pageOk (page : Nat) : Bool := decide (page < 4096)

/-- Slices 0 to 23, ascending, each with the ten inputs of a slice (R95). -/
def tapsAscend : List (Nat × List TapIn) → Bool
  | a :: b :: l => decide (a.1 < b.1) && tapsAscend (b :: l)
  | _ => true

/-- A code of the 14-bit converter (R83), an estimate, a reference: in range. -/
def tapOk (t : TapIn) : Bool :=
  t.codes.all (fun c => decide (c.1 < 16384)) && (match t.clamp with | some c => decide (0 ≤ c) && decide (c < 16384) | none => true)

def tapsOk (taps : List (Nat × List TapIn)) : Bool :=
  tapsAscend taps && taps.all (fun t => decide (t.1 < 24) && decide (t.2.length ≤ 10) && t.2.all tapOk)

/-- A failed check of a lane names a slice, a row code and a 256-pixel block; a shading word a pixel of that block (R457, R461). -/
def lanesOk (l : List LaneBad) : Bool :=
  l.all (fun x => decide (x.slice < 24) && decide (x.row < 5) && decide (x.block < 48) &&
    match x.shade with | some p => decide (p / 256 = x.block) | none => true)

/-- Pending requests name inputs 0 to 13 of the DRAM port, one each (R317). -/
def reqsOk (l : List ArbReq) : Bool :=
  l.all (fun r => decide (r.input < 14)) && decide ((l.map (·.input)).Nodup)

/-- ECC errors of a read of `n` data blocks: at most one a block, in ascending order (R315, R332). -/
def eccOk (n : Nat) (l : List EccError) : Bool :=
  l.all (fun e => decide (e.block.val < n)) && (l.zip (l.drop 1)).all (fun p => decide (p.1.block < p.2.block))

/-- A producer code is one byte (R359). -/
def prodOk (p : Nat) : Bool := decide (p < 256)

/-- Thirty-two readings that a signed 16-bit field holds (R443, R467). -/
def thermOk (l : List Int) : Bool := decide (l.length = 32) && l.all (fun t => decide (-32768 ≤ t) && decide (t < 32768))

/-- A code of the 16-bit housekeeping converter, unsigned or signed (R450). -/
def codeOk (c : Int) : Bool := decide (-32768 ≤ c) && decide (c < 65536)

def codesOk (l : List Int) : Bool := decide (l.length ≤ 128) && l.all codeOk

/-- A command whose operands the block can be given. -/
def Instr.wf (i : Instr) : Bool :=
  match i with
  | .registerWrite _ _ _ => true
  | .modeReqIdle _ => true
  | .modeReqInspect _ _ => true
  | .modeReqCapture _ => true
  | .modeReqCalibrate _ => true
  | .modeReqService _ => true
  | .modeReqInvalid _ _ => true
  | .serviceEntryComplete => true
  | .idleRequestStillTimeout => true
  | .sysSectionCmd _ => true
  | .lineBoundary => true
  | .timingPbCommit _ => true
  | .pbLiveEditWrite _ _ _ _ count => decide (count < 65536)
  | .timingSegSync _ _ _ => true
  | .timingShdSync _ _ _ => true
  | .segEnStagger => true
  | .segSupplyWindow _ => true
  | .segPingStart _ => true
  | .segLedStable _ => true
  | .segEnDeassertDelay _ => true
  | .slcLinkRerun _ _ => true
  | .segIllumWriteStart _ _ => true
  | .segLinkResponse _ _ => true
  | .segLinkTimeout _ => true
  | .segLinkResend _ => true
  | .segLinkPingPoll _ => true
  | .segLedTempPoll _ => true
  | .supSenseAverage _ uv => uv != []
  | .supLoHoldExpire _ => true
  | .lineJudged _ taps faults => tapsOk taps && lanesOk faults.lanes
  | .suspectResolve _ _ => true
  | .openShortReexam _ _ => true
  | .shadowVisitEnd _ _ gain _ => decide (-32768 ≤ gain) && decide (gain < 65536)
  | .floatCaptureLine => true
  | .ringWritePlace _ => true
  | .scrimLineRead => true
  | .dfInQualify _ => true
  | .trkLineResult => true
  | .insEventSend => true
  | .insRateSecondEnd => true
  | .insCtrlHealthReq _ => true
  | .axisCmdStart _ _ => true
  | .axisCmdStop _ _ _ => true
  | .axisCmdHalt _ _ => true
  | .axisCmdHome _ _ => true
  | .axisCmdRearm _ _ => true
  | .axisCmdRephase _ _ => true
  | .axisCmdSetPos _ _ => true
  | .axisVelSel _ _ _ => true
  | .grpStart _ _ => true
  | .axisStep _ _ => true
  | .limRawEdge _ _ _ => true
  | .limQualify _ _ => true
  | .encEdge _ _ _ => true
  | .aonDrvLostSample _ _ => true
  | .drvFault _ => true
  | .drvReturn _ => true
  | .rephaseSettle _ => true
  | .motAdvPush _ => true
  | .motAdvFlush _ => true
  | .advTrigger => true
  | .advSettleDone => true
  | .advRecord => true
  | .advDeadlineMiss => true
  | .passSyncRise => true
  | .passSyncFall => true
  | .capPageStart _ => true
  | .capPageEnd _ => true
  | .capPauseCmd _ => true
  | .capResume _ => true
  | .capResumeForce _ => true
  | .pacingUpdate => true
  | .rungHighHold => true
  | .capFeedAtRest => true
  | .capBackupDone => true
  | .capLedStandby => true
  | .capStabiliseCheck => true
  | .capStabMax => true
  | .capStall => true
  | .arbRound reqs => reqsOk reqs
  | .arbWindowStart => true
  | .refreshDue => true
  | .arbWatchdog _ => true
  | .retrainDone => true
  | .dqsDrift _ _ => true
  | .migrationChunk => true
  | .scrubRead e _ => eccOk 2 e
  | .dmaStart _ _ => true
  | .dmaAbort _ _ => true
  | .dmaFetchDone _ _ => true
  | .dmaReadDone _ _ => true
  | .dmaWriteResponse _ _ => true
  | .hodPacketWrite _ prod => prodOk prod
  | .hodTailHoldExpire _ prod => prodOk prod
  | .hodPacketCommit _ prod => prodOk prod
  | .hodBadCommit _ prod => prodOk prod
  | .hodFlush _ _ => true
  | .hodLegData _ => true
  | .hodLegMark _ => true
  | .hodLegRewind _ => true
  | .hodLegRelease _ => true
  | .linkUp _ => true
  | .linkDown => true
  | .linkCtrlReneg _ => true
  | .dhcpTimeout => true
  | .lldpAllocation _ => true
  | .lldpWaitExpire => true
  | .auxPresent => true
  | .auxFail => true
  | .ptpMessage _ => true
  | .ptpAnnounceTimeout => true
  | .ptpLatch _ => true
  | .regRead _ _ _ => true
  | .regWrite _ _ _ => true
  | .regWriteBlock _ _ _ _ _ => true
  | .tableLoad _ _ _ _ _ => true
  | .tableCheckDone => true
  | .sysTblCmd _ => true
  | .attest _ _ => true
  | .attestSigned => true
  | .sessionOpen _ _ => true
  | .sessionKeepalive _ => true
  | .sessionClose _ => true
  | .sessionTimeout => true
  | .credit _ _ => true
  | .tyrexAck _ _ _ _ => true
  | .tyrexNack _ _ _ => true
  | .streamSend _ => true
  | .eventSend => true
  | .rtoExpire _ _ => true
  | .cpuWatchdog _ => true
  | .calCmdTileReady _ => true
  | .calRunStart => true
  | .calDarkWait => true
  | .calIllumSettle => true
  | .calCaptureDone => true
  | .calReticleRunDone => true
  | .calRunEnd => true
  | .calOverdue _ => true
  | .calRecordStore _ => true
  | .monThermalRead centi => thermOk centi
  | .monVoltageRead mv => decide (mv.length = 16) && mv.all (fun v => decide (v < 65536))
  | .monProcessRead ps => decide (ps.length = 6) && ps.all (fun v => decide (v < 1024))
  | .hkRefReady => true
  | .hkRunStart => true
  | .hkEntryDone _ codes sense _ => codesOk codes && codesOk sense
  | .hkUrgCmd _ => true
  | .hkUrgDone code _ => codeOk code
  | .bridgeWireTest _ _ _ _ => true
  | .laneVisitEnd _ _ => true
  | .sramUeRewrite _ _ _ => true
  | .wearSave => true
  | .secUpdBegin _ => true
  | .secUpdData _ _ => true
  | .secUpdFinish _ => true
  | .secUpdCheckDone _ => true
  | .secUpdAbort _ => true
  | .secUpdActivate _ => true
  | .secUpdConfirm _ _ => true
  | .ownerProv _ => true
  | .dbgUnlock _ => true
  | .dbgRelock _ => true
  | .dbgCmdRead _ => true
  | .dbgCmdWrite _ => true
  | .debugAccessDone e => eccOk 2 e
  | .pdInputRise => true
  | .pdInputFall => true
  | .pdInrushDone => true
  | .pdInrushTimeout => true
  | .pdCurrentLimit => true
  | .pdRetry => true
  | .converterStart => true
  | .converterFault _ => true
  | .converterRestart => true
  | .pdStatusFrame _ _ _ => true
  | .barrierFail => true
  | .railsGood => true
  | .resetRelease => true
  | .railFail _ => true
  | .rstLAssert => true
  | .rstLRelease => true
  | .pllLockLoss _ => true
  | .pllLocked _ => true
  | .aonCrystalStable => true
  | .domainPowerGood _ => true
  | .domainFault _ => true
  | .xingEvent _ _ _ => true
  | .blkSoftReset _ page => pageOk page
  | .softResetDone page => pageOk page
  | .blkFreeze _ page _ => pageOk page
  | .blkCntClear _ page => pageOk page
  | .blkErrClear _ page => pageOk page
  | .irqRawClear page _ _ => pageOk page
  | .irqSet _ page _ => pageOk page
  | .irqEvtHoldoffEnd page => pageOk page
  | .shadowCtrlHold page _ => pageOk page
  | .shadowCtrlCommit page => pageOk page
  | .shadowCtrlDiscard page => pageOk page
  | .lockAcquire _ _ => true
  | .lockRelease _ _ _ => true
  | .mgmtSpiFrame _ => true
  | .patternSlotStart _ => true
  | .passSyncRawEdge _ => true
  | .dfInRawEdge _ => true
  | .segLinkFrameDiscard _ => true
  | .linkFrameReceive _ => true
  | .linkAttemptFail _ => true
  | .classificationEvent _ => true
  | .xingTransferDone _ _ => true
  | .loRegisterRead _ _ => true
  | .dramTransactionDone e => eccOk 64 e
  | .genParityError _ _ => true
  | .dramDieTemperature _ _ => true
  | .sramRepairDone _ _ _ => true
  | .fillerRetestDone _ _ => true
  | .hkEntryStale _ => true
  | .jtagScan _ => true

end Sys2Proof
end

