-- ==== Sys2Proof/Machine/ExecCal.lean ====
section
/-! DEFINITION. Meanings: calibration (chapter 13). -/
namespace Sys2Proof.Machine
open Sys2Proof

/-- CAL_CMD_TILE_READY (R422). -/
def execCalCmdTileReady (ag : Agent) (s : State) : Host.Outcome State Fault Refusal :=
  ran s (gate s ag pgCAL 0x044 0x100 (fun t => after (calTileReady t)))

/-- CAL_RUN_START (R429). -/
def execCalRunStart (s : State) : Host.Outcome State Fault Refusal :=
  ran s (calStart s)

/-- CAL_DARK_WAIT (R423). -/
def execCalDarkWait (s : State) : Host.Outcome State Fault Refusal :=
  ran s (calDarkWait s)

/-- CAL_ILLUM_SETTLE (R424). -/
def execCalIllumSettle (s : State) : Host.Outcome State Fault Refusal :=
  ran s (calSettled s)

/-- CAL_CAPTURE_DONE (R424, R433). -/
def execCalCaptureDone (s : State) : Host.Outcome State Fault Refusal :=
  ran s (after (calCaptureDone s))

/-- CAL_RETICLE_RUN_DONE (R425, R433). -/
def execCalReticleRunDone (s : State) : Host.Outcome State Fault Refusal :=
  ran s (after (calReticleDone s))

/-- CAL_RUN_END (R432, R35). -/
def execCalRunEnd (s : State) : Host.Outcome State Fault Refusal :=
  ran s (calRunOver s)

/-- CAL_OVERDUE (R429). -/
def execCalOverdue (kind : Fin 5) (s : State) : Host.Outcome State Fault Refusal :=
  ran s (calOverdueNow s kind.val)

/-- CAL_RECORD_STORE (R436, R462). -/
def execCalRecordStore (ok : Bool) (s : State) : Host.Outcome State Fault Refusal :=
  ran s (recordWritten s ok)

end Sys2Proof.Machine
end

