-- ==== Sys2Proof/Machine/ExecCap.lean ====
section
/-! DEFINITION. Meanings: the capture (chapter 9). -/
namespace Sys2Proof.Machine
open Sys2Proof

/-- CAP_PAGE_START (R286). -/
def execCapPageStart (ag : Agent) (s : State) : Host.Outcome State Fault Refusal :=
  ran s (gate s ag pgCAP 0x05C 1 (fun t => cmdCap t 1))

/-- CAP_PAGE_END (R286). -/
def execCapPageEnd (ag : Agent) (s : State) : Host.Outcome State Fault Refusal :=
  ran s (gate s ag pgCAP 0x05C 2 (fun t => cmdCap t 2))

/-- CAP_PAUSE (R303). -/
def execCapPauseCmd (ag : Agent) (s : State) : Host.Outcome State Fault Refusal :=
  ran s (gate s ag pgCAP 0x05C 3 (fun t => cmdCap t 3))

/-- CAP_RESUME (R304). -/
def execCapResume (ag : Agent) (s : State) : Host.Outcome State Fault Refusal :=
  ran s (gate s ag pgCAP 0x05C 4 (fun t => cmdCap t 4))

/-- CAP_RESUME_FORCE (R304). -/
def execCapResumeForce (ag : Agent) (s : State) : Host.Outcome State Fault Refusal :=
  ran s (gate s ag pgCAP 0x05C 5 (fun t => cmdCap t 5))

/-- PACING_UPDATE (R298). -/
def execPacingUpdate (s : State) : Host.Outcome State Fault Refusal :=
  ran s (capPacing s)

/-- RUNG_HIGH_HOLD (R300). -/
def execRungHighHold (s : State) : Host.Outcome State Fault Refusal :=
  ran s (capHighHold s)

/-- CAP_FEED_AT_REST (R303). -/
def execCapFeedAtRest (s : State) : Host.Outcome State Fault Refusal :=
  ran s (after (capFeedRest s))

/-- CAP_BACKUP_DONE (R303). -/
def execCapBackupDone (s : State) : Host.Outcome State Fault Refusal :=
  ran s (after (capBackupEnd s))

/-- CAP_LED_STANDBY (R307). -/
def execCapLedStandby (s : State) : Host.Outcome State Fault Refusal :=
  ran s (capStandby s)

/-- CAP_STABILISE_CHECK (R307). -/
def execCapStabiliseCheck (s : State) : Host.Outcome State Fault Refusal :=
  ran s (after (capStabilise s))

/-- CAP_STAB_MAX (R307). -/
def execCapStabMax (s : State) : Host.Outcome State Fault Refusal :=
  ran s (capStabExpire s)

/-- CAP_STALL (R308). -/
def execCapStall (s : State) : Host.Outcome State Fault Refusal :=
  ran s (capStallExpire s)

end Sys2Proof.Machine
end

