-- ==== Sys2Proof/Machine/ExecDram.lean ====
section
/-! DEFINITION. Meanings: the DRAM port, DMA and Hod (chapters 10 and 11). -/
namespace Sys2Proof.Machine
open Sys2Proof

/-- ARB_ROUND (R319). -/
def execArbRound (reqs : List ArbReq) (s : State) : Host.Outcome State Fault Refusal :=
  ranIf (reqsOk reqs) "ARB_ROUND" s (arbRound s reqs)

/-- ARB_WINDOW_START (R320). -/
def execArbWindowStart (s : State) : Host.Outcome State Fault Refusal :=
  ran s (arbWindowStart s)

/-- REFRESH_DUE (R324). -/
def execRefreshDue (s : State) : Host.Outcome State Fault Refusal :=
  ran s (refreshDue s)

/-- ARB_WATCHDOG (R325). -/
def execArbWatchdog (moved : Nat) (s : State) : Host.Outcome State Fault Refusal :=
  ran s (after (arbWatchdog s moved))

/-- RETRAIN_DONE (R329, R371, R547). -/
def execRetrainDone (s : State) : Host.Outcome State Fault Refusal :=
  ran s (after (trainingDone s))

/-- DQS_DRIFT (R329). -/
def execDqsDrift (ps : Nat) (limit : Nat) (s : State) : Host.Outcome State Fault Refusal :=
  ran s (dqsDrift s ps limit)

/-- MIGRATION_CHUNK (R330, R462). -/
def execMigrationChunk (s : State) : Host.Outcome State Fault Refusal :=
  ran s (chunkMoved s)

/-- SCRUB_READ (R331). -/
def execScrubRead (errs : List EccError) (writtenSince : Bool) (s : State) : Host.Outcome State Fault Refusal :=
  ranIf (eccOk 2 errs) "SCRUB_READ" s (scrubRead s errs writtenSince)

/-- DRAM_TRANSACTION_DONE (R325, R333). -/
def execDramTransactionDone (errs : List EccError) (s : State) : Host.Outcome State Fault Refusal :=
  ranIf (eccOk 64 errs) "DRAM_TRANSACTION_DONE" s (dramDone s errs)

/-- DRAM_DIE_TEMPERATURE (R329). -/
def execDramDieTemperature (die : Fin 2) (centi : Int) (s : State) : Host.Outcome State Fault Refusal :=
  ran s (dramDieTemperature s die.val centi)

/-- DEBUG_ACCESS_DONE (R324, R523). -/
def execDebugAccessDone (errs : List EccError) (s : State) : Host.Outcome State Fault Refusal :=
  ranIf (eccOk 2 errs) "DEBUG_ACCESS_DONE" s (debugDone s errs)

/-- DMA_START (R340). -/
def execDmaStart (ag : Agent) (c : Fin 16) (s : State) : Host.Outcome State Fault Refusal :=
  ran s (gate s ag (pgDMACH c.val) 0x048 1 (fun t => dmaStart t ag c.val))

/-- DMA_ABORT (R354). -/
def execDmaAbort (ag : Agent) (c : Fin 16) (s : State) : Host.Outcome State Fault Refusal :=
  ran s (gate s ag (pgDMACH c.val) 0x048 2 (fun t => dmaAbort t c.val))

/-- DMA_FETCH_DONE (R347). -/
def execDmaFetchDone (c : Fin 16) (err : Bool) (s : State) : Host.Outcome State Fault Refusal :=
  ran s (dmaFetchDone s c.val err)

/-- DMA_READ_DONE (R346). -/
def execDmaReadDone (c : Fin 16) (err : Option (BitVec 34)) (s : State) : Host.Outcome State Fault Refusal :=
  ran s (dmaReadDone s c.val (err.map (fun (a : BitVec 34) => a.toNat)))

/-- DMA_WRITE_RESPONSE (R351). -/
def execDmaWriteResponse (c : Fin 16) (err : Bool) (s : State) : Host.Outcome State Fault Refusal :=
  ran s (dmaWriteResponse s c.val err)

/-- HOD_PACKET_WRITE (R361, R309). -/
def execHodPacketWrite (cls : Fin 4) (prod : Nat) (s : State) : Host.Outcome State Fault Refusal :=
  ranIf (prodOk prod) "HOD_PACKET_WRITE" s (hodWrite s cls.val prod)

/-- HOD_TAIL_HOLD_EXPIRE (R366). -/
def execHodTailHoldExpire (cls : Fin 4) (prod : Nat) (s : State) : Host.Outcome State Fault Refusal :=
  ranIf (prodOk prod) "HOD_TAIL_HOLD_EXPIRE" s (hodHoldExpired s cls.val prod)

/-- HOD_PACKET_COMMIT (R361, R233). -/
def execHodPacketCommit (cls : Fin 4) (prod : Nat) (s : State) : Host.Outcome State Fault Refusal :=
  ranIf (prodOk prod) "HOD_PACKET_COMMIT" s (hodCommitted1 s cls.val prod (hodPacketCommit s cls.val prod))

/-- HOD_BAD_COMMIT (R361). -/
def execHodBadCommit (cls : Fin 4) (prod : Nat) (s : State) : Host.Outcome State Fault Refusal :=
  ranIf (prodOk prod) "HOD_BAD_COMMIT" s (hodCommitted1 s cls.val prod (hodBadCommit s cls.val prod))

/-- HOD_FLUSH (R372). -/
def execHodFlush (ag : Agent) (mask : BitVec 4) (s : State) : Host.Outcome State Fault Refusal :=
  ran s (gate s ag pgHOD 0x060 mask.toNat (fun t => after (capWatch (hodFlush t mask.toNat))))

/-- HOD_LEG_DATA (R375). -/
def execHodLegData (ag : Agent) (s : State) : Host.Outcome State Fault Refusal :=
  ran s (readOut s ag (pgHOD * 0x1000 + 0x100))

/-- HOD_LEG_MARK (R375). -/
def execHodLegMark (ag : Agent) (s : State) : Host.Outcome State Fault Refusal :=
  ran s (gate s ag pgHOD 0x108 1 hodLegMark)

/-- HOD_LEG_REWIND (R375). -/
def execHodLegRewind (ag : Agent) (s : State) : Host.Outcome State Fault Refusal :=
  ran s (gate s ag pgHOD 0x108 2 hodLegRewind)

/-- HOD_LEG_RELEASE (R375). -/
def execHodLegRelease (ag : Agent) (s : State) : Host.Outcome State Fault Refusal :=
  ran s (gate s ag pgHOD 0x108 3 (fun t => after (capWatch (hodLegRelease t))))

end Sys2Proof.Machine
end

