-- ==== Sys2Proof/Machine/ExecHealth.lean ====
section
/-! DEFINITION. Meanings: sensors, bridges, spare lanes and repair (chapter 14). -/
namespace Sys2Proof.Machine
open Sys2Proof

/-- MON_THERMAL_READ (R443, R428, R444, R445, R545). -/
def execMonThermalRead (centi : List Int) (s : State) : Host.Outcome State Fault Refusal :=
  ranIf (thermOk centi) "MON_THERMAL_READ" s (thermalStep s centi)

/-- MON_VOLTAGE_READ (R446). -/
def execMonVoltageRead (mv : List Nat) (s : State) : Host.Outcome State Fault Refusal :=
  ranIf (decide (mv.length = 16) && mv.all (fun (v : Nat) => decide (v < 65536))) "MON_VOLTAGE_READ" s (voltageRead s mv)

/-- MON_PROCESS_READ (R447). -/
def execMonProcessRead (ps : List Nat) (s : State) : Host.Outcome State Fault Refusal :=
  ranIf (decide (ps.length = 6) && ps.all (fun (v : Nat) => decide (v < 1024))) "MON_PROCESS_READ" s (processRead s ps)

/-- HK_REF_READY (R448). -/
def execHkRefReady (s : State) : Host.Outcome State Fault Refusal :=
  ran s (hkRefReady s)

/-- HK_RUN_START (R449). -/
def execHkRunStart (s : State) : Host.Outcome State Fault Refusal :=
  ran s (hkRunDue s)

/-- HK_ENTRY_DONE (R450, R428, R455). -/
def execHkEntryDone (e : Fin 16) (codes : List Int) (sense : List Int) (inTest : Bool) (s : State) : Host.Outcome State Fault Refusal :=
  ranIf (codesOk codes && codesOk sense) "HK_ENTRY_DONE" s (after (calTrigger (hkEntryEnd s e.val codes sense inTest)))

/-- HK_ENTRY_STALE (R450). -/
def execHkEntryStale (e : Fin 16) (s : State) : Host.Outcome State Fault Refusal :=
  ran s (hkStale s e.val)

/-- HK_URG_CMD (R452). -/
def execHkUrgCmd (ag : Agent) (s : State) : Host.Outcome State Fault Refusal :=
  ran s (gate s ag pgHK 0x048 0x100 hkUrgent)

/-- HK_URG_DONE (R452). -/
def execHkUrgDone (code : Int) (agoNs : Nat) (s : State) : Host.Outcome State Fault Refusal :=
  ranIf (codeOk code) "HK_URG_DONE" s (hkUrgentDone s code agoNs)

/-- BRIDGE_WIRE_TEST (R456). -/
def execBridgeWireTest (b : Fin 2) (exc sns sig : Bool) (s : State) : Host.Outcome State Fault Refusal :=
  ran s (bridgeTest s b.val exc sns sig)

/-- LANE_VISIT_END (R458). -/
def execLaneVisitEnd (c : Fin 6) (mismatch : Bool) (s : State) : Host.Outcome State Fault Refusal :=
  ran s (laneVisit s c.val mismatch)

/-- SRAM_UE_REWRITE (R461). -/
def execSramUeRewrite (k : Fin 24) (role : Fin 5) (pixel : Fin 12288) (s : State) : Host.Outcome State Fault Refusal :=
  ran s (shadingRewrite s k.val role.val pixel.val)

/-- SRAM_REPAIR_DONE (R461). -/
def execSramRepairDone (repairs : BitVec 8) (banks : BitVec 4) (failed : BitVec 24) (s : State) : Host.Outcome State Fault Refusal :=
  ran s (repairOver s repairs.toNat banks.toNat failed.toNat)

/-- FILLER_RETEST_DONE (R463). -/
def execFillerRetestDone (part : FillerPart) (pass : Bool) (s : State) : Host.Outcome State Fault Refusal :=
  ran s (retestDone s part pass)

/-- WEAR_SAVE (R464). -/
def execWearSave (s : State) : Host.Outcome State Fault Refusal :=
  ran s (wearSave s)

end Sys2Proof.Machine
end

