-- ==== Sys2Proof/Machine/ExecLine.lean ====
section
/-! DEFINITION. Meanings: the pattern, the line and its judging, Float, Scrim, Plumb and Lap (chapters 2, 3, 4 and 5). -/
namespace Sys2Proof.Machine
open Sys2Proof

/-- LINE_BOUNDARY (R63, R33, R39, R64, R106, R296, R459). -/
def execLineBoundary (s : State) : Host.Outcome State Fault Refusal :=
  ran s (lineBoundary s)

/-- TIMING_PB_COMMIT (R64). -/
def execTimingPbCommit (ag : Agent) (s : State) : Host.Outcome State Fault Refusal :=
  ran s (gateNow s ag pgTIMING R.TIMING_PB_COMMIT.off cmdPbCommit)

/-- PB_LIVE_EDIT_WRITE (R68). -/
def execPbLiveEditWrite (ag : Agent) (slot : Fin 64) (upper : Bool) (v : Word) (count : Nat) (s : State) : Host.Outcome State Fault Refusal :=
  ranIf (decide (count < 65536)) "PB_LIVE_EDIT_WRITE" s (gateWord s ag pgTIMING (0x400 + 0x200 * liveBank s + 8 * slot.val + 4 * b2n upper) v.toNat (fun t => cmdBank t (liveBank t) (2 * slot.val + b2n upper) v.toNat count))

/-- TIMING_SEG_SYNC (R56, R58). -/
def execTimingSegSync (ag : Agent) (mask : BitVec 24) (atBoundary : Bool) (s : State) : Host.Outcome State Fault Refusal :=
  ran s (gateNow s ag pgTIMING R.TIMING_SEG_SYNC.off (fun t => cmdSegSync t mask.toNat atBoundary))

/-- TIMING_SHD_SYNC (R120). -/
def execTimingShdSync (ag : Agent) (mask : BitVec 24) (atBoundary : Bool) (s : State) : Host.Outcome State Fault Refusal :=
  ran s (gateNow s ag pgTIMING R.TIMING_SHD_SYNC.off (fun t => cmdShdSync t mask.toNat atBoundary))

/-- PATTERN_SLOT_START (R62). -/
def execPatternSlotStart (slot : Fin 64) (s : State) : Host.Outcome State Fault Refusal :=
  ran s (slotStart s slot.val)

/-- LINE_JUDGED (R97, R98, R104, R457, R461). -/
def execLineJudged (wrapped : Bool) (taps : List (Nat × List TapIn)) (faults : LineFaults) (s : State) :
    Host.Outcome State Fault Refusal :=
  ranIf (tapsOk taps && lanesOk faults.lanes) "LINE_JUDGED" s (lineJudged s wrapped taps faults.lanes faults.ce)

/-- SUSPECT_RESOLVE (R99). -/
def execSuspectResolve (k : Fin 24) (c : Fin 10) (s : State) : Host.Outcome State Fault Refusal :=
  ran s (after (suspectResolve s k.val c.val))

/-- OPEN_SHORT_REEXAM (R100). -/
def execOpenShortReexam (k : Fin 24) (c : Fin 10) (s : State) : Host.Outcome State Fault Refusal :=
  ran s (openShortReexam s k.val c.val)

/-- SHADOW_VISIT_END (R105). -/
def execShadowVisitEnd (k : Fin 24) (spare : Fin 2) (gain : Int) (ofs : Int) (s : State) : Host.Outcome State Fault Refusal :=
  ranIf (decide (-32768 ≤ gain) && decide (gain < 65536)) "SHADOW_VISIT_END" s (shadowVisitEnd s k.val spare.val gain ofs)

/-- FLOAT_CAPTURE_LINE (R128). -/
def execFloatCaptureLine (s : State) : Host.Outcome State Fault Refusal :=
  ran s (lineFloated s)

/-- RING_WRITE_PLACE (R138). -/
def execRingWritePlace (k : Fin 24) (s : State) : Host.Outcome State Fault Refusal :=
  ran s (ringPlace s k.val)

/-- SCRIM_LINE_READ (R44, R43, R145). -/
def execScrimLineRead (s : State) : Host.Outcome State Fault Refusal :=
  ran s (lineRead s)

/-- DF_IN_QUALIFY (R169). -/
def execDfInQualify (level : Bool) (s : State) : Host.Outcome State Fault Refusal :=
  ran s (dfStood s level)

/-- DF_IN_RAW_EDGE (R169). -/
def execDfInRawEdge (level : Bool) (s : State) : Host.Outcome State Fault Refusal :=
  ran s (dfRawEdge s level)

/-- TRK_LINE_RESULT (R187). -/
def execTrkLineResult (s : State) : Host.Outcome State Fault Refusal :=
  ran s (lineTracked s)

/-- INS_EVENT_SEND (R233). -/
def execInsEventSend (s : State) : Host.Outcome State Fault Refusal :=
  ran s (insEventSend s)

/-- INS_RATE_SECOND_END (R234). -/
def execInsRateSecondEnd (s : State) : Host.Outcome State Fault Refusal :=
  ran s (insRateEnd s)

/-- INS_CTRL_HEALTH_REQ (R226). -/
def execInsCtrlHealthReq (ag : Agent) (s : State) : Host.Outcome State Fault Refusal :=
  ran s (gate s ag pgINS 0x040 0x100 healthSend)

end Sys2Proof.Machine
end

