-- ==== Sys2Proof/Machine/ExecLink.lean ====
section
/-! DEFINITION. Meanings: the host link, power over the cable, time and Tyrex (chapter 12). -/
namespace Sys2Proof.Machine
open Sys2Proof

/-- LINK_UP (R383, R408, R413). -/
def execLinkUp (speed : Fin 5) (s : State) : Host.Outcome State Fault Refusal :=
  ran s (lldpSend (linkComesUp s speed.val))

/-- LINK_DOWN (R383). -/
def execLinkDown (s : State) : Host.Outcome State Fault Refusal :=
  ran s (linkGoesDown s)

/-- LINK_CTRL_RENEG (R379). -/
def execLinkCtrlReneg (ag : Agent) (s : State) : Host.Outcome State Fault Refusal :=
  ran s (gateNow s ag pgLINK R.LINK_CTRL_RENEG.off (fun t => t.set R.LINK_CTRL_RENEG 1))

/-- LINK_ATTEMPT_FAIL (R381). -/
def execLinkAttemptFail (speed : Fin 5) (s : State) : Host.Outcome State Fault Refusal :=
  ran s (linkAttempt s speed.val)

/-- LINK_FRAME_RECEIVE (R382, R380). -/
def execLinkFrameReceive (f : RxFrame) (s : State) : Host.Outcome State Fault Refusal :=
  ran s (frameIn s f)

/-- DHCP_TIMEOUT (R382). -/
def execDhcpTimeout (s : State) : Host.Outcome State Fault Refusal :=
  ran s (dhcpNone s)

/-- LLDP_ALLOCATION (R389, R390). -/
def execLldpAllocation (mw : BitVec 17) (s : State) : Host.Outcome State Fault Refusal :=
  ran s (after (lldpAlloc s mw.toNat))

/-- LLDP_WAIT_EXPIRE (R389). -/
def execLldpWaitExpire (s : State) : Host.Outcome State Fault Refusal :=
  ran s (after (poeWaitOver s))

/-- AUX_PRESENT (R387). -/
def execAuxPresent (s : State) : Host.Outcome State Fault Refusal :=
  ran s (after (auxOn s))

/-- AUX_FAIL (R387). -/
def execAuxFail (s : State) : Host.Outcome State Fault Refusal :=
  ran s (after (auxOff s))

/-- CLASSIFICATION_EVENT (R384). -/
def execClassificationEvent (autoclass : Bool) (s : State) : Host.Outcome State Fault Refusal :=
  ran s (pdClassify s autoclass)

/-- PTP_MESSAGE (R392). -/
def execPtpMessage (m : PtpMsg) (s : State) : Host.Outcome State Fault Refusal :=
  ran s (ptpIn s m)

/-- PTP_ANNOUNCE_TIMEOUT (R394). -/
def execPtpAnnounceTimeout (s : State) : Host.Outcome State Fault Refusal :=
  ran s (ptpSilent s)

/-- PTP_LATCH (R418). -/
def execPtpLatch (ag : Agent) (s : State) : Host.Outcome State Fault Refusal :=
  ran s (gate s ag pgPTP 0x054 1 ptpLatchTime)

/-- REG_READ (R399, R400, R401, R402). -/
def execRegRead (h : Hdr) (addr : BitVec 32) (count : BitVec 16) (s : State) : Host.Outcome State Fault Refusal :=
  ran s (ctlIn s h (.regRead addr.toNat count.toNat))

/-- REG_WRITE (R399, R400, R401). -/
def execRegWrite (h : Hdr) (addr : BitVec 32) (v : Word) (s : State) : Host.Outcome State Fault Refusal :=
  ran s (ctlIn s h (.regWrite addr.toNat v.toNat))

/-- REG_WRITE_BLOCK (R401, R399, R400). -/
def execRegWriteBlock (h : Hdr) (addr : BitVec 32) (count : BitVec 16) (fixed : Bool) (words : List Word) (s : State) : Host.Outcome State Fault Refusal :=
  ran s (ctlIn s h (.regBlock addr.toNat count.toNat fixed (words.map (fun (w : Word) => w.toNat))))

/-- TABLE_LOAD (R403, R399). -/
def execTableLoad (h : Hdr) (dest : BitVec 64) (offset total : BitVec 32) (image : List Byte) (s : State) : Host.Outcome State Fault Refusal :=
  ran s (ctlIn s h (.tableLoad dest.toNat offset.toNat total.toNat image))

/-- ATTEST (R488, R402). -/
def execAttest (h : Hdr) (nonce : List Byte) (s : State) : Host.Outcome State Fault Refusal :=
  ran s (ctlIn s h (.attest nonce))

/-- ATTEST_SIGNED (R488, R486). -/
def execAttestSigned (s : State) : Host.Outcome State Fault Refusal :=
  ran s (quoteDone s)

/-- SESSION_OPEN (R408, R401). -/
def execSessionOpen (h : Hdr) (port : BitVec 16) (s : State) : Host.Outcome State Fault Refusal :=
  ran s (openIn s h port.toNat)

/-- SESSION_KEEPALIVE (R408, R402). -/
def execSessionKeepalive (h : Hdr) (s : State) : Host.Outcome State Fault Refusal :=
  ran s (ctlIn s h .keepalive)

/-- SESSION_CLOSE (R409, R408). -/
def execSessionClose (h : Hdr) (s : State) : Host.Outcome State Fault Refusal :=
  ran s (ctlIn s h .close)

/-- SESSION_TIMEOUT (R409). -/
def execSessionTimeout (s : State) : Host.Outcome State Fault Refusal :=
  ran s (sessionSilent s)

/-- CREDIT (R405). -/
def execCredit (h : Hdr) (limit : BitVec 32) (s : State) : Host.Outcome State Fault Refusal :=
  ran s (msgIn s streamPorts h (fun t => creditIn t limit.toNat))

/-- TYREX_ACK (R406, R367). -/
def execTyrexAck (h : Hdr) (cls : Fin 4) (upto : BitVec 32) (bitmap : BitVec 256) (s : State) : Host.Outcome State Fault Refusal :=
  ran s (msgIn s eitherPorts h (fun t => ackIn t cls.val upto.toNat bitmap.toNat))

/-- TYREX_NACK (R407). -/
def execTyrexNack (h : Hdr) (cls : Fin 4) (ranges : List (BitVec 32 × BitVec 32)) (s : State) : Host.Outcome State Fault Refusal :=
  ran s (msgIn s eitherPorts h (fun t => nackIn t cls.val (ranges.map (fun (r : BitVec 32 × BitVec 32) => (r.1.toNat, r.2.toNat)))))

/-- STREAM_SEND (R404, R358, R405, R407). -/
def execStreamSend (cls : Fin 4) (s : State) : Host.Outcome State Fault Refusal :=
  ran s (streamSend s cls.val)

/-- EVENT_SEND (R404, R358, R407). -/
def execEventSend (s : State) : Host.Outcome State Fault Refusal :=
  ran s (eventSend s)

/-- RTO_EXPIRE (R407). -/
def execRtoExpire (cls : Fin 4) (seq : BitVec 32) (s : State) : Host.Outcome State Fault Refusal :=
  ran s (rtoExpire s cls.val seq.toNat)

end Sys2Proof.Machine
end

