-- ==== Sys2Proof/Machine/ExecPower.lean ====
section
/-! DEFINITION. Meanings: power entry, rails, reset, clocks, domains and crossings (chapter 17). -/
namespace Sys2Proof.Machine
open Sys2Proof

/-- PD_INPUT_RISE (R525). -/
def execPdInputRise (s : State) : Host.Outcome State Fault Refusal :=
  ran s (pdRise s)

/-- PD_INPUT_FALL (R525). -/
def execPdInputFall (s : State) : Host.Outcome State Fault Refusal :=
  ran s (after (pdFall s))

/-- PD_INRUSH_DONE (R525). -/
def execPdInrushDone (s : State) : Host.Outcome State Fault Refusal :=
  ran s (pdInrush s)

/-- PD_INRUSH_TIMEOUT (R525). -/
def execPdInrushTimeout (s : State) : Host.Outcome State Fault Refusal :=
  ran s (after (pdInrushLong s))

/-- PD_CURRENT_LIMIT (R525). -/
def execPdCurrentLimit (s : State) : Host.Outcome State Fault Refusal :=
  ran s (after (pdLimited s))

/-- PD_RETRY (R525). -/
def execPdRetry (s : State) : Host.Outcome State Fault Refusal :=
  ran s (pdRetryNow s)

/-- CONVERTER_START (R526). -/
def execConverterStart (s : State) : Host.Outcome State Fault Refusal :=
  ran s (convStart s)

/-- CONVERTER_FAULT (R526). -/
def execConverterFault (overTemp : Bool) (s : State) : Host.Outcome State Fault Refusal :=
  ran s (after (convFault s overTemp))

/-- CONVERTER_RESTART (R526). -/
def execConverterRestart (s : State) : Host.Outcome State Fault Refusal :=
  ran s (convRestart s)

/-- PD_STATUS_FRAME (R528). -/
def execPdStatusFrame (vin iin : BitVec 16) (busGood : Bool) (s : State) : Host.Outcome State Fault Refusal :=
  ran s (after (pdFrame s vin.toNat iin.toNat busGood))

/-- BARRIER_FAIL (R528). -/
def execBarrierFail (s : State) : Host.Outcome State Fault Refusal :=
  ran s (barrierLost s)

/-- RAILS_GOOD (R530). -/
def execRailsGood (s : State) : Host.Outcome State Fault Refusal :=
  ran s (railsGood s)

/-- RESET_RELEASE (R543). -/
def execResetRelease (s : State) : Host.Outcome State Fault Refusal :=
  ran s (resetRelease s)

/-- RAIL_FAIL (R530). -/
def execRailFail (rail : Fin 12) (s : State) : Host.Outcome State Fault Refusal :=
  ran s (railFail s rail.val)

/-- RST_L_ASSERT (R546). -/
def execRstLAssert (s : State) : Host.Outcome State Fault Refusal :=
  ran s (rstLow s)

/-- RST_L_RELEASE (R546). -/
def execRstLRelease (s : State) : Host.Outcome State Fault Refusal :=
  ran s (rstHigh s)

/-- PLL_LOCK_LOSS (R537). -/
def execPllLockLoss (pll : Fin 11) (s : State) : Host.Outcome State Fault Refusal :=
  ran s (after (pllLost s pll.val))

/-- PLL_LOCKED (R537; R477 where it is the last of a start-up). -/
def execPllLocked (lock : PllLock) (s : State) : Host.Outcome State Fault Refusal :=
  ran s (after (pllLocks s lock.pll.val lock.nor))

/-- AON_CRYSTAL_STABLE (R537). -/
def execAonCrystalStable (s : State) : Host.Outcome State Fault Refusal :=
  ran s (crystalStable s)

/-- DOMAIN_POWER_GOOD (R535, R543). -/
def execDomainPowerGood (d : Fin 80) (s : State) : Host.Outcome State Fault Refusal :=
  ran s (after (domGood s d.val))

/-- DOMAIN_FAULT (R536). -/
def execDomainFault (d : Fin 80) (s : State) : Host.Outcome State Fault Refusal :=
  ran s (domFault s d.val)

/-- XING_EVENT (R542). -/
def execXingEvent (src dst : Fin 14) (ackPhase : Bool) (s : State) : Host.Outcome State Fault Refusal :=
  ran s (xingEvent s src.val dst.val ackPhase)

/-- XING_TRANSFER_DONE (R542). -/
def execXingTransferDone (src dst : Fin 14) (s : State) : Host.Outcome State Fault Refusal :=
  ran s (xingDone s src.val dst.val)

/-- CPU_WATCHDOG (R543, R28, R514). -/
def execCpuWatchdog (cpu : Fin 2) (s : State) : Host.Outcome State Fault Refusal :=
  ran s (cpuWatchdog s cpu.val)

end Sys2Proof.Machine
end

