-- ==== Sys2Proof/Machine/ExecRoller.lean ====
section
/-! DEFINITION. Meanings: Roller (chapter 8). -/
namespace Sys2Proof.Machine
open Sys2Proof

/-- AXIS_CMD_START (R247). -/
def execAxisCmdStart (ag : Agent) (a : Fin 6) (s : State) : Host.Outcome State Fault Refusal :=
  ran s (gate s ag (pgAXIS a.val) 0x040 1 (fun t => cmdAxis t a.val 1 none))

/-- AXIS_CMD_STOP (R251). -/
def execAxisCmdStop (ag : Agent) (a : Fin 6) (tbl : Option (Fin 64)) (s : State) : Host.Outcome State Fault Refusal :=
  ran s (gate s ag (pgAXIS a.val) 0x040 (2 + (match tbl with | some t => 0x4000 + 256 * t.val | none => 0)) (fun u => cmdAxis u a.val 2 (tbl.map (fun (t : Fin 64) => t.val))))

/-- AXIS_CMD_HALT (R252). -/
def execAxisCmdHalt (ag : Agent) (a : Fin 6) (s : State) : Host.Outcome State Fault Refusal :=
  ran s (gate s ag (pgAXIS a.val) 0x040 3 (fun t => cmdAxis t a.val 3 none))

/-- AXIS_CMD_HOME (R258). -/
def execAxisCmdHome (ag : Agent) (a : Fin 6) (s : State) : Host.Outcome State Fault Refusal :=
  ran s (gate s ag (pgAXIS a.val) 0x040 4 (fun t => cmdAxis t a.val 4 none))

/-- AXIS_CMD_REARM (R259). -/
def execAxisCmdRearm (ag : Agent) (a : Fin 6) (s : State) : Host.Outcome State Fault Refusal :=
  ran s (gate s ag (pgAXIS a.val) 0x040 5 (fun t => cmdAxis t a.val 5 none))

/-- AXIS_CMD_REPHASE (R263). -/
def execAxisCmdRephase (ag : Agent) (a : Fin 6) (s : State) : Host.Outcome State Fault Refusal :=
  ran s (gate s ag (pgAXIS a.val) 0x040 6 (fun t => cmdAxis t a.val 6 none))

/-- AXIS_CMD_SET_POS (R282). -/
def execAxisCmdSetPos (ag : Agent) (a : Fin 6) (s : State) : Host.Outcome State Fault Refusal :=
  ran s (gate s ag (pgAXIS a.val) 0x040 7 (fun t => cmdAxis t a.val 7 none))

/-- AXIS_VEL_SEL (R250). -/
def execAxisVelSel (ag : Agent) (a : Fin 6) (v : Word) (s : State) : Host.Outcome State Fault Refusal :=
  ran s (gateWord s ag (pgAXIS a.val) 0x050 v.toNat (fun t => after (axisVelSel t a.val v.toNat)))

/-- GRP_START (R253). -/
def execGrpStart (ag : Agent) (g : Fin 2) (s : State) : Host.Outcome State Fault Refusal :=
  ran s (gate s ag pgMOT 0x110 (2 ^ g.val) (fun t => after (groupStart t g.val)))

/-- AXIS_STEP (R239, R247). -/
def execAxisStep (a : Fin 6) (ballOk : Bool) (s : State) : Host.Outcome State Fault Refusal :=
  ran s (after (axisStep s a.val ballOk))

/-- LIM_RAW_EDGE (R256). -/
def execLimRawEdge (j : Fin 8) (level : Bool) (frac : Fin 256) (s : State) : Host.Outcome State Fault Refusal :=
  ran s (after (limRaw s j.val level frac.val))

/-- LIM_QUALIFY (R257). -/
def execLimQualify (j : Fin 8) (level : Bool) (s : State) : Host.Outcome State Fault Refusal :=
  ran s (after (limQualify s j.val level))

/-- ENC_EDGE (R255). -/
def execEncEdge (e : Fin 2) (a b : Bool) (s : State) : Host.Outcome State Fault Refusal :=
  ran s (encEdge s e.val a b)

/-- AON_DRV_LOST_SAMPLE (R262). -/
def execAonDrvLostSample (a : Fin 6) (low : Bool) (s : State) : Host.Outcome State Fault Refusal :=
  ran s (after (drvSample s a.val low))

/-- DRV_FAULT (R265). -/
def execDrvFault (a : Fin 6) (s : State) : Host.Outcome State Fault Refusal :=
  ran s (after (drvFault s a.val))

/-- DRV_RETURN (R263). -/
def execDrvReturn (a : Fin 6) (s : State) : Host.Outcome State Fault Refusal :=
  ran s (after (drvReturn s a.val))

/-- REPHASE_SETTLE (R263). -/
def execRephaseSettle (a : Fin 6) (s : State) : Host.Outcome State Fault Refusal :=
  ran s (after (rephaseSettle s a.val))

/-- GEN_PARITY_ERROR (R266). -/
def execGenParityError (a : Fin 6) (r : GenReport) (s : State) : Host.Outcome State Fault Refusal :=
  ran s (after (genReport s a.val r))

/-- MOT_ADV_PUSH (R268). -/
def execMotAdvPush (ag : Agent) (s : State) : Host.Outcome State Fault Refusal :=
  ran s (gate s ag pgMOT 0x0D0 1 advPush)

/-- MOT_ADV_FLUSH (R281). -/
def execMotAdvFlush (ag : Agent) (s : State) : Host.Outcome State Fault Refusal :=
  ran s (gate s ag pgMOT 0x0D0 2 advFlush)

/-- ADV_TRIGGER (R269). -/
def execAdvTrigger (s : State) : Host.Outcome State Fault Refusal :=
  ran s (after (advTrigger s))

/-- ADV_SETTLE_DONE (R274, R276). -/
def execAdvSettleDone (s : State) : Host.Outcome State Fault Refusal :=
  ran s (advSettled s)

/-- ADV_RECORD (R274). -/
def execAdvRecord (s : State) : Host.Outcome State Fault Refusal :=
  ran s (advRecord s)

/-- ADV_DEADLINE_MISS (R274). -/
def execAdvDeadlineMiss (s : State) : Host.Outcome State Fault Refusal :=
  ran s (after (advDeadline s))

/-- PASS_SYNC_RISE (R276). -/
def execPassSyncRise (s : State) : Host.Outcome State Fault Refusal :=
  ran s (passSync s true)

/-- PASS_SYNC_FALL (R269, R276). -/
def execPassSyncFall (s : State) : Host.Outcome State Fault Refusal :=
  ran s (passSync s false)

/-- PASS_SYNC_RAW_EDGE (R396). -/
def execPassSyncRawEdge (level : Bool) (s : State) : Host.Outcome State Fault Refusal :=
  ran s (passRaw s level)

end Sys2Proof.Machine
end

