-- ==== Sys2Proof/Machine/ExecSec.lean ====
section
/-! DEFINITION. Meanings: firmware update, keys and debug access (chapter 15 and R523). -/
namespace Sys2Proof.Machine
open Sys2Proof

/-- SEC_UPD_BEGIN (R479). -/
def execSecUpdBegin (ag : Agent) (s : State) : Host.Outcome State Fault Refusal :=
  ran s (gate s ag pgSEC 0x084 1 (fun t => cmdUpdate t 1 none))

/-- SEC_UPD_DATA (R479). -/
def execSecUpdData (ag : Agent) (v : Word) (s : State) : Host.Outcome State Fault Refusal :=
  ran s (gateWord s ag pgSEC 0x08C v.toNat (fun t => updData t v.toNat))

/-- SEC_UPD_FINISH (R479). -/
def execSecUpdFinish (ag : Agent) (s : State) : Host.Outcome State Fault Refusal :=
  ran s (gate s ag pgSEC 0x084 2 (fun t => cmdUpdate t 2 none))

/-- SEC_UPD_CHECK_DONE (R479, R478). -/
def execSecUpdCheckDone (norError : Bool) (s : State) : Host.Outcome State Fault Refusal :=
  ran s (updateChecked s norError)

/-- SEC_UPD_ABORT (R481). -/
def execSecUpdAbort (ag : Agent) (s : State) : Host.Outcome State Fault Refusal :=
  ran s (gate s ag pgSEC 0x084 3 (fun t => cmdUpdate t 3 none))

/-- SEC_UPD_ACTIVATE (R480). -/
def execSecUpdActivate (ag : Agent) (s : State) : Host.Outcome State Fault Refusal :=
  ran s (gate s ag pgSEC 0x084 4 (fun t => cmdUpdate t 4 none))

/-- SEC_UPD_CONFIRM (R480, R482). -/
def execSecUpdConfirm (ag : Agent) (good : Fin 65) (s : State) : Host.Outcome State Fault Refusal :=
  ran s (gate s ag pgSEC 0x084 5 (fun t => cmdUpdate t 5 (some good.val)))

/-- OWNER_PROV (R483). -/
def execOwnerProv (ag : Agent) (s : State) : Host.Outcome State Fault Refusal :=
  ran s (gate s ag pgSEC 0x084 0x100 ownerProvision)

/-- DBG_UNLOCK (R490). -/
def execDbgUnlock (ag : Agent) (s : State) : Host.Outcome State Fault Refusal :=
  ran s (gate s ag pgSEC 0x0C0 1 debugUnlock)

/-- DBG_RELOCK (R489, R514). -/
def execDbgRelock (ag : Agent) (s : State) : Host.Outcome State Fault Refusal :=
  ran s (gate s ag pgSEC 0x0C0 2 cmdRelock)

/-- DBG_CMD_READ (R523). -/
def execDbgCmdRead (ag : Agent) (s : State) : Host.Outcome State Fault Refusal :=
  ran s (gate s ag pgDBG 0x048 1 (fun t => cmdDebug t false))

/-- DBG_CMD_WRITE (R523). -/
def execDbgCmdWrite (ag : Agent) (s : State) : Host.Outcome State Fault Refusal :=
  ran s (gate s ag pgDBG 0x048 2 (fun t => cmdDebug t true))

end Sys2Proof.Machine
end

