-- ==== Sys2Proof/Machine/ExecSeg.lean ====
section
/-! DEFINITION. Meanings: segments, their supply and their links (chapter 2 and R92). -/
namespace Sys2Proof.Machine
open Sys2Proof

/-- SEG_EN_STAGGER (R549). -/
def execSegEnStagger (s : State) : Host.Outcome State Fault Refusal :=
  ran s (segStaggerNext s)

/-- SEG_SUPPLY_WINDOW (R61). -/
def execSegSupplyWindow (k : Fin 24) (s : State) : Host.Outcome State Fault Refusal :=
  ran s (after (supWindow s k.val))

/-- SEG_PING_START (R61). -/
def execSegPingStart (k : Fin 24) (s : State) : Host.Outcome State Fault Refusal :=
  ran s (pingStart s k.val)

/-- SEG_LED_STABLE (R61, R428, R437). -/
def execSegLedStable (k : Fin 24) (s : State) : Host.Outcome State Fault Refusal :=
  ran s (after (if (s.slice k.val).bring = .led then calReady (ledStable s k.val) k.val else s))

/-- SEG_EN_DEASSERT_DELAY (R60). -/
def execSegEnDeassertDelay (k : Fin 24) (s : State) : Host.Outcome State Fault Refusal :=
  ran s (after (segDeassert s k.val))

/-- SLC_LINK_RERUN (R61). -/
def execSlcLinkRerun (ag : Agent) (k : Fin 24) (s : State) : Host.Outcome State Fault Refusal :=
  ran s (gate s ag (pgSLC k.val) 0x044 1 (fun t => linkRerun t k.val))

/-- SEG_ILLUM_WRITE_START (R75). -/
def execSegIllumWriteStart (k : Fin 24) (ahead : Fin 3) (s : State) : Host.Outcome State Fault Refusal :=
  ran s (linkIllumStart s k.val ahead.val)

/-- SEG_LINK_RESPONSE (R77). -/
def execSegLinkResponse (k : Fin 24) (frame : List Byte) (s : State) : Host.Outcome State Fault Refusal :=
  ran s (after (linkResponse s k.val frame))

/-- SEG_LINK_TIMEOUT (R76). -/
def execSegLinkTimeout (k : Fin 24) (s : State) : Host.Outcome State Fault Refusal :=
  ran s (after (linkTimeout s k.val))

/-- SEG_LINK_RESEND (R77). -/
def execSegLinkResend (k : Fin 24) (s : State) : Host.Outcome State Fault Refusal :=
  ran s (linkResend s k.val)

/-- SEG_LINK_PING_POLL (R80). -/
def execSegLinkPingPoll (k : Fin 24) (s : State) : Host.Outcome State Fault Refusal :=
  ran s (linkPoll s k.val)

/-- SEG_LED_TEMP_POLL (R81). -/
def execSegLedTempPoll (k : Fin 24) (s : State) : Host.Outcome State Fault Refusal :=
  ran s (ledTempPoll s k.val)

/-- SEG_LINK_FRAME_DISCARD (R71). -/
def execSegLinkFrameDiscard (k : Fin 24) (s : State) : Host.Outcome State Fault Refusal :=
  ran s (frameDiscard s k.val)

/-- SUP_SENSE_AVERAGE (R92). -/
def execSupSenseAverage (k : Fin 24) (uv : List Nat) (s : State) : Host.Outcome State Fault Refusal :=
  ranIf (uv != []) "SUP_SENSE_AVERAGE" s (after (supAverage s k.val uv))

/-- SUP_LO_HOLD_EXPIRE (R92). -/
def execSupLoHoldExpire (k : Fin 24) (s : State) : Host.Outcome State Fault Refusal :=
  ran s (after (supLoExpire s k.val))

end Sys2Proof.Machine
end

