-- ==== Sys2Proof/Machine/ExecSys.lean ====
section
/-! DEFINITION. Meanings: register accesses, modes, tables, and what every page shares (chapters 0, 1 and 16). -/
namespace Sys2Proof.Machine
open Sys2Proof

/-- REGISTER_WRITE (R18, R498). -/
def execRegisterWrite (ag : Agent) (addr : RegAddr) (v : Word) (s : State) : Host.Outcome State Fault Refusal :=
  ran s (busWrite s ag addr.toNat v.toNat)

/-- MODE_REQ_IDLE (R35, R34). -/
def execModeReqIdle (ag : Agent) (s : State) : Host.Outcome State Fault Refusal :=
  ran s (gateNow s ag pgSYS 0x044 (fun t => cmdMode t 0))

/-- MODE_REQ_INSPECT (R35, R34). -/
def execModeReqInspect (ag : Agent) (feedOwner : Bool) (s : State) : Host.Outcome State Fault Refusal :=
  ran s (gateNow s ag pgSYS 0x044 (fun t => cmdMode t (1 + 8 * b2n feedOwner)))

/-- MODE_REQ_CAPTURE (R35, R34). -/
def execModeReqCapture (ag : Agent) (s : State) : Host.Outcome State Fault Refusal :=
  ran s (gateNow s ag pgSYS 0x044 (fun t => cmdMode t 2))

/-- MODE_REQ_CALIBRATE (R35, R34). -/
def execModeReqCalibrate (ag : Agent) (s : State) : Host.Outcome State Fault Refusal :=
  ran s (gateNow s ag pgSYS 0x044 (fun t => cmdMode t 3))

/-- MODE_REQ_SERVICE (R39, R35). -/
def execModeReqService (ag : Agent) (s : State) : Host.Outcome State Fault Refusal :=
  ran s (gateNow s ag pgSYS 0x044 (fun t => cmdMode t 4))

/-- MODE_REQ_INVALID (R34). -/
def execModeReqInvalid (ag : Agent) (req : Fin 3) (s : State) : Host.Outcome State Fault Refusal :=
  ran s (gateNow s ag pgSYS 0x044 (fun t => cmdMode t (5 + req.val)))

/-- SERVICE_ENTRY_COMPLETE (R39). -/
def execServiceEntryComplete (s : State) : Host.Outcome State Fault Refusal :=
  ran s (after (serviceComplete s))

/-- IDLE_REQUEST_STILL_TIMEOUT (R38). -/
def execIdleRequestStillTimeout (s : State) : Host.Outcome State Fault Refusal :=
  ran s (stillTimeout s)

/-- SYS_SECTION_CMD (R38). -/
def execSysSectionCmd (ag : Agent) (s : State) : Host.Outcome State Fault Refusal :=
  ran s (gate s ag pgSYS 0x074 1 sectionEnd)

/-- TABLE_CHECK_DONE (R521, R31, R403). -/
def execTableCheckDone (s : State) : Host.Outcome State Fault Refusal :=
  ran s (after (tableChecked s))

/-- SYS_TBL_CMD (R520). -/
def execSysTblCmd (ag : Agent) (s : State) : Host.Outcome State Fault Refusal :=
  ran s (gate s ag pgSYS 0x068 1 sysTableCmd)

/-- BLK_SOFT_RESET (R504). -/
def execBlkSoftReset (ag : Agent) (page : Nat) (s : State) : Host.Outcome State Fault Refusal :=
  ranIf (pageOk page) "BLK_SOFT_RESET" s (gate s ag page 0x008 2 (fun t => after (softReset t page)))

/-- SOFT_RESET_DONE (R504). -/
def execSoftResetDone (page : Nat) (s : State) : Host.Outcome State Fault Refusal :=
  ranIf (pageOk page) "SOFT_RESET_DONE" s (if pagePresent s page then after (softResetOver s page) else s)

/-- BLK_FREEZE (R505). -/
def execBlkFreeze (ag : Agent) (page : Nat) (on : Bool) (s : State) : Host.Outcome State Fault Refusal :=
  ranIf (pageOk page) "BLK_FREEZE" s (gateWord s ag page 0x008 (4 * b2n on) (fun t => writeRw t ag page 0x008 (4 * b2n on) 0))

/-- BLK_CNT_CLEAR (R502). -/
def execBlkCntClear (ag : Agent) (page : Nat) (s : State) : Host.Outcome State Fault Refusal :=
  ranIf (pageOk page) "BLK_CNT_CLEAR" s (gate s ag page 0x008 8 (fun t => t.set R.EVT_CNT 0 page))

/-- BLK_ERR_CLEAR (R502, R507). -/
def execBlkErrClear (ag : Agent) (page : Nat) (s : State) : Host.Outcome State Fault Refusal :=
  ranIf (pageOk page) "BLK_ERR_CLEAR" s (gate s ag page 0x008 16 (fun t => cmdErrClear t page))

/-- IRQ_RAW_CLEAR (R509, R508). -/
def execIrqRawClear (page : Nat) (mask : Word) (setting : Word) (s : State) : Host.Outcome State Fault Refusal :=
  ranIf (pageOk page) "IRQ_RAW_CLEAR" s (if pagePresent s page then rawClear s page mask.toNat setting.toNat else s)

/-- IRQ_SET (R502, R508). -/
def execIrqSet (ag : Agent) (page : Nat) (mask : Word) (s : State) : Host.Outcome State Fault Refusal :=
  ranIf (pageOk page) "IRQ_SET" s (gate s ag page 0x01C mask.toNat (fun t => cmdIrqSet t page mask.toNat))

/-- IRQ_EVT_HOLDOFF_END (R511). -/
def execIrqEvtHoldoffEnd (page : Nat) (s : State) : Host.Outcome State Fault Refusal :=
  ranIf (pageOk page) "IRQ_EVT_HOLDOFF_END" s (holdoffEnd s page)

/-- SHADOW_CTRL_HOLD (R506). -/
def execShadowCtrlHold (page : Nat) (on : Bool) (s : State) : Host.Outcome State Fault Refusal :=
  ranIf (pageOk page) "SHADOW_CTRL_HOLD" s (if pagePresent s page then s.setB R.SHADOW_CTRL_HOLD on page else s)

/-- SHADOW_CTRL_COMMIT (R506). -/
def execShadowCtrlCommit (page : Nat) (s : State) : Host.Outcome State Fault Refusal :=
  ranIf (pageOk page) "SHADOW_CTRL_COMMIT" s (if pagePresent s page then commitHeld s page else s)

/-- SHADOW_CTRL_DISCARD (R506). -/
def execShadowCtrlDiscard (page : Nat) (s : State) : Host.Outcome State Fault Refusal :=
  ranIf (pageOk page) "SHADOW_CTRL_DISCARD" s (if pagePresent s page then discardHeld s page else s)

/-- LOCK_ACQUIRE (R513, R514, R516). -/
def execLockAcquire (ag : Agent) (n : Fin 32) (s : State) : Host.Outcome State Fault Refusal :=
  ran s (readOut s ag (pgLOCK * 0x1000 + 0x40 + 4 * n.val))

/-- LOCK_RELEASE (R513). -/
def execLockRelease (ag : Agent) (n : Fin 32) (v : Word) (s : State) : Host.Outcome State Fault Refusal :=
  ran s (gateWord s ag pgLOCK (0x40 + 4 * n.val) v.toNat (fun t => lockWrite t n.val (Agent.code ag) v.toNat))

/-- MGMT_SPI_FRAME (R500). -/
def execMgmtSpiFrame (f : SpiFrame) (s : State) : Host.Outcome State Fault Refusal :=
  ran s (spiFrame s f)

/-- LO_REGISTER_READ (R501). -/
def execLoRegisterRead (ag : Agent) (addr : RegAddr) (s : State) : Host.Outcome State Fault Refusal :=
  ran s (readOut s ag addr.toNat)

/-- JTAG_SCAN (R576, R489). -/
def execJtagScan (op : JtagOp) (s : State) : Host.Outcome State Fault Refusal :=
  ran s (jtagRun s op)

end Sys2Proof.Machine
end

