-- ==== Sys2Proof/Machine/Dispatch.lean ====
section
/-! DEFINITION. One arm per command, each one direct call of its meaning. -/
namespace Sys2Proof.Machine
open Sys2Proof
def exec (i : Instr) (s : State) : Host.Outcome State Fault Refusal :=
  match i with
  | .registerWrite ag addr v => Sys2Proof.Machine.execRegisterWrite ag addr v s
  | .modeReqIdle ag => Sys2Proof.Machine.execModeReqIdle ag s
  | .modeReqInspect ag feedOwner => Sys2Proof.Machine.execModeReqInspect ag feedOwner s
  | .modeReqCapture ag => Sys2Proof.Machine.execModeReqCapture ag s
  | .modeReqCalibrate ag => Sys2Proof.Machine.execModeReqCalibrate ag s
  | .modeReqService ag => Sys2Proof.Machine.execModeReqService ag s
  | .modeReqInvalid ag req => Sys2Proof.Machine.execModeReqInvalid ag req s
  | .serviceEntryComplete => Sys2Proof.Machine.execServiceEntryComplete s
  | .idleRequestStillTimeout => Sys2Proof.Machine.execIdleRequestStillTimeout s
  | .sysSectionCmd ag => Sys2Proof.Machine.execSysSectionCmd ag s
  | .lineBoundary => Sys2Proof.Machine.execLineBoundary s
  | .timingPbCommit ag => Sys2Proof.Machine.execTimingPbCommit ag s
  | .pbLiveEditWrite ag slot upper v count => Sys2Proof.Machine.execPbLiveEditWrite ag slot upper v count s
  | .timingSegSync ag mask atBoundary => Sys2Proof.Machine.execTimingSegSync ag mask atBoundary s
  | .timingShdSync ag mask atBoundary => Sys2Proof.Machine.execTimingShdSync ag mask atBoundary s
  | .segEnStagger => Sys2Proof.Machine.execSegEnStagger s
  | .segSupplyWindow k => Sys2Proof.Machine.execSegSupplyWindow k s
  | .segPingStart k => Sys2Proof.Machine.execSegPingStart k s
  | .segLedStable k => Sys2Proof.Machine.execSegLedStable k s
  | .segEnDeassertDelay k => Sys2Proof.Machine.execSegEnDeassertDelay k s
  | .slcLinkRerun ag k => Sys2Proof.Machine.execSlcLinkRerun ag k s
  | .segIllumWriteStart k ahead => Sys2Proof.Machine.execSegIllumWriteStart k ahead s
  | .segLinkResponse k frame => Sys2Proof.Machine.execSegLinkResponse k frame s
  | .segLinkTimeout k => Sys2Proof.Machine.execSegLinkTimeout k s
  | .segLinkResend k => Sys2Proof.Machine.execSegLinkResend k s
  | .segLinkPingPoll k => Sys2Proof.Machine.execSegLinkPingPoll k s
  | .segLedTempPoll k => Sys2Proof.Machine.execSegLedTempPoll k s
  | .supSenseAverage k uv => Sys2Proof.Machine.execSupSenseAverage k uv s
  | .supLoHoldExpire k => Sys2Proof.Machine.execSupLoHoldExpire k s
  | .lineJudged wrapped taps faults => Sys2Proof.Machine.execLineJudged wrapped taps faults s
  | .suspectResolve k c => Sys2Proof.Machine.execSuspectResolve k c s
  | .openShortReexam k c => Sys2Proof.Machine.execOpenShortReexam k c s
  | .shadowVisitEnd k spare gain ofs => Sys2Proof.Machine.execShadowVisitEnd k spare gain ofs s
  | .floatCaptureLine => Sys2Proof.Machine.execFloatCaptureLine s
  | .ringWritePlace k => Sys2Proof.Machine.execRingWritePlace k s
  | .scrimLineRead => Sys2Proof.Machine.execScrimLineRead s
  | .dfInQualify level => Sys2Proof.Machine.execDfInQualify level s
  | .trkLineResult => Sys2Proof.Machine.execTrkLineResult s
  | .insEventSend => Sys2Proof.Machine.execInsEventSend s
  | .insRateSecondEnd => Sys2Proof.Machine.execInsRateSecondEnd s
  | .insCtrlHealthReq ag => Sys2Proof.Machine.execInsCtrlHealthReq ag s
  | .axisCmdStart ag a => Sys2Proof.Machine.execAxisCmdStart ag a s
  | .axisCmdStop ag a tbl => Sys2Proof.Machine.execAxisCmdStop ag a tbl s
  | .axisCmdHalt ag a => Sys2Proof.Machine.execAxisCmdHalt ag a s
  | .axisCmdHome ag a => Sys2Proof.Machine.execAxisCmdHome ag a s
  | .axisCmdRearm ag a => Sys2Proof.Machine.execAxisCmdRearm ag a s
  | .axisCmdRephase ag a => Sys2Proof.Machine.execAxisCmdRephase ag a s
  | .axisCmdSetPos ag a => Sys2Proof.Machine.execAxisCmdSetPos ag a s
  | .axisVelSel ag a v => Sys2Proof.Machine.execAxisVelSel ag a v s
  | .grpStart ag g => Sys2Proof.Machine.execGrpStart ag g s
  | .axisStep a ballOk => Sys2Proof.Machine.execAxisStep a ballOk s
  | .limRawEdge j level frac => Sys2Proof.Machine.execLimRawEdge j level frac s
  | .limQualify j level => Sys2Proof.Machine.execLimQualify j level s
  | .encEdge e a b => Sys2Proof.Machine.execEncEdge e a b s
  | .aonDrvLostSample a low => Sys2Proof.Machine.execAonDrvLostSample a low s
  | .drvFault a => Sys2Proof.Machine.execDrvFault a s
  | .drvReturn a => Sys2Proof.Machine.execDrvReturn a s
  | .rephaseSettle a => Sys2Proof.Machine.execRephaseSettle a s
  | .motAdvPush ag => Sys2Proof.Machine.execMotAdvPush ag s
  | .motAdvFlush ag => Sys2Proof.Machine.execMotAdvFlush ag s
  | .advTrigger => Sys2Proof.Machine.execAdvTrigger s
  | .advSettleDone => Sys2Proof.Machine.execAdvSettleDone s
  | .advRecord => Sys2Proof.Machine.execAdvRecord s
  | .advDeadlineMiss => Sys2Proof.Machine.execAdvDeadlineMiss s
  | .passSyncRise => Sys2Proof.Machine.execPassSyncRise s
  | .passSyncFall => Sys2Proof.Machine.execPassSyncFall s
  | .capPageStart ag => Sys2Proof.Machine.execCapPageStart ag s
  | .capPageEnd ag => Sys2Proof.Machine.execCapPageEnd ag s
  | .capPauseCmd ag => Sys2Proof.Machine.execCapPauseCmd ag s
  | .capResume ag => Sys2Proof.Machine.execCapResume ag s
  | .capResumeForce ag => Sys2Proof.Machine.execCapResumeForce ag s
  | .pacingUpdate => Sys2Proof.Machine.execPacingUpdate s
  | .rungHighHold => Sys2Proof.Machine.execRungHighHold s
  | .capFeedAtRest => Sys2Proof.Machine.execCapFeedAtRest s
  | .capBackupDone => Sys2Proof.Machine.execCapBackupDone s
  | .capLedStandby => Sys2Proof.Machine.execCapLedStandby s
  | .capStabiliseCheck => Sys2Proof.Machine.execCapStabiliseCheck s
  | .capStabMax => Sys2Proof.Machine.execCapStabMax s
  | .capStall => Sys2Proof.Machine.execCapStall s
  | .arbRound reqs => Sys2Proof.Machine.execArbRound reqs s
  | .arbWindowStart => Sys2Proof.Machine.execArbWindowStart s
  | .refreshDue => Sys2Proof.Machine.execRefreshDue s
  | .arbWatchdog moved => Sys2Proof.Machine.execArbWatchdog moved s
  | .retrainDone => Sys2Proof.Machine.execRetrainDone s
  | .dqsDrift ps limit => Sys2Proof.Machine.execDqsDrift ps limit s
  | .migrationChunk => Sys2Proof.Machine.execMigrationChunk s
  | .scrubRead errs writtenSince => Sys2Proof.Machine.execScrubRead errs writtenSince s
  | .dmaStart ag c => Sys2Proof.Machine.execDmaStart ag c s
  | .dmaAbort ag c => Sys2Proof.Machine.execDmaAbort ag c s
  | .dmaFetchDone c err => Sys2Proof.Machine.execDmaFetchDone c err s
  | .dmaReadDone c err => Sys2Proof.Machine.execDmaReadDone c err s
  | .dmaWriteResponse c err => Sys2Proof.Machine.execDmaWriteResponse c err s
  | .hodPacketWrite cls prod => Sys2Proof.Machine.execHodPacketWrite cls prod s
  | .hodTailHoldExpire cls prod => Sys2Proof.Machine.execHodTailHoldExpire cls prod s
  | .hodPacketCommit cls prod => Sys2Proof.Machine.execHodPacketCommit cls prod s
  | .hodBadCommit cls prod => Sys2Proof.Machine.execHodBadCommit cls prod s
  | .hodFlush ag mask => Sys2Proof.Machine.execHodFlush ag mask s
  | .hodLegData ag => Sys2Proof.Machine.execHodLegData ag s
  | .hodLegMark ag => Sys2Proof.Machine.execHodLegMark ag s
  | .hodLegRewind ag => Sys2Proof.Machine.execHodLegRewind ag s
  | .hodLegRelease ag => Sys2Proof.Machine.execHodLegRelease ag s
  | .linkUp speed => Sys2Proof.Machine.execLinkUp speed s
  | .linkDown => Sys2Proof.Machine.execLinkDown s
  | .linkCtrlReneg ag => Sys2Proof.Machine.execLinkCtrlReneg ag s
  | .dhcpTimeout => Sys2Proof.Machine.execDhcpTimeout s
  | .lldpAllocation mw => Sys2Proof.Machine.execLldpAllocation mw s
  | .lldpWaitExpire => Sys2Proof.Machine.execLldpWaitExpire s
  | .auxPresent => Sys2Proof.Machine.execAuxPresent s
  | .auxFail => Sys2Proof.Machine.execAuxFail s
  | .ptpMessage m => Sys2Proof.Machine.execPtpMessage m s
  | .ptpAnnounceTimeout => Sys2Proof.Machine.execPtpAnnounceTimeout s
  | .ptpLatch ag => Sys2Proof.Machine.execPtpLatch ag s
  | .regRead h addr count => Sys2Proof.Machine.execRegRead h addr count s
  | .regWrite h addr v => Sys2Proof.Machine.execRegWrite h addr v s
  | .regWriteBlock h addr count fixed words => Sys2Proof.Machine.execRegWriteBlock h addr count fixed words s
  | .tableLoad h dest offset total image => Sys2Proof.Machine.execTableLoad h dest offset total image s
  | .tableCheckDone => Sys2Proof.Machine.execTableCheckDone s
  | .sysTblCmd ag => Sys2Proof.Machine.execSysTblCmd ag s
  | .attest h nonce => Sys2Proof.Machine.execAttest h nonce s
  | .attestSigned => Sys2Proof.Machine.execAttestSigned s
  | .sessionOpen h port => Sys2Proof.Machine.execSessionOpen h port s
  | .sessionKeepalive h => Sys2Proof.Machine.execSessionKeepalive h s
  | .sessionClose h => Sys2Proof.Machine.execSessionClose h s
  | .sessionTimeout => Sys2Proof.Machine.execSessionTimeout s
  | .credit h limit => Sys2Proof.Machine.execCredit h limit s
  | .tyrexAck h cls upto bitmap => Sys2Proof.Machine.execTyrexAck h cls upto bitmap s
  | .tyrexNack h cls ranges => Sys2Proof.Machine.execTyrexNack h cls ranges s
  | .streamSend cls => Sys2Proof.Machine.execStreamSend cls s
  | .eventSend => Sys2Proof.Machine.execEventSend s
  | .rtoExpire cls seq => Sys2Proof.Machine.execRtoExpire cls seq s
  | .cpuWatchdog cpu => Sys2Proof.Machine.execCpuWatchdog cpu s
  | .calCmdTileReady ag => Sys2Proof.Machine.execCalCmdTileReady ag s
  | .calRunStart => Sys2Proof.Machine.execCalRunStart s
  | .calDarkWait => Sys2Proof.Machine.execCalDarkWait s
  | .calIllumSettle => Sys2Proof.Machine.execCalIllumSettle s
  | .calCaptureDone => Sys2Proof.Machine.execCalCaptureDone s
  | .calReticleRunDone => Sys2Proof.Machine.execCalReticleRunDone s
  | .calRunEnd => Sys2Proof.Machine.execCalRunEnd s
  | .calOverdue kind => Sys2Proof.Machine.execCalOverdue kind s
  | .calRecordStore ok => Sys2Proof.Machine.execCalRecordStore ok s
  | .monThermalRead centi => Sys2Proof.Machine.execMonThermalRead centi s
  | .monVoltageRead mv => Sys2Proof.Machine.execMonVoltageRead mv s
  | .monProcessRead ps => Sys2Proof.Machine.execMonProcessRead ps s
  | .hkRefReady => Sys2Proof.Machine.execHkRefReady s
  | .hkRunStart => Sys2Proof.Machine.execHkRunStart s
  | .hkEntryDone e codes sense inTest => Sys2Proof.Machine.execHkEntryDone e codes sense inTest s
  | .hkUrgCmd ag => Sys2Proof.Machine.execHkUrgCmd ag s
  | .hkUrgDone code agoNs => Sys2Proof.Machine.execHkUrgDone code agoNs s
  | .bridgeWireTest b exc sns sig => Sys2Proof.Machine.execBridgeWireTest b exc sns sig s
  | .laneVisitEnd c mismatch => Sys2Proof.Machine.execLaneVisitEnd c mismatch s
  | .sramUeRewrite k role pixel => Sys2Proof.Machine.execSramUeRewrite k role pixel s
  | .wearSave => Sys2Proof.Machine.execWearSave s
  | .secUpdBegin ag => Sys2Proof.Machine.execSecUpdBegin ag s
  | .secUpdData ag v => Sys2Proof.Machine.execSecUpdData ag v s
  | .secUpdFinish ag => Sys2Proof.Machine.execSecUpdFinish ag s
  | .secUpdCheckDone norError => Sys2Proof.Machine.execSecUpdCheckDone norError s
  | .secUpdAbort ag => Sys2Proof.Machine.execSecUpdAbort ag s
  | .secUpdActivate ag => Sys2Proof.Machine.execSecUpdActivate ag s
  | .secUpdConfirm ag good => Sys2Proof.Machine.execSecUpdConfirm ag good s
  | .ownerProv ag => Sys2Proof.Machine.execOwnerProv ag s
  | .dbgUnlock ag => Sys2Proof.Machine.execDbgUnlock ag s
  | .dbgRelock ag => Sys2Proof.Machine.execDbgRelock ag s
  | .dbgCmdRead ag => Sys2Proof.Machine.execDbgCmdRead ag s
  | .dbgCmdWrite ag => Sys2Proof.Machine.execDbgCmdWrite ag s
  | .debugAccessDone errs => Sys2Proof.Machine.execDebugAccessDone errs s
  | .pdInputRise => Sys2Proof.Machine.execPdInputRise s
  | .pdInputFall => Sys2Proof.Machine.execPdInputFall s
  | .pdInrushDone => Sys2Proof.Machine.execPdInrushDone s
  | .pdInrushTimeout => Sys2Proof.Machine.execPdInrushTimeout s
  | .pdCurrentLimit => Sys2Proof.Machine.execPdCurrentLimit s
  | .pdRetry => Sys2Proof.Machine.execPdRetry s
  | .converterStart => Sys2Proof.Machine.execConverterStart s
  | .converterFault overTemp => Sys2Proof.Machine.execConverterFault overTemp s
  | .converterRestart => Sys2Proof.Machine.execConverterRestart s
  | .pdStatusFrame vin iin busGood => Sys2Proof.Machine.execPdStatusFrame vin iin busGood s
  | .barrierFail => Sys2Proof.Machine.execBarrierFail s
  | .railsGood => Sys2Proof.Machine.execRailsGood s
  | .resetRelease => Sys2Proof.Machine.execResetRelease s
  | .railFail rail => Sys2Proof.Machine.execRailFail rail s
  | .rstLAssert => Sys2Proof.Machine.execRstLAssert s
  | .rstLRelease => Sys2Proof.Machine.execRstLRelease s
  | .pllLockLoss pll => Sys2Proof.Machine.execPllLockLoss pll s
  | .pllLocked lock => Sys2Proof.Machine.execPllLocked lock s
  | .aonCrystalStable => Sys2Proof.Machine.execAonCrystalStable s
  | .domainPowerGood d => Sys2Proof.Machine.execDomainPowerGood d s
  | .domainFault d => Sys2Proof.Machine.execDomainFault d s
  | .xingEvent src dst ackPhase => Sys2Proof.Machine.execXingEvent src dst ackPhase s
  | .blkSoftReset ag page => Sys2Proof.Machine.execBlkSoftReset ag page s
  | .softResetDone page => Sys2Proof.Machine.execSoftResetDone page s
  | .blkFreeze ag page on => Sys2Proof.Machine.execBlkFreeze ag page on s
  | .blkCntClear ag page => Sys2Proof.Machine.execBlkCntClear ag page s
  | .blkErrClear ag page => Sys2Proof.Machine.execBlkErrClear ag page s
  | .irqRawClear page mask setting => Sys2Proof.Machine.execIrqRawClear page mask setting s
  | .irqSet ag page mask => Sys2Proof.Machine.execIrqSet ag page mask s
  | .irqEvtHoldoffEnd page => Sys2Proof.Machine.execIrqEvtHoldoffEnd page s
  | .shadowCtrlHold page on => Sys2Proof.Machine.execShadowCtrlHold page on s
  | .shadowCtrlCommit page => Sys2Proof.Machine.execShadowCtrlCommit page s
  | .shadowCtrlDiscard page => Sys2Proof.Machine.execShadowCtrlDiscard page s
  | .lockAcquire ag n => Sys2Proof.Machine.execLockAcquire ag n s
  | .lockRelease ag n v => Sys2Proof.Machine.execLockRelease ag n v s
  | .mgmtSpiFrame f => Sys2Proof.Machine.execMgmtSpiFrame f s
  | .patternSlotStart slot => Sys2Proof.Machine.execPatternSlotStart slot s
  | .passSyncRawEdge level => Sys2Proof.Machine.execPassSyncRawEdge level s
  | .dfInRawEdge level => Sys2Proof.Machine.execDfInRawEdge level s
  | .segLinkFrameDiscard k => Sys2Proof.Machine.execSegLinkFrameDiscard k s
  | .linkFrameReceive f => Sys2Proof.Machine.execLinkFrameReceive f s
  | .linkAttemptFail speed => Sys2Proof.Machine.execLinkAttemptFail speed s
  | .classificationEvent autoclass => Sys2Proof.Machine.execClassificationEvent autoclass s
  | .xingTransferDone src dst => Sys2Proof.Machine.execXingTransferDone src dst s
  | .loRegisterRead ag addr => Sys2Proof.Machine.execLoRegisterRead ag addr s
  | .dramTransactionDone errs => Sys2Proof.Machine.execDramTransactionDone errs s
  | .genParityError a r => Sys2Proof.Machine.execGenParityError a r s
  | .dramDieTemperature die centi => Sys2Proof.Machine.execDramDieTemperature die centi s
  | .sramRepairDone repairs banks failed => Sys2Proof.Machine.execSramRepairDone repairs banks failed s
  | .fillerRetestDone part pass => Sys2Proof.Machine.execFillerRetestDone part pass s
  | .hkEntryStale e => Sys2Proof.Machine.execHkEntryStale e s
  | .jtagScan op => Sys2Proof.Machine.execJtagScan op s
end Sys2Proof.Machine
end

