-- ==== Sys2Proof/Safety.lean ====
section
/-! DEFINITION. What a safe run is: commands that the block can be given, and steps that answer a next state; and the conditions on a
state that claims about single commands name. -/
namespace Sys2Proof.Machine
open Sys2Proof

/-- Every command that waits is well-formed. -/
def State.sane (s : State) : Bool := s.pending.all Instr.wf

/-- An outcome that is a next state. -/
def goesOn : Host.Outcome State Fault Refusal → Bool
  | .next _ => true
  | .fault _ => false
  | .refused _ => false

/-- An agent's access finds a register of a present block that it may write, and no HOLD stands on the page (R7, R498, R499, R506). -/
def State.takes (s : State) (ag : Agent) (page off : Nat) : Bool :=
  reaches s ag page off && mayWrite ag page off && !(s.bit R.SHADOW_CTRL_HOLD page)

/-- No axis has lost its driver and waits to re-phase (R263). -/
def State.noneDue (s : State) : Bool := (List.range 6).all (fun a => !((s.axis a).due))

/-- Nothing that one unit has left for another waits: no fault or halt for the pacing (R171, R303), no Primer run, gap or axis (R431), no
re-phase (R263), and start-up is done (R547). -/
def State.calm (s : State) : Bool :=
  !s.rol.fault && !s.plumb.halt && s.cal.run.isNone && s.rol.primer.isEmpty && !(s.bit R.CAL_STAT_GAP) && !(s.bit R.CAL_CTRL_GAP_EN) &&
  decide (s.pwr.boot = .done) && s.noneDue

/-- Nothing but its table keeps FEED, alone, from starting a move backwards or forwards (R249). -/
def State.feedFree (s : State) (back : Bool) : Bool :=
  !(axisBusy s 0) && !(s.bit R.MOT_AXa_STAT_PHASE_LOST 0) && !(limitAhead s 0 back none) && s.bit R.MOT_AXa_EN 0 && !(estopActive s) && !(capExit s)

/-- A datagram of the open session arrives at the control port over a link that is up, and needs no tag (R399, R412). -/
def State.hears (s : State) (h : Hdr) : Bool := s.bit R.LINK_STAT_UP && heard s h ctlPorts && hdrGood s h && !(s.bit R.TYREX_CTRL_LOCKED)

/-- Such a datagram is the control request whose turn it is, with no other request held or done ahead of it and CPU0 running (R28, R401). -/
def State.inTurn (s : State) (h : Hdr) : Bool :=
  s.hears h && !(cpu0Down s) && !h.unordered && h.seq.toNat == s.get R.TYREX_CTL_NEXT && s.tyrex.held.isEmpty && s.tyrex.done.isEmpty

/-- As calm, but that a run of Primer may be under way with no axis of its own moving: nothing follows a command but what the run does. -/
def State.calmRun (s : State) : Bool :=
  !s.rol.fault && !s.plumb.halt && s.rol.primer.isEmpty && !(s.bit R.CAL_STAT_GAP) && !(s.bit R.CAL_CTRL_GAP_EN) && decide (s.pwr.boot = .done) && s.noneDue

/-- The state that a number of steps leads to, where each of them answers a next state. -/
def stepsTo : Nat → State → Option State
  | 0, s => some s
  | n + 1, s =>
    match step s with
    | .next t => stepsTo n t
    | .fault _ => none
    | .refused _ => none

/-- No register access of the agent is let in: JTAG without its permission, or any agent but the management SPI while the block is held in
reset after three domain faults (R489, R536). -/
def State.shutOut (s : State) (ag : Agent) : Bool :=
  ag == .jtag && !(bitOf (s.get R.SEC_DBG_STAT_PERM) 1) || domHeld s && ag != .spi

end Sys2Proof.Machine
end

