-- ==== Sys2Proof/Certificates/Slice0/Obligations.lean ====
section
/-! DEFINITION. The statements about the model, for the provers. -/
open Sys2Proof Sys2Proof.Machine

/-- For every command c and state s, a step of s with c put at the front of its queue is exec of c on s with the queue's rest.
(95_what_each_step_holds.md) -/
def Obligations.StepRunsFrontCommand : Prop :=
  ∀ (c : Instr) (s : State), step { s with pending := c :: s.pending } = exec c s

/-- On an empty queue the block answers a next state in which the time is one nanosecond later, the queue is still empty and DRAM, registers of
the mode and the variant are as before. What happens on an empty queue is the model's choice (log 1). (12_host_link.md R392) -/
def Obligations.IdleStepLetsTimePass : Prop :=
  ∀ (s : State), s.pending = [] →
    ∃ t, step s = .next t ∧ t.now = s.now + 1 ∧ t.pending = [] ∧ t.mem = s.mem ∧ t.variant = s.variant ∧ t.mode = s.mode

/-- In the reset state every field of every row reads the reset value of its row for the SQ7260, no shadow, held write or command waits, DRAM
lists nothing (so every command that waits is well-formed), and the mode is IDLE. That the variant is SQ7260 is the model's choice (log 61).
(00_scope.md R582; 01_architecture.md R34) -/
def Obligations.ResetHoldsTableValues : Prop :=
  (∀ (r : Row) (p i : Nat), State.reset.get r p i = Row.reset r .sq7260 p i) ∧
  State.reset.shadow = [] ∧ State.reset.held = [] ∧ State.reset.pending = [] ∧ State.reset.mem = [] ∧ State.reset.mode = .idle ∧ State.reset.sane = true

/-- A word that an agent writes where one field stands alone leaves an RO field alone, goes into the shadow of an RWS field and not into force,
clears the bits of a W1C field that are 1 in it, and stores into an RW field of COMMIT on pages without further effects; nothing else
changes. Values that the field does not accept are ignored. An access that reaches no register changes nothing. (00_scope.md R18;
16_registers.md R498; 16_registers.md R506) -/
def Obligations.RegisterWriteByAccessCode : Prop :=
  ∀ (s : State) (ag : Agent) (addr : RegAddr) (v : Word) (r : Row) (p i : Nat),
    let page := addr.toNat / 0x1000
    let off := addr.toNat % 0x1000 / 4 * 4
    (reaches s ag page off = false → exec (.registerWrite ag addr v) s = .next s) ∧
    (s.takes ag page off = true → fieldsAt page off = [(r, p, i)] → page ≠ pgMOT → off < 0x400 → off ≠ 0x02C →
      (r.acc = .ro → exec (.registerWrite ag addr v) s = .next s) ∧
      (r.acc = .rws → exec (.registerWrite ag addr v) s =
        .next (if accepts s r p i (Row.field r v.toNat) v.toNat then s.shadowWrite r p i (Row.field r v.toNat) else s)) ∧
      (r.acc = .w1c → exec (.registerWrite ag addr v) s =
        .next (s.set r (s.get r p i - (s.get r p i &&& Row.field r v.toNat)) p i)) ∧
      (r.acc = .rw → r.bnd = .commit → 0x40 ≤ off → page ∈ [pgIRQ, pgPOE, pgLINK, pgSCRIM, pgPLUMB, pgTRK] →
        exec (.registerWrite ag addr v) s =
          .next (if accepts s r p i (Row.field r v.toNat) v.toNat then s.set r (Row.field r v.toNat) p i else s)))

/-- SHADOW_CTRL_HOLD sets the page's HOLD bit and nothing else. While HOLD is 1, a write to an RW field of COMMIT is appended to the held
writes, up to 64; a 65th is dropped, OVERFLOW sets and ERR_CODE reads 3. COMMIT of one held write to an RW field of the IRQ page puts its
value into force and empties the list. DISCARD empties the page's held writes and its waiting shadows and changes no value in force.
(16_registers.md R506) -/
def Obligations.HoldKeepsWritesUntilCommit : Prop :=
  (∀ (s : State) (page : Nat) (on : Bool), page < 4096 → pagePresent s page = true →
    exec (.shadowCtrlHold page on) s = .next (s.setB R.SHADOW_CTRL_HOLD on page)) ∧
  (∀ (s : State) (ag : Agent) (addr : RegAddr) (v : Word) (r : Row) (i : Nat),
    addr.toNat / 0x1000 = pgIRQ → 0x40 ≤ addr.toNat % 0x1000 →
    reaches s ag pgIRQ (addr.toNat % 0x1000 / 4 * 4) = true → s.bit R.SHADOW_CTRL_HOLD pgIRQ = true →
    fieldsAt pgIRQ (addr.toNat % 0x1000 / 4 * 4) = [(r, 0, i)] → r.acc = .rw → r.bnd = .commit →
    exec (.registerWrite ag addr v) s = .next (
      if 64 ≤ (s.heldOf pgIRQ).length then (s.set R.SHADOW_STAT_OVERFLOW 1 pgIRQ).err pgIRQ 3 (addr.toNat % 0x1000 / 4 * 4)
      else { s with held := smPut s.held pgIRQ (s.heldOf pgIRQ ++ [{ off := addr.toNat % 0x1000 / 4 * 4, value := v.toNat, agent := ag }]) })) ∧
  (∀ (s : State) (w : HeldWrite) (r : Row) (i : Nat),
    s.heldOf pgIRQ = [w] → 0x40 ≤ w.off → fieldsAt pgIRQ w.off = [(r, 0, i)] → r.acc = .rw → r.bnd = .commit →
    accepts { s with held := smDel s.held pgIRQ } r 0 i (Row.field r w.value) w.value = true →
    exec (.shadowCtrlCommit pgIRQ) s = .next ({ s with held := smDel s.held pgIRQ }.set r (Row.field r w.value) 0 i)) ∧
  (∀ (s : State) (page : Nat), page < 4096 → pagePresent s page = true →
    ∃ t, exec (.shadowCtrlDiscard page) s = .next t ∧ t.heldOf page = [] ∧ t.pageShadows page = [] ∧ t.regs = s.regs ∧ t.mem = s.mem)

/-- CNT_CLEAR sets EVT_CNT to 0; ERR_CLEAR clears ERR_CODE, ERR_INFO and ERR_OVW; IRQ_SET sets the page's defined flags and acts only in
SERVICE, elsewhere the page's ERR_CODE reads 2; a flag of the page that a W1C write clears while hardware sets it reads 1 and EVT_CNT counts
it; the end of a running hold-off commits one event where IRQ_STAT is not zero, and only ends it where it is. These commands change nothing
else. (16_registers.md R502; 16_registers.md R508; 16_registers.md R509; 16_registers.md R511) -/
def Obligations.HeaderCommands : Prop :=
  (∀ (s : State) (ag : Agent) (page : Nat), page < 4096 → s.takes ag page 0x008 = true →
    exec (.blkCntClear ag page) s = .next (s.set R.EVT_CNT 0 page) ∧
    exec (.blkErrClear ag page) s = .next (((s.set R.ERR_CODE 0 page).set R.ERR_INFO 0 page).set R.BLK_STAT_ERR_OVW 0 page)) ∧
  (∀ (s : State) (ag : Agent) (page : Nat) (mask : Word), page < 4096 → s.takes ag page 0x01C = true → mask ≠ 0 →
    (s.mode ≠ .service → exec (.irqSet ag page mask) s = .next (s.err page 2 mask.toNat)) ∧
    (s.mode = .service → ∃ t, exec (.irqSet ag page mask) s = .next t ∧
      t.get R.IRQ_RAW page = (s.get R.IRQ_RAW page ||| (mask.toNat &&& irqMask page)) % 2 ^ 32 ∧
      t.get R.EVT_CNT page = min (s.get R.EVT_CNT page + popcount (mask.toNat &&& irqMask page) 32) (2 ^ 32 - 1) ∧
      t.mem = s.mem ∧ t.shadow = s.shadow ∧ t.tx = s.tx)) ∧
  (∀ (s : State) (page : Nat) (mask : Word), page < 4096 → pagePresent s page = true →
    exec (.irqRawClear page mask 0) s =
      .next (s.set R.IRQ_RAW (s.get R.IRQ_RAW page - (s.get R.IRQ_RAW page &&& mask.toNat)) page) ∧
    ∀ (bit : Fin 32), bitOf (irqMask page) bit.val = true → ∃ t, exec (.irqRawClear page mask (BitVec.ofNat 32 (2 ^ bit.val))) s = .next t ∧
      bitOf (t.get R.IRQ_RAW page) bit.val = true ∧
      t.get R.EVT_CNT page = min (s.get R.EVT_CNT page + 1) (2 ^ 32 - 1)) ∧
  (∀ (s : State) (page : Nat), page < 4096 → (smFind s.irqHold page).isSome = true → s.irqStat page ≠ 0 → ∃ t, exec (.irqEvtHoldoffEnd page) s = .next t ∧
      t.outbox = s.outbox ++ [{ cls := 0, prod := 0x03, kind := 0x01, payload := irqEventBytes s page, item := none }] ∧ t.regs = s.regs) ∧
  (∀ (s : State) (page : Nat), page < 4096 → s.irqStat page = 0 →
      exec (.irqEvtHoldoffEnd page) s = .next { s with irqHold := smDel s.irqHold page })

/-- A read of LOCK_n by an agent that may acquire it returns ACQUIRED or ACQUIRED_BROKEN and takes the lock where it is free, OWNED where the
agent holds it, BUSY where another does; the word carries owner and generation. A write of 1 by the owner releases it and leaves BROKEN at
0; by any other agent it is ignored with ERR_CODE 0xE01; any other value is ignored. A firmware lock (24 to 31) answers BUSY to an agent
that is no control processor (R516), and the management SPI reads LOCK_STAT_n. (R513) -/
def Obligations.LockResults : Prop :=
  ∀ (s : State) (ag : Agent) (n : Fin 32), ag ≠ .spi → reaches s ag pgLOCK (0x40 + 4 * n.val) = true →
    let o := Agent.code ag
    let own := s.get R.LOCK_STAT_n_OWNER 0 n.val
    let gen := s.get R.LOCK_STAT_n_GEN 0 n.val
    let taken := ((s.set R.LOCK_STAT_n_OWNER o 0 n.val).set R.LOCK_STAT_n_BROKEN 0 0 n.val).set R.LOCK_STAT_n_GEN (gen + 1) 0 n.val
    (24 ≤ n.val → ag ≠ .cpu0 → ag ≠ .cpu1 → exec (.lockAcquire ag n) s = .next (s.send (.word ag (16 * own + 65536 * gen)))) ∧
    (n.val < 24 ∨ ag = .cpu0 ∨ ag = .cpu1 →
      (own = 0 → s.bit R.LOCK_STAT_n_BROKEN 0 n.val = false →
        exec (.lockAcquire ag n) s = .next (taken.send (.word ag (1 + 16 * o + 65536 * ((gen + 1) % 65536))))) ∧
      (own = 0 → s.bit R.LOCK_STAT_n_BROKEN 0 n.val = true →
        exec (.lockAcquire ag n) s = .next (taken.send (.word ag (3 + 16 * o + 65536 * ((gen + 1) % 65536))))) ∧
      (own = o → exec (.lockAcquire ag n) s = .next (s.send (.word ag (2 + 16 * own + 65536 * gen)))) ∧
      (own ≠ 0 → own ≠ o → exec (.lockAcquire ag n) s = .next (s.send (.word ag (16 * own + 65536 * gen))))) ∧
    (s.bit R.SHADOW_CTRL_HOLD pgLOCK = false → ∀ v : Word,
      (v ≠ 1 → exec (.lockRelease ag n v) s = .next s) ∧
      (own = o → exec (.lockRelease ag n 1) s =
        .next ((s.set R.LOCK_STAT_n_OWNER 0 0 n.val).set R.LOCK_STAT_n_BROKEN 0 0 n.val)) ∧
      (own ≠ o → exec (.lockRelease ag n 1) s = .next (s.err pgLOCK 0xE01)))

/-- A read of a _LO register gives its word to the agent and latches its _HI partner for that agent; that agent's next read of the _HI register
gives the latched word, whatever has happened to the register since, and uses the latch up. A READ frame of the management SPI sends the
words on MGMT_MISO; a frame with another command byte is void and counts in SYS_MGMT_BAD_CNT. IDCODE and BYPASS scans shift out their bits,
and a SAMPLE one bit string that the spec leaves open. (16_registers.md R500; 16_registers.md R501; 18_package_electrical.md R576) -/
def Obligations.ReadsLatchTheirHighWord : Prop :=
  (∀ (s : State) (ag : Agent) (addr : RegAddr),
    let page := addr.toNat / 0x1000
    let off := addr.toNat % 0x1000 / 4 * 4
    reaches s ag page off = true → page ≠ pgLOCK → ¬ (page = pgHOD ∧ off = 0x100) → isLo page off = true →
    exec (.loRegisterRead ag addr) s = .next ({ s with
      latches := smPut s.latches (latchKey ag (page * 0x1000 + off + 4)) (wordShown s page (off + 4)) }.send (.word ag (wordShown s page off)))) ∧
  (∀ (s : State) (ag : Agent) (addr : RegAddr) (v : Nat),
    let page := addr.toNat / 0x1000
    let off := addr.toNat % 0x1000 / 4 * 4
    reaches s ag page off = true → page ≠ pgLOCK → ¬ (page = pgHOD ∧ off = 0x100) → isLo page off = false → isHi page off = true →
    smFind s.latches (latchKey ag (page * 0x1000 + off)) = some v →
    exec (.loRegisterRead ag addr) s = .next ({ s with latches := smDel s.latches (latchKey ag (page * 0x1000 + off)) }.send (.word ag v))) ∧
  (∀ (s : State) (f : SpiFrame),
    (f.cmd ≠ 0x02 → f.cmd ≠ 0x03 → exec (.mgmtSpiFrame f) s = .next (s.inc R.SYS_MGMT_BAD_CNT)) ∧
    (f.cmd = 0x03 → f.readWords = 0 → exec (.mgmtSpiFrame f) s = .next (s.send (.miso []))) ∧
    (f.cmd = 0x03 → f.readWords = 1 → isLo (f.addr.toNat / 0x1000) (f.addr.toNat % 0x1000 / 4 * 4) = false →
      isHi (f.addr.toNat / 0x1000) (f.addr.toNat % 0x1000 / 4 * 4) = false → f.addr.toNat / 0x1000 ≠ pgLOCK →
      ¬ (f.addr.toNat / 0x1000 = pgHOD ∧ f.addr.toNat % 0x1000 / 4 * 4 = 0x100) →
      reaches s .spi (f.addr.toNat / 0x1000) (f.addr.toNat % 0x1000 / 4 * 4) = true →
      exec (.mgmtSpiFrame f) s = .next (s.send (.miso [wordShown s (f.addr.toNat / 0x1000) (f.addr.toNat % 0x1000 / 4 * 4)])))) ∧
  (∀ (s : State),
    exec (.jtagScan .idcode) s = .next (s.send (.tdo (0x1000_0000 + s.get R.SYS_VARIANT_PART * 0x1000 + 0xB47))) ∧
    (∀ b, exec (.jtagScan (.bypass b)) s = .next (s.send (.tdo (b2n b)))) ∧
    (∃ w, exec (.jtagScan .samplePreload) s = .next ({ s with draws := s.draws + 1 }.send (.tdo w))))

/-- A SYS_MODE write of 5 to 7 is refused: SYS ERR_CODE reads 0x23 and nothing else changes. In INSPECT a request for IDLE, or for SERVICE, sets
PENDING and waits for its boundary; it abandons Filler's retests. A SECTION command in INSPECT makes a PAGE boundary due. A request for IDLE
over still media waits for the next LINE boundary instead. (01_architecture.md R34; 01_architecture.md R35; 01_architecture.md R38;
01_architecture.md R39; 14_health_spares.md R463) -/
def Obligations.RequestsThatWait : Prop :=
  (∀ (s : State) (ag : Agent) (req : Fin 3), reaches s ag pgSYS 0x044 = true →
    exec (.modeReqInvalid ag req) s = .next (s.err pgSYS 0x23)) ∧
  (∀ (s : State) (ag : Agent), reaches s ag pgSYS 0x044 = true → s.calm = true → s.mode = .inspect → s.modePend = none →
    exec (.modeReqIdle ag) s =
      .next (((modeWritten (retestDrop s) 0 false).set R.SYS_MODE_PENDING 1).setPend (some .idle)) ∧
    exec (.modeReqService ag) s =
      .next (((modeWritten (retestDrop s) 4 false).set R.SYS_MODE_PENDING 1).setPend (some .service))) ∧
  (∀ (s : State) (ag : Agent), s.takes ag pgSYS 0x074 = true → s.mode = .inspect →
    exec (.sysSectionCmd ag) s = .next { s with pageDue := true }) ∧
  (∀ (s : State), s.modePend = some .idle → exec .idleRequestStillTimeout s = .next { s with modePend := some .idleLine })

/-- In IDLE, a request for INSPECT or CAPTURE that none of the checks of R35 refuses puts the mode in force, clears the section count and leaves
no request pending; FEED_OWNER is the request's. A request for CALIBRATE with a kind of calibration requested puts CALIBRATE in force, and a
request for SERVICE puts SERVICE in force at once. Outside IDLE a request for INSPECT, CAPTURE or CALIBRATE is refused with 0x22, and on an
SQ7212 one for INSPECT with 0x21: the mode stays. (01_architecture.md R34; 01_architecture.md R35; 01_architecture.md R36) -/
def Obligations.RequestsEnterTheirMode : Prop :=
  ∀ (s : State) (ag : Agent) (fo : Bool), reaches s ag pgSYS 0x044 = true → s.calm = true →
    (s.mode = .idle → modeRefusal (modeWritten (retestDrop s) 1 fo) .inspect fo = none → ∃ t, exec (.modeReqInspect ag fo) s = .next t ∧
      t.mode = .inspect ∧ t.bit R.SYS_MODE_CUR_FO = fo ∧ t.get R.SYS_SECTION_CNT = 0 ∧ t.modePend = none ∧ t.mem = s.mem) ∧
    (s.mode = .idle → modeRefusal (modeWritten (retestDrop s) 2 false) .capture false = none → ∃ t, exec (.modeReqCapture ag) s = .next t ∧
      t.mode = .capture ∧ t.get R.SYS_SECTION_CNT = 0 ∧ t.modePend = none ∧ t.mem = s.mem) ∧
    (s.mode = .idle → modeRefusal (modeWritten (retestDrop s) 3 false) .calibrate false = none → 4 ≤ s.get R.CAL_REQ →
      ∃ t, exec (.modeReqCalibrate ag) s = .next t ∧ t.mode = .calibrate ∧ t.mem = s.mem) ∧
    (s.mode = .idle → ∃ t, exec (.modeReqService ag) s = .next t ∧
      t.mode = .service ∧ t.modePend = none ∧ t.get R.SYS_MODE_ABORTED = 0 ∧ t.mem = s.mem) ∧
    (s.mode ≠ .idle → exec (.modeReqInspect ag fo) s = .next ((modeWritten (retestDrop s) 1 fo).err pgSYS 0x22) ∧
      exec (.modeReqCapture ag) s = .next ((modeWritten (retestDrop s) 2 false).err pgSYS 0x22) ∧
      exec (.modeReqCalibrate ag) s = .next ((modeWritten (retestDrop s) 3 false).err pgSYS 0x22)) ∧
    (s.mode = .idle → s.variant = .sq7212 → exec (.modeReqInspect ag fo) s = .next ((modeWritten (retestDrop s) 1 fo).err pgSYS 0x21))

/-- While entry into SERVICE waits for the axes and every axis is at rest, SERVICE_ENTRY_COMPLETE puts SERVICE in force, ends the wait, and
ABORTED says whether a job or CALIBRATE was aborted; the last event of what was aborted, code SYS ABORT of class 0, goes to the outbox
first. While some axis moves nothing happens. (01_architecture.md R39; 01_architecture.md R35; 13_primer_calibration.md R440) -/
def Obligations.ServiceEntryCompletes : Prop :=
  ∀ (s : State), s.calm = true → s.modePend = some .stopping →
    (allAtRest s = true → ∃ t, exec .serviceEntryComplete s = .next t ∧ t.mode = .service ∧ t.modePend = none ∧
      t.get R.SYS_MODE_PENDING = 0 ∧ t.bit R.SYS_MODE_ABORTED = (s.inJob || s.mode == .calibrate) ∧ t.mem = s.mem ∧
      ((s.inJob || s.mode == .calibrate) = true → ∃ p rest, p.cls = 0 ∧ p.prod = 0x01 ∧ p.kind = 0x01 ∧ t.outbox = s.outbox ++ p :: rest)) ∧
    (allAtRest s = false → exec .serviceEntryComplete s = .next s)

/-- An accepted soft reset of TRK, SCRIM or CAP, in IDLE or SERVICE, sets RESETTING and every other field of the page that a reset does not
leave alone reads its reset value (of TRK, every field that software writes: the tracker derives the others anew); in another mode it is
refused with ERR_CODE 1 and the mode in ERR_INFO. When every crossing has completed, RESETTING clears; while a clock concerned does not run
it stands. FREEZE takes the written value; while it is 1 a snapshot of the page stands, and it is dropped when FREEZE returns to 0.
(16_registers.md R503; 16_registers.md R504; 16_registers.md R505) -/
def Obligations.ResetsAndFreezes : Prop :=
  (∀ (s : State) (ag : Agent) (page : Nat), page ∈ [pgTRK, pgSCRIM, pgCAP] → s.takes ag page 0x008 = true → s.calm = true →
    (s.mode = .idle ∨ s.mode = .service → ∃ t, exec (.blkSoftReset ag page) s = .next t ∧ t.get R.BLK_STAT_RESETTING page = 1 ∧
      (∀ x ∈ pageFields page, keptRow x.1 = false → x.1 ≠ R.BLK_STAT_RESETTING → (page = pgTRK → x.1.acc ≠ .ro) → t.get x.1 x.2.1 x.2.2 = Row.reset x.1 s.variant x.2.1 x.2.2) ∧
      t.heldOf page = [] ∧ t.mem = s.mem) ∧
    (s.mode ≠ .idle → s.mode ≠ .service → exec (.blkSoftReset ag page) s = .next (s.err page 1 s.mode.code))) ∧
  (∀ (s : State) (page : Nat), page < 4096 → pagePresent s page = true → page ≠ pgHOD → s.calm = true →
    s.bit R.BLK_STAT_RESETTING page = true →
    ((resetClocks page).all (clockRuns s) = true → exec (.softResetDone page) s = .next (s.set R.BLK_STAT_RESETTING 0 page)) ∧
    ((resetClocks page).all (clockRuns s) = false → exec (.softResetDone page) s = .next s)) ∧
  (∀ (s : State) (ag : Agent) (page : Nat) (on : Bool), page < 4096 → s.takes ag page 0x008 = true →
    ∃ t, exec (.blkFreeze ag page on) s = .next t ∧ t.bit R.BLK_CTRL_FREEZE page = on ∧
      (smFind t.snaps page).isSome = on ∧ t.mem = s.mem ∧ t.shadow = s.shadow ∧ t.tx = s.tx)

/-- TBL_CMD at an image that breaks no region rule, with no check under way, puts the image in TABLE_STAT 2 with its type; while a check is
under way it is refused with 0x2D. TABLE_CHECK_DONE of an image of type 4 that passes its header checks stages its payload with its digest,
and TABLE_STAT reads 3; of an image that fails one, ERR_CODE of the page named by the check reads the check's code, TABLE_STAT reads 4 and
nothing is staged. With no image the command changes nothing. (16_registers.md R520; 16_registers.md R521; 01_architecture.md R31) -/
def Obligations.TableCommands : Prop :=
  (∀ (s : State) (ag : Agent), s.takes ag pgSYS 0x068 = true →
    let a := s.get64 R.SYS_TBL_ADDR_LO R.SYS_TBL_ADDR_HI
    let h := memBytes s.mem a 64
    let n := leNat ((h.drop 8).take 4)
    let ty := leNat ((h.drop 4).take 1)
    (s.tyrex.image.isSome = true → exec (.sysTblCmd ag) s = .next (s.err pgSYS 0x2D)) ∧
    (s.tyrex.image = none → tableRegion s ty (a + 64) n = none → exec (.sysTblCmd ag) s =
      .next { (s.set R.TYREX_TABLE_STAT 2).set R.TYREX_TABLE_TYPE ty with
        tyrex := { s.tyrex with image := some { hdr := h, dest := a + 64, total := 64 + n, got := 64 + n, local_ := true } } })) ∧
  (∀ (s : State), s.tyrex.image = none → s.calm = true → exec .tableCheckDone s = .next s) ∧
  (∀ (s : State) (x : TableImage), s.tyrex.image = some x → s.calm = true →
    (x.type = 4 → imageCheck { s with tyrex := { s.tyrex with image := none } } x = none → ∃ t, exec .tableCheckDone s = .next t ∧
      t.staged = smPut s.staged 4 (sha (x.hdr ++ memBytes s.mem x.dest (x.total - 64)), memBytes s.mem x.dest (x.total - 64)) ∧
      t.get R.TYREX_TABLE_STAT = 3 ∧ t.get R.TYREX_TABLE_TYPE = 4 ∧ t.tyrex.image = none ∧ t.mem = s.mem) ∧
    (∀ page code info, imageCheck { s with tyrex := { s.tyrex with image := none } } x = some (page, code, info) →
      ∃ t, exec .tableCheckDone s = .next t ∧ t.get R.ERR_CODE page = code ∧ t.get R.TYREX_TABLE_STAT = 4 ∧ t.staged = s.staged ∧
        t.tyrex.image = none ∧ t.mem = s.mem))

/-- TIMING_PB_COMMIT outside CAPTURE, with no commit pending and no live edit, refuses a bank that fails a check with that check's code and
otherwise sets PENDING and clears DIRTY; otherwise it does nothing. A live edit of a lower word is held for its slot; of an upper word puts
both words of the slot into the live bank. A slot that acts in the line latches the time of the first MARK and the counts of the first TRK
interval, and nothing else; while the pixel clocks relock it does nothing. (02_segments_line_timing.md R62; 02_segments_line_timing.md R64;
02_segments_line_timing.md R68) -/
def Obligations.PatternBookCommands : Prop :=
  (∀ (s : State) (ag : Agent), reaches s ag pgTIMING R.TIMING_PB_COMMIT.off = true →
    (s.bit R.TIMING_PB_LIVE_EDIT = true ∨ s.bit R.TIMING_PB_STAT_PENDING = true → exec (.timingPbCommit ag) s = .next s) ∧
    (s.bit R.TIMING_PB_LIVE_EDIT = false → s.bit R.TIMING_PB_STAT_PENDING = false → s.mode ≠ .capture →
      (∀ c, pbCheck (bankSlots s (1 - liveBank s)) (sampleNeed s) = some c →
        exec (.timingPbCommit ag) s = .next ((s.set R.TIMING_PB_REFUSED 1).err pgTIMING c)) ∧
      (pbCheck (bankSlots s (1 - liveBank s)) (sampleNeed s) = none →
        exec (.timingPbCommit ag) s = .next ((s.set R.TIMING_PB_STAT_PENDING 1).set R.TIMING_PB_STAT_DIRTY 0)))) ∧
  (∀ (s : State) (ag : Agent) (slot : Fin 64) (v : Word) (n : Nat), n < 65536 → s.bit R.TIMING_PB_LIVE_EDIT = true → s.mode = .service →
    (s.takes ag pgTIMING (0x400 + 0x200 * liveBank s + 8 * slot.val) = true → exec (.pbLiveEditWrite ag slot false v n) s = .next
      { s.set R.TIMING_PB_STAT_DIRTY 1 with timing := { s.timing with pbHeld := smPut s.timing.pbHeld slot v.toNat } }) ∧
    (s.takes ag pgTIMING (0x400 + 0x200 * liveBank s + 8 * slot.val + 4) = true → ∃ t, exec (.pbLiveEditWrite ag slot true v n) s = .next t ∧
      bankWord t (liveBank s) (2 * slot.val) = ((smFind s.timing.pbHeld slot).getD (bankWord s (liveBank s) (2 * slot.val))) % 2 ^ 32 ∧
      bankWord t (liveBank s) (2 * slot.val + 1) = v.toNat ∧ smFind t.timing.pbHeld slot = none ∧ t.mem = s.mem)) ∧
  (∀ (s : State) (slot : Fin 64) (x : Slot), (liveSlots s)[slot.val]? = some x →
    (relocking s = true ∨ x.isPeriod = true ∨ x.len = 0 ∨ x.acts (bitOf (s.get R.TIMING_LINE_CNT) 0) = false →
      exec (.patternSlotStart slot) s = .next s) ∧
    (relocking s = false → x.isPeriod = false → x.len ≠ 0 → x.acts (bitOf (s.get R.TIMING_LINE_CNT) 0) = true →
      exec (.patternSlotStart slot) s = .next { s with timing := { s.timing with
        mark := if bitOf x.mask 5 && s.timing.mark == none then some s.ts else s.timing.mark
        trk := if bitOf x.mask 6 && s.timing.trk == none then some ([encCount s 0, encCount s 1], axPos s 0) else s.timing.trk } }))

/-- The 1s written to TIMING_SEG_SYNC or TIMING_SHD_SYNC are added to those that stand and wait for the next boundary; a write in the boundary's
own clock waits for the boundary after it. Nothing else changes. (02_segments_line_timing.md R56; 02_segments_line_timing.md R58;
04_correction_float.md R120) -/
def Obligations.SyncRequestsWait : Prop :=
  ∀ (s : State) (ag : Agent) (mask : BitVec 24),
    (reaches s ag pgTIMING R.TIMING_SEG_SYNC.off = true →
      exec (.timingSegSync ag mask false) s = .next (s.set R.TIMING_SEG_SYNC (s.get R.TIMING_SEG_SYNC ||| mask.toNat)) ∧
      exec (.timingSegSync ag mask true) s = .next { s with timing := { s.timing with segLate := s.timing.segLate ||| mask.toNat } }) ∧
    (reaches s ag pgTIMING R.TIMING_SHD_SYNC.off = true →
      exec (.timingShdSync ag mask false) s = .next (s.set R.TIMING_SHD_SYNC (s.get R.TIMING_SHD_SYNC ||| mask.toNat)) ∧
      exec (.timingShdSync ag mask true) s = .next { s with timing := { s.timing with shdLate := s.timing.shdLate ||| mask.toNat } })

/-- With no mode request waiting and the pixel clocks locked, a LINE boundary increments TIMING_LINE_CNT modulo 2^32 and writes no DRAM; with no
shadow waiting, a pending commit swaps the banks and clears PENDING; outside CAPTURE TIMING_LINE_PERIOD becomes the period of the live bank.
While the pixel clocks relock nothing happens. (02_segments_line_timing.md R62; 02_segments_line_timing.md R63; 02_segments_line_timing.md
R64; 17_power_clocks_reset.md R537) -/
def Obligations.LineBoundaryCounts : Prop :=
  ∀ (s : State),
    (relocking s = true → exec .lineBoundary s = .next s) ∧
    (relocking s = false → s.calm = true → s.modePend = none → ∃ t, exec .lineBoundary s = .next t ∧
      t.get R.TIMING_LINE_CNT = (s.get R.TIMING_LINE_CNT + 1) % 2 ^ 32 ∧ t.mem = s.mem ∧
      (s.shadow = [] → s.mode ≠ .capture → t.get R.TIMING_LINE_PERIOD = bankPeriod (bankSlots t (liveBank t)) ∧
        (s.bit R.TIMING_PB_STAT_PENDING = true → liveBank t = (1 - liveBank s) % 2 ∧ t.get R.TIMING_PB_STAT_PENDING = 0) ∧
        (s.bit R.TIMING_PB_STAT_PENDING = false → liveBank t = liveBank s)))

/-- In INSPECT, LINE_JUDGED with well-formed inputs releases exactly one capture line, numbered TIMING_LINE_CNT, or the number before it where
the group ended after the boundary (but for the group of the line before the count restarted, log 106); the line has no position yet, the
lines before it stand, and no DRAM is written. While the pixel clocks relock nothing is released. (03_video_front_end.md R97;
03_video_front_end.md R98) -/
def Obligations.JudgingReleasesALine : Prop :=
  ∀ (s : State) (wrapped : Bool) (taps : List (Nat × List TapIn)) (faults : LineFaults), tapsOk taps = true → lanesOk faults.lanes = true →
    (relocking s = true → exec (.lineJudged wrapped taps faults) s = .next s) ∧
    (relocking s = false → s.calm = true → s.mode = .inspect → s.modePend ≠ some .stopping → (wrapped && s.timing.restarted) = false →
      ∃ t cl, exec (.lineJudged wrapped taps faults) s = .next t ∧ t.capLines = s.capLines ++ [cl] ∧
        cl.line = (s.get R.TIMING_LINE_CNT + 2 ^ 32 - b2n wrapped) % 2 ^ 32 ∧ cl.pos = none ∧ t.mem = s.mem)

/-- A SUSPECT input that has been judged 64 times becomes OPEN where its impedance estimate reaches the OPEN threshold, else SHORT where it is
at or below the SHORT threshold, else OK where the last AFE_SUSPECT_CLEAR fast checks all passed, and else stays SUSPECT. An OPEN or SHORT
input judged 64 times returns to OK where every fast check passed and the estimate lies strictly between the thresholds, and else keeps its
state. Before 64 groups neither command changes anything. (03_video_front_end.md R99; 03_video_front_end.md R100; 03_video_front_end.md
R101) -/
def Obligations.InputStatesResolve : Prop :=
  ∀ (s : State) (k : Fin 24) (c : Fin 10) (e : Entry) (role tap : Nat), (s.slice k).entry = some e → segInput? e c = some (role, tap) →
    let z := s.get R.AFE_CHc_ZEST k c
    let st := s.get R.AFE_CHc_STATE k c
    (s.calm = true → (s.chan k c).groups < 64 → exec (.suspectResolve k c) s = .next s ∧ exec (.openShortReexam k c) s = .next s) ∧
    (s.calm = true → 64 ≤ (s.chan k c).groups → st = chSUSPECT → ∃ t, exec (.suspectResolve k c) s = .next t ∧
      (t.chan k c).groups = 0 ∧
      t.get R.AFE_CHc_STATE k c = (if s.get R.AFE_Z_OPEN_THR k ≤ z then chOPEN else if z ≤ s.get R.AFE_Z_SHORT_THR k then chSHORT
        else if ((s.chan k c).passes.take (s.get R.AFE_SUSPECT_CLEAR k)).all id then chOK else chSUSPECT)) ∧
    (64 ≤ (s.chan k c).groups → st = chOPEN ∨ st = chSHORT → ∃ t, exec (.openShortReexam k c) s = .next t ∧ (t.chan k c).groups = 0 ∧
      t.get R.AFE_CHc_STATE k c =
        (if (s.chan k c).passes.all id ∧ s.get R.AFE_Z_SHORT_THR k < z ∧ z < s.get R.AFE_Z_OPEN_THR k then chOK else st))

/-- At the end of a whole visit of a spare in rotation, the first fit of the spare to the input's converter is kept as its fit and as its
baseline, and the visit goes on. A visit that has not seen its lines is not over: nothing changes. (03_video_front_end.md R103;
03_video_front_end.md R105) -/
def Obligations.SpareVisitKeepsItsFit : Prop :=
  ∀ (s : State) (k : Fin 24) (p : Fin 2) (gain ofs : Int) (e : Entry) (role tap : Nat), -32768 ≤ gain → gain < 65536 →
    (s.slice k).entry = some e → segInput? e (s.get (spVisitRow p) k) = some (role, tap) → inRotation s k p = true →
    ((s.spare k p).lines < (s.spare k p).len → exec (.shadowVisitEnd k p gain ofs) s = .next s) ∧
    ((s.spare k p).len ≤ (s.spare k p).lines → (s.spare k p).abandoned = false →
      smFind (s.slice k).fits (16 * p.val + s.get (spVisitRow p) k) = none → (s.chan k (s.get (spVisitRow p) k)).obs = none →
      ∃ t, exec (.shadowVisitEnd k p gain ofs) s = .next t ∧
        smFind (t.slice k).fits (16 * p.val + s.get (spVisitRow p) k) =
          some { gain := gain, ofs := ofs, base := some (gain, ofs), turn := (s.spare k p).turns } ∧ t.mem = s.mem)

/-- In INSPECT the oldest unplaced line takes a position at TRK_LINE_RESULT; FLOAT_CAPTURE_LINE takes the oldest line out once it has a position
and not before, and in no mode that takes no lines; SCRIM_LINE_READ reads the next output line once every row has closed it, and then the
line after it is next; held ring writes whose slots are free leave the FIFO of their slice, oldest first. (06_tracker.md R187;
04_correction_float.md R128; 01_architecture.md R44; 04_correction_float.md R138) -/
def Obligations.LinesPassFloatAndScrim : Prop :=
  (∀ (s : State) (cl : CapLine), s.calm = true → s.mode = .inspect → lineUnplaced s = some cl →
    ∃ t pos, exec .trkLineResult s = .next t ∧
      t.capLines = s.capLines.map (fun (x : CapLine) => if x.line = cl.line && x.pos.isNone then { cl with pos := some pos } else x)) ∧
  (∀ (s : State), lineUnplaced s = none → exec .trkLineResult s = .next s) ∧
  (∀ (s : State) (cl : CapLine) (rest : List CapLine), s.capLines = cl :: rest →
    (cl.pos = none → exec .floatCaptureLine s = .next s) ∧
    (∀ pos, cl.pos = some pos → linesTaken s = true → s.modePend = some .stopping → exec .floatCaptureLine s = .next { s with capLines := rest }) ∧
    (linesTaken s = false → exec .floatCaptureLine s = .next s) ∧
    (∀ pos, cl.pos = some pos → s.calm = true → s.mode = .inspect → s.modePend ≠ some .stopping →
      ∃ t, exec .floatCaptureLine s = .next t ∧ t.capLines = rest ∧ t.flt.started = true)) ∧
  (∀ (s : State),
    (lineClosed s s.flt.scrimNext = false → exec .scrimLineRead s = .next s) ∧
    (lineClosed s s.flt.scrimNext = true → s.calm = true → s.mode = .inspect → s.modePend = none → s.pageDue = false → s.shadow = [] →
      ∃ t, exec .scrimLineRead s = .next t ∧ t.flt.scrimNext = s.flt.scrimNext + 1)) ∧
  (∀ (s : State) (k : Fin 24), ∃ t, exec (.ringWritePlace k) s = .next t ∧
    t.flt.held = s.flt.held.filter (fun w => !(w.k = k.val && slotFree s w.n)) ∧ t.regs = s.regs ∧ t.flt.scrimNext = s.flt.scrimNext ∧
    (s.flt.held.all (fun w => !(w.k = k.val && slotFree s w.n)) = true → t.mem = s.mem))

/-- An edge at DF_IN is kept as the pin's level and, with a debounce time set, does no more; a level that the pin has held for the debounce time
becomes the qualified level. With DFIN_EN 0 or outside a job that is all; in a job, with no sheet open and the level asserted, Lap also
declares a double feed. A qualified level that is no news changes nothing. (05_scrim_plumb_lap.md R169; 05_scrim_plumb_lap.md R170) -/
def Obligations.DropFeedInput : Prop :=
  ∀ (s : State) (level : Bool),
    (s.get R.LAP_DFIN_DEB ≠ 0 → exec (.dfInRawEdge level) s = .next { s with plumb := { s.plumb with dfRaw := level } }) ∧
    (s.plumb.dfRaw ≠ level ∨ s.plumb.dfQual = level → exec (.dfInQualify level) s = .next s) ∧
    (s.plumb.dfRaw = level → s.plumb.dfQual ≠ level → s.calm = true →
      (s.bit R.LAP_CTRL_DFIN_EN = false ∨ s.inJob = false →
        exec (.dfInQualify level) s = .next { s with plumb := { s.plumb with dfQual := level } }) ∧
      (s.bit R.LAP_CTRL_DFIN_EN = true → s.mode = .inspect → s.plumb.sheet = none → level = !(s.bit R.LAP_CTRL_DFIN_POL) →
        ∃ t, exec (.dfInQualify level) s = .next t ∧ t.plumb.dfQual = level ∧ t.get R.LAP_STAT_DF = 1 ∧
          t.get R.LAP_DF_CNT = min (s.get R.LAP_DF_CNT + 1) (Row.max R.LAP_DF_CNT) ∧ t.mem = s.mem))

/-- The oldest event whose crop is settled goes out as one class 0 record of producer 0x06 with the next event number, and waits no longer. The
end of a second in which no event was held back clears the limits and sends nothing; otherwise one SUPPRESSED event goes out. HEALTH_REQ
puts one health map, kind 0x22 of class 2, into the outbox. (07_straightedge.md R226; 07_straightedge.md R231; 07_straightedge.md R233;
07_straightedge.md R234) -/
def Obligations.StraightedgeReports : Prop :=
  (∀ (s : State) (w : InsWait), s.ins.waits.find? (fun x => decide (2 ≤ x.st)) = some w → ∃ t rest, exec .insEventSend s = .next t ∧
    t.ins.waits = s.ins.waits.erase w ∧ t.ins.evtNum = (s.ins.evtNum + 1) % 2 ^ 32 ∧
    t.outbox = s.outbox ++
      { cls := 0, prod := 0x06, kind := 0x01, item := w.e.pos.map (fun (x : InsPos) => x.n),
        payload := insEvtBytes w.e ((s.ins.evtNum + 1) % 2 ^ 32) (if w.st = 3 then some w.seq else none) } :: rest) ∧
  (∀ (s : State), [1, 2, 3, 4, 5].all (fun c => (smGet (0, 0) s.ins.rate c).2 == 0) = true →
    exec .insRateSecondEnd s = .next { s with ins := { s.ins with rate := [] } }) ∧
  (∀ (s : State), [1, 2, 3, 4, 5].all (fun c => (smGet (0, 0) s.ins.rate c).2 == 0) = false →
    ∃ t p rest, exec .insRateSecondEnd s = .next t ∧ t.ins.rate = [] ∧ t.outbox = s.outbox ++ p :: rest ∧ p.cls = 0 ∧ p.prod = 0x06) ∧
  (∀ (s : State) (ag : Agent), s.takes ag pgINS 0x040 = true → ∃ t p, exec (.insCtrlHealthReq ag) s = .next t ∧
    t.outbox = s.outbox ++ [p] ∧ p.cls = 2 ∧ p.prod = 0x06 ∧ p.kind = 0x22 ∧ t.regs = s.regs)

/-- The first segment of the stagger queue is powered; 20 ms later its supply checks begin and pass a value inside its window, while a value
above it shuts the segment down; PING follows at step 3 once the checks run; 2 s after the light is set the segment is READY. A segment
whose light has gone out is unpowered 1 ms later, and one enabled again meanwhile starts bring-up anew (a choice of the model: log 114). A
rerun of bring-up starts again at PING. Outside its stage each command changes nothing. (02_segments_line_timing.md R60;
02_segments_line_timing.md R61; 03_video_front_end.md R92; 17_power_clocks_reset.md R549) -/
def Obligations.SegmentBringUpSteps : Prop :=
  (∀ (s : State) (k : Nat) (m : List Nat), k < 24 → s.staggerQ = k :: m → (s.slice k).bring = .stagger → ∃ t, exec .segEnStagger s = .next t ∧
    t.staggerQ = m ∧ (t.slice k).bring = .supply ∧ t.get R.SLC_SEG_STAT_POWERED k = 1 ∧ t.get R.SLC_SEG_STAT_READY k = 0) ∧
  (∀ (s : State) (k : Fin 24) (e : Entry), s.calm = true → (s.slice k).bring = .supply → (s.slice k).supChecks = false →
    (s.slice k).entry = some e →
    let mv := s.get R.AFE_SUP_MV k
    (segSupLo e ≤ mv → mv ≤ segSupHi e → ∃ t, exec (.segSupplyWindow k) s = .next t ∧
      (t.slice k).supChecks = true ∧ t.get R.AFE_SUP_OK k = 1 ∧ (t.slice k).bring = .supply) ∧
    (segSupHi e < mv → ∃ t, exec (.segSupplyWindow k) s = .next t ∧ (t.slice k).bring = .off ∧
      t.get R.AFE_SUP_SHUTDOWN k = 1 ∧ t.get R.AFE_SUP_FAULT_HI k = 1 ∧ t.get R.SLC_SEG_STAT_POWERED k = 0)) ∧
  (∀ (s : State) (k : Fin 24), (s.slice k).bring = .supply → (s.slice k).supChecks = true → linkFailed s k = false → (s.slice k).cur = none →
    ∃ t, exec (.segPingStart k) s = .next t ∧ (t.slice k).bring = .link ∧ t.regs = s.regs ∧
      t.tx = s.tx ++ [.seg k.val (linkFrame 0 0 ((s.slice k).nextTag % 16) [])]) ∧
  (∀ (s : State) (k : Fin 24), (s.slice k).bring ≠ .supply → exec (.segPingStart k) s = .next s) ∧
  (∀ (s : State) (k : Fin 24), s.calm = true →
    ((s.slice k).bring = .led → ∃ t, exec (.segLedStable k) s = .next t ∧ (t.slice k).bring = .ready ∧ t.get R.SLC_SEG_STAT_READY k = 1) ∧
    ((s.slice k).bring ≠ .led → exec (.segLedStable k) s = .next s) ∧
    ((s.slice k).bring = .offDelay → segEn s k = false → ∃ t, exec (.segEnDeassertDelay k) s = .next t ∧ (t.slice k).bring = .off ∧
      t.get R.SLC_SEG_STAT_POWERED k = 0 ∧ t.get R.SLC_SEG_STAT_READY k = 0) ∧
    ((s.slice k).bring = .offDelay → segEn s k = true → ∃ t, exec (.segEnDeassertDelay k) s = .next t ∧
      (t.slice k).bring ≠ .offDelay ∧ t.get R.SLC_SEG_STAT_READY k = 0) ∧
    ((s.slice k).bring ≠ .offDelay → exec (.segEnDeassertDelay k) s = .next s)) ∧
  (∀ (s : State) (ag : Agent) (k : Fin 24), s.takes ag (pgSLC k) 0x044 = true → s.mode = .idle → (s.slice k).powered = true →
    segEn s k = true → linkFailed s k = false → ∃ t, exec (.slcLinkRerun ag k) s = .next t ∧
      (t.slice k).bring = .link ∧ t.get R.SLC_SEG_STAT_READY k = 0 ∧ t.get R.SLC_SEG_STAT_LINK_UP k = 0 ∧
      t.tx = s.tx ++ [.seg k.val (linkFrame 0 0 ((s.slice k).nextTag % 16) [])])

/-- A valid answer of status 0 to a temperature read puts its two bytes into LED_TEMP and frees the line; to a PING of bring-up it sets LINK_UP
and RESET goes out with the next tag. With no valid answer in time a request waits for its resend, which sends the same frame with the same
tag and counts in LINK_RETRIES; the fourth attempt lost is a link failure, which for the zero setpoints of a disabled segment leaves it not
READY. A frame that breaks off changes nothing. (02_segments_line_timing.md R71; 02_segments_line_timing.md R72; 02_segments_line_timing.md
R76; 02_segments_line_timing.md R77; 02_segments_line_timing.md R80; 02_segments_line_timing.md R81) -/
def Obligations.SegmentLinkExchange : Prop :=
  ∀ (s : State) (k : Fin 24) (c : LinkCur), s.calm = true → (s.slice k).cur = some c → (s.slice k).queue = [] →
    let frame (body : List (BitVec 8)) : List (BitVec 8) :=
      [0x5A] ++ body ++ [BitVec.ofNat 8 (crc16 body / 256), BitVec.ofNat 8 (crc16 body % 256)]
    (∀ a b : BitVec 8, c.wait = .answer → c.tag < 16 → c.txn.purpose = .temp → linkFailed s k = false →
      ∃ t, exec (.segLinkResponse k (frame [BitVec.ofNat 8 c.tag, 2, a, b])) s = .next t ∧
        t.get R.SLC_LED_TEMP k = a.toNat + 256 * b.toNat ∧ t.get R.SLC_LED_TEMP_VALID k = 1 ∧ (t.slice k).cur = none ∧ t.tx = s.tx) ∧
    (c.wait = .answer → c.tag < 16 → c.txn.purpose = .ping → (s.slice k).bring = .link → linkFailed s k = false →
      ∃ t, exec (.segLinkResponse k (frame [BitVec.ofNat 8 c.tag, 0])) s = .next t ∧
        t.get R.SLC_SEG_STAT_LINK_UP k = 1 ∧ t.tx = s.tx ++ [.seg k.val (linkFrame 7 0 ((s.slice k).nextTag % 16) [])]) ∧
    (c.wait ≠ .answer → exec (.segLinkTimeout k) s = .next s) ∧
    (c.wait = .answer → c.txn.purpose ≠ .poll → c.attempts < 4 →
      ∃ t, exec (.segLinkTimeout k) s = .next t ∧ (t.slice k).cur = some { c with wait := .resend } ∧ t.regs = s.regs ∧ t.tx = s.tx) ∧
    (c.wait = .answer → c.txn.purpose ≠ .poll → 4 ≤ c.attempts →
      ∃ t, exec (.segLinkTimeout k) s = .next t ∧ (t.slice k).cur = none ∧
        (c.txn.purpose ≠ .illumOff ∨ segEn s k = false → t.get R.SLC_SEG_STAT_LINK_FAILED k = 1) ∧
        (c.txn.purpose = .illumOff → t.get R.SLC_SEG_STAT_READY k = 0)) ∧
    (c.wait = .resend → c.txn.purpose.illumination = false →
      ∃ t, exec (.segLinkResend k) s = .next t ∧ (t.slice k).cur = some { c with attempts := c.attempts + 1, wait := .answer } ∧
        t.get R.SLC_LINK_RETRIES k = min (s.get R.SLC_LINK_RETRIES k + 1) (Row.max R.SLC_LINK_RETRIES) ∧
        t.tx = s.tx ++ [.seg k.val (linkFrame c.txn.op c.txn.addr c.tag c.txn.data)]) ∧
    exec (.segLinkFrameDiscard k) s = .next s

/-- An illumination WRITE that waits for room goes out before the next SP and the line of that SP is kept; a PING is sent while the link has
failed and the line is free; a temperature read is sent where the poll is on, the segment powered and its link up. Otherwise these commands
change nothing. (02_segments_line_timing.md R75; 02_segments_line_timing.md R80; 02_segments_line_timing.md R81) -/
def Obligations.SegmentLinkStarts : Prop :=
  ∀ (s : State) (k : Fin 24),
    (∀ (c : LinkCur) (ahead : Fin 3), (s.slice k).cur = some c → c.wait = .room → ∃ t, exec (.segIllumWriteStart k ahead) s = .next t ∧
      (t.slice k).cur = some { c with wait := .answer } ∧ (t.slice k).spLine = some ((s.get R.TIMING_LINE_CNT + ahead.val) % 2 ^ 32) ∧
      t.tx = s.tx ++ [.seg k.val (linkFrame c.txn.op c.txn.addr c.tag c.txn.data)] ∧ t.regs = s.regs) ∧
    (linkFailed s k = true → (s.slice k).powered = true → (s.slice k).cur = none → ∃ t, exec (.segLinkPingPoll k) s = .next t ∧
      t.tx = s.tx ++ [.seg k.val (linkFrame 0 0 ((s.slice k).nextTag % 16) [])] ∧ t.regs = s.regs) ∧
    (linkFailed s k = false → exec (.segLinkPingPoll k) s = .next s) ∧
    (s.get R.SLC_LINK_TEMP_POLL k ≠ 0 → (s.slice k).powered = true → s.bit R.SLC_SEG_STAT_LINK_UP k = true → linkFailed s k = false →
      (s.slice k).cur = none → ∃ t, exec (.segLedTempPoll k) s = .next t ∧
        t.tx = s.tx ++ [.seg k.val (linkFrame 1 0x300 ((s.slice k).nextTag % 16) [2])] ∧ t.regs = s.regs) ∧
    (s.get R.SLC_LINK_TEMP_POLL k = 0 → exec (.segLedTempPoll k) s = .next s)

/-- An averaged sense of a powered segment sets SUP_MV to the averaged microvolts times the ratio, at most 65,535 mV, and SUP_DEV to its
difference from the set value; before the checks run it does no more, and while they run a value above the window shuts the segment down. An
under-voltage that lasts the hold time shuts the segment down; with none standing the command changes nothing. (03_video_front_end.md R90;
03_video_front_end.md R91; 03_video_front_end.md R92) -/
def Obligations.SupplySenseAndHold : Prop :=
  ∀ (s : State) (k : Fin 24), s.calm = true →
    (∀ (uv : List Nat) (e : Entry), uv ≠ [] → (s.slice k).powered = true → (s.slice k).entry = some e →
      let mv := min 65535 (sumN uv * s.get R.AFE_SNS_RATIO k / (8 * 4096 * 1000))
      ((s.slice k).supChecks = false → exec (.supSenseAverage k uv) s =
        .next ((s.set R.AFE_SUP_MV mv k).setI R.AFE_SUP_DEV ((mv : Int) - segSupSet e) k)) ∧
      ((s.slice k).supChecks = true → segSupHi e < mv → ∃ t, exec (.supSenseAverage k uv) s = .next t ∧ t.get R.AFE_SUP_MV k = mv ∧
        (t.slice k).bring = .off ∧ t.get R.AFE_SUP_SHUTDOWN k = 1 ∧ t.get R.AFE_SUP_FAULT_HI k = 1 ∧ t.get R.SLC_SEG_STAT_POWERED k = 0)) ∧
    ((s.slice k).loRun = 0 → exec (.supLoHoldExpire k) s = .next s) ∧
    ((s.slice k).loRun ≠ 0 → ∃ t, exec (.supLoHoldExpire k) s = .next t ∧ (t.slice k).bring = .off ∧ (t.slice k).loRun = 0 ∧
      t.get R.AFE_SUP_SHUTDOWN k = 1 ∧ t.get R.SLC_SEG_STAT_POWERED k = 0)

/-- Each command that the host may give the axis acts: START that no check of R249 refuses begins a move over the used segments, and one that a
check refuses leaves its code; STOP of a running move turns it into a deceleration on the table named, and homing ends with it; HALT ends a
move or a re-phase at once and sets HALTED; HOME begins a homing move, backing off first from an active input, or adopts the driver's place;
REARM arms the disarmed input; REPHASE begins at most half a cycle of steps; SET_POS loads the position. Each command that the host may not
give is refused with 0x510, and with the phase lost STOP and HALT are refused with 0x511, for only HOME is accepted then. (08_roller.md
R241; 08_roller.md R240; 08_roller.md R247; 08_roller.md R249; 08_roller.md R251; 08_roller.md R252; 08_roller.md R258; 08_roller.md R259;
08_roller.md R263; 08_roller.md R264; 08_roller.md R282) -/
def Obligations.HostAxisCommands : Prop :=
  ∀ (s : State) (ag : Agent) (a : Fin 6), s.takes ag (pgAXIS a) 0x040 = true → s.calm = true →
    let bad := startRefused s a (s.bit R.MOT_AXa_MOVE_DIR a) (usedSegs s a) (listBad s a (usedSegs s a))
    (hostMay s a 1 = false → exec (.axisCmdStart ag a) s = .next (s.err (pgAXIS a) 0x510)) ∧
    (hostMay s a 2 = false → ∀ tb, exec (.axisCmdStop ag a tb) s = .next (s.err (pgAXIS a) 0x510)) ∧
    (hostMay s a 3 = false → exec (.axisCmdHalt ag a) s = .next (s.err (pgAXIS a) 0x510)) ∧
    (hostMay s a 4 = false → exec (.axisCmdHome ag a) s = .next (s.err (pgAXIS a) 0x510)) ∧
    (hostMay s a 5 = false → exec (.axisCmdRearm ag a) s = .next (s.err (pgAXIS a) 0x510)) ∧
    (hostMay s a 6 = false → exec (.axisCmdRephase ag a) s = .next (s.err (pgAXIS a) 0x510)) ∧
    (hostMay s a 7 = false → exec (.axisCmdSetPos ag a) s = .next (s.err (pgAXIS a) 0x510)) ∧
    (hostMay s a 1 = true →
      (∀ c, bad = some c → exec (.axisCmdStart ag a) s = .next (s.err (pgAXIS a) c)) ∧
      (bad = none → ¬ (s.bit R.MOT_AXa_MOVE_BUDGET_EN a = true ∧ s.get R.MOT_AXa_BUDGET a = 0) →
        ∃ t m, exec (.axisCmdStart ag a) s = .next t ∧ (t.axis a).move = some m ∧ m.what = .host ∧ m.segs = usedSegs s a ∧ m.steps = 0 ∧
          m.neg = s.bit R.MOT_AXa_MOVE_DIR a ∧ t.get R.MOT_AXa_STAT_BUSY a = 1 ∧ t.mem = s.mem)) ∧
    (s.bit R.MOT_AXa_STAT_PHASE_LOST a = true →
      (hostMay s a 2 = true → ∀ tb, exec (.axisCmdStop ag a tb) s = .next (s.err (pgAXIS a) 0x511)) ∧
      (hostMay s a 3 = true → exec (.axisCmdHalt ag a) s = .next (s.err (pgAXIS a) 0x511))) ∧
    (hostMay s a 2 = true → s.bit R.MOT_AXa_STAT_PHASE_LOST a = false → ∀ (m : Move) (tb : Fin 64), (s.axis a).lead = none → (s.axis a).move = some m → m.budget = none →
      m.committed = false → m.stopping = false → loaded s.rol.ramps tb = true → loaded m.tabs tb = true →
      ∃ t m', exec (.axisCmdStop ag a (some tb)) s = .next t ∧ (t.axis a).move = some m' ∧ m'.stopping = true ∧ m'.segs = [stopSeg tb] ∧
        m'.steps = m.steps ∧ m'.what = (match m.what with | .home _ => .host | w => w) ∧ t.regs = s.regs) ∧
    (hostMay s a 3 = true → s.bit R.MOT_AXa_STAT_PHASE_LOST a = false → (s.axis a).lead = none →
      (∀ (m : Move), (s.axis a).move = some m → ∃ t, exec (.axisCmdHalt ag a) s = .next t ∧
        (t.axis a).move = none ∧ t.get R.MOT_AXa_STAT_HALTED a = 1 ∧ t.get R.MOT_AXa_STAT_BUSY a = 0) ∧
      ((s.axis a).move = none → (s.axis a).rephase ≠ none → ∃ t, exec (.axisCmdHalt ag a) s = .next t ∧
        (t.axis a).rephase = none ∧ t.get R.MOT_AXa_STAT_HALTED a = 1)) ∧
    (hostMay s a 4 = true → axisBusy s a = false →
      (s.bit R.MOT_AXa_HOME_CFG_ADOPT a = true → ∃ t, exec (.axisCmdHome ag a) s = .next t ∧ t.get R.MOT_AXa_STAT_PHASE_LOST a = 0 ∧
        (t.axis a).disarmed = none ∧ (t.axis a).move = none ∧ t.mem = s.mem) ∧
      (s.bit R.MOT_AXa_HOME_CFG_ADOPT a = false → loaded s.rol.ramps (s.get R.MOT_AXa_HOME_TBL a) = true →
        s.bit R.MOT_AXa_EN a = true → estopActive s = false →
        limitAhead s a (limActive s (s.get R.MOT_AXa_HOME_IN a) != s.bit R.MOT_AXa_HOME_DIR a) (some (s.get R.MOT_AXa_HOME_IN a)) = false →
        ∃ t m, exec (.axisCmdHome ag a) s = .next t ∧ (t.axis a).move = some m ∧ t.get R.MOT_AXa_STAT_BUSY a = 1 ∧
          m.what = .home (if limActive s (s.get R.MOT_AXa_HOME_IN a) then 1 else 2))) ∧
    (hostMay s a 5 = true → s.bit R.MOT_AXa_STAT_PHASE_LOST a = false →
      exec (.axisCmdRearm ag a) s = .next (s.modAxis a (fun x => { x with disarmed := none }))) ∧
    (hostMay s a 6 = true → s.bit R.MOT_AXa_STAT_PHASE_LOST a = false → axisBusy s a = false →
      ∃ t n d, exec (.axisCmdRephase ag a) s = .next t ∧ (t.axis a).rephase = some (n, d) ∧
        2 * n ≤ max 1 (s.get R.MOT_AXa_USTEP_CYCLE a) ∧ t.regs = s.regs) ∧
    (hostMay s a 7 = true → s.bit R.MOT_AXa_STAT_PHASE_LOST a = false → axisBusy s a = false →
      ∃ t, exec (.axisCmdSetPos ag a) s = .next t ∧
        axPos t a = ofTwos 48 (s.get64 R.MOT_AXa_SETPOS_LO R.MOT_AXa_SETPOS_HI a) ∧ t.rol = s.rol ∧ t.mem = s.mem)

/-- A write of VEL_SEL that names a table never loaded leaves 0x517; one that the host may make stores table and entry; on a running velocity
move that is not stopping the selection waits for the move, and while a stop is in progress it is lost and counted. Starting a group that no
check of R249 refuses begins the lead's move with the other members present as its followers, each busy, with half the denominator in its
accumulator. (08_roller.md R244; 08_roller.md R250; 08_roller.md R253; 08_roller.md R280) -/
def Obligations.VelocityAndGroups : Prop :=
  (∀ (s : State) (ag : Agent) (a : Fin 6) (v : Word), s.takes ag (pgAXIS a) 0x050 = true → s.calm = true → hostMay s a 0 = true →
    (loaded s.rol.ramps (v.toNat % 64) = false → exec (.axisVelSel ag a v) s = .next (s.err (pgAXIS a) 0x517)) ∧
    let w := (s.set R.MOT_AXa_VEL_SEL_TBL (v.toNat % 64) a).set R.MOT_AXa_VEL_SEL_ENT (v.toNat / 256 % 1024) a
    (loaded s.rol.ramps (v.toNat % 64) = true →
      ((s.axis a).move = none → exec (.axisVelSel ag a v) s = .next w) ∧
      (∀ m, (s.axis a).move = some m → m.velocity = true → loaded m.tabs (v.toNat % 64) = true →
        (m.stopping = false →
          exec (.axisVelSel ag a v) s = .next (setMove w a (some { m with sel := some (v.toNat % 64, v.toNat / 256 % 1024) }))) ∧
        (m.stopping = true → exec (.axisVelSel ag a v) s = .next (w.inc R.MOT_AXa_SEL_LOST a))))) ∧
  (∀ (s : State) (ag : Agent) (g : Fin 2), s.takes ag pgMOT 0x110 = true → s.calm = true →
    let l := s.get R.MOT_GRPg_LEAD 0 g
    let fs := (maskList (s.get R.MOT_GRPg_MEMBERS 0 g) 6).filter (fun f => f != l && Variant.hasAxis s.variant f)
    l ≤ 5 → Variant.hasAxis s.variant l = true → (l :: fs).all (fun b => hostMay s b 1) = true →
    startRefused s l (s.bit R.MOT_AXa_MOVE_DIR l) (usedSegs s l) (listBad s l (usedSegs s l)) = none →
    (∀ f ∈ fs, startRefused s f (s.bit R.MOT_AXa_MOVE_DIR f) [] false = none) → s.bit R.MOT_AXa_MOVE_BUDGET_EN l = false →
    ∃ t m, exec (.grpStart ag g) s = .next t ∧ (t.axis l).move = some m ∧ m.segs = usedSegs s l ∧
      m.followers = fs.map (fun f => (f, s.get R.MOT_GRPg_DDA_DEN 0 g / 2)) ∧ t.get R.MOT_AXa_STAT_BUSY l = 1 ∧
      (∀ f ∈ fs, t.get R.MOT_AXa_STAT_BUSY f = 1 ∧ (t.axis f).lead = some l))

/-- A step of a host move with no budget, no followers and a good readback moves the position by one microstep in its direction; a re-phase step
leaves one fewer to go, and one whose readback fails again ends the re-phase with BALL_FAULT; a good readback of a follower's step clears
its count. A quadrature edge counts by one in its direction, and two at once count an error and leave the count. A raw edge of a debounced
limit input shows in LIM_RAW and, with the input disarmed, counts as chatter. A new qualified level shows in LIM_QUAL, an active one in
LIM_TRIP too, and an ESTOP input sets ESTOP. (08_roller.md R239; 08_roller.md R240; 08_roller.md R255; 08_roller.md R256; 08_roller.md R257;
08_roller.md R259; 08_roller.md R267) -/
def Obligations.StepsEncodersAndLimits : Prop :=
  (∀ (s : State) (a : Fin 6), s.calm = true →
    ((s.axis a).rephase = none → (s.axis a).move = none → (s.axis a).lead = none → ∀ ok, exec (.axisStep a ok) s = .next s) ∧
    ((s.axis a).rephase = none → (s.axis a).move = none → (s.axis a).lead ≠ none →
      exec (.axisStep a true) s = .next (s.modAxis a (fun x => { x with ballBad := 0 }))) ∧
    (∀ n d, s.mode = .idle → s.rol.run = none → (s.axis a).rephase = some (n + 1, d) → 1 ≤ (s.axis a).ballBad →
      ∃ t, exec (.axisStep a false) s = .next t ∧ (t.axis a).rephase = none ∧ t.get R.MOT_AXa_STAT_BALL_FAULT a = 1) ∧
    (∀ n d, (s.axis a).rephase = some (n + 1, d) → ∃ t, exec (.axisStep a true) s = .next t ∧ (t.axis a).rephase = some (n, d) ∧ t.regs = s.regs) ∧
    (∀ m g, (s.axis a).rephase = none → (s.axis a).move = some m → m.what = .host → m.budget = none → m.sel = none → m.followers = [] →
      m.segs[m.idx]? = some g → ∃ t, exec (.axisStep a true) s = .next t ∧
        axPos t a = ofTwos 48 (toTwos 48 (axPos s a + (if m.neg then -1 else 1))) ∧ t.mem = s.mem)) ∧
  (∀ (s : State) (e : Fin 2) (a b : Bool),
    let old := smGet (false, false) s.rol.encLev e
    let d := (quadPhase a b + 4 - quadPhase old.1 old.2) % 4
    ∃ t, exec (.encEdge e a b) s = .next t ∧ smGet (false, false) t.rol.encLev e = (a, b) ∧
      encCount t e = (if d = 1 ∨ d = 3 then
        ofTwos 48 (toTwos 48 (encCount s e + (if (d == 1) != s.bit R.MOT_ENCe_INV 0 e then 1 else -1))) else encCount s e) ∧
      (d = 2 → (e = 0 → t.get R.MOT_ENC0_ERR = min (s.get R.MOT_ENC0_ERR + 1) (Row.max R.MOT_ENC0_ERR)) ∧
        (e = 1 → t.get R.MOT_ENC1_ERR = min (s.get R.MOT_ENC1_ERR + 1) (Row.max R.MOT_ENC1_ERR)))) ∧
  (∀ (s : State) (j : Fin 8) (level : Bool) (frac : Fin 256), s.calm = true → (s.lim j).raw = !level →
    (∀ a, disarmedBy s j = some a → ∃ t, exec (.limRawEdge j level frac) s = .next t ∧ bitOf (t.get R.MOT_LIM_RAW) j = level ∧
      t.get R.MOT_AXa_CHATTER a = min (s.get R.MOT_AXa_CHATTER a + 1) (Row.max R.MOT_AXa_CHATTER) ∧ t.get R.MOT_LIM_QUAL = s.get R.MOT_LIM_QUAL) ∧
    (disarmedBy s j = none → s.get R.MOT_LIMi_DEB 0 j ≠ 0 → ∃ t, exec (.limRawEdge j level frac) s = .next t ∧
      (t.lim j).raw = level ∧ bitOf (t.get R.MOT_LIM_RAW) j = level ∧ (t.lim j).qual = (s.lim j).qual ∧ t.get R.MOT_LIM_QUAL = s.get R.MOT_LIM_QUAL)) ∧
  (∀ (s : State) (j : Fin 8) (level : Bool), s.calm = true →
    ((s.lim j).raw = !level → exec (.limQualify j level) s = .next s) ∧
    (disarmedBy s j ≠ none → exec (.limQualify j level) s = .next s) ∧
    ((s.lim j).raw = level → disarmedBy s j = none → (s.lim j).qual = !level → s.get R.MOT_LIMi_ROLE 0 j < 2 →
      ∃ t, exec (.limQualify j level) s = .next t ∧ (t.lim j).qual = level ∧
        bitOf (t.get R.MOT_LIM_QUAL) j = (level != s.bit R.MOT_LIMi_POL 0 j) ∧
        (level ≠ s.bit R.MOT_LIMi_POL 0 j → bitOf (t.get R.MOT_LIM_TRIP) j = true)) ∧
    ((s.lim j).raw = level → disarmedBy s j = none → (s.lim j).qual = !level → s.get R.MOT_LIMi_ROLE 0 j = 4 → level ≠ s.bit R.MOT_LIMi_POL 0 j →
      s.mode = .idle → ∃ t, exec (.limQualify j level) s = .next t ∧ t.get R.MOT_STAT_ESTOP = 1))

/-- A second low sample of the driver line in a row sets DRV_LOST, with a re-phase where the axis is at rest and its driver there, and the first
does not. A driver fault of a moving axis halts it and sets DRV_FAULT; of an axis at rest it is only kept, and a re-phase in progress falls
due again. The driver's return starts the re-phase of an axis that lost it, and the settled re-phase clears DRV_LOST. A generator that fails
alone is replaced by its shadow, and the shadow that drives the axis, failing alone, by the axis's own repaired generator; without a usable
shadow GEN_FAULT sets and the axis halts. (08_roller.md R262; 08_roller.md R263; 08_roller.md R265; 08_roller.md R266) -/
def Obligations.DriversAndGenerators : Prop :=
  ∀ (s : State) (a : Fin 6), s.calm = true →
    ((s.axis a).aonLow = true → ∃ t, exec (.aonDrvLostSample a true) s = .next t ∧ t.get R.MOT_AXa_STAT_DRV_LOST a = 1 ∧ (t.axis a).aonLow = true ∧
      (s.bit R.MOT_AXa_STAT_DRV_LOST a = false → Variant.hasAxis s.variant a = true → (s.axis a).flt = false → axisBusy s a = false →
        (t.axis a).rephase.isSome = true)) ∧
    ((s.axis a).aonLow = false → exec (.aonDrvLostSample a true) s = .next (s.modAxis a (fun x => { x with aonLow := true }))) ∧
    exec (.aonDrvLostSample a false) s = .next (s.modAxis a (fun x => { x with aonLow := false })) ∧
    (s.mode = .idle → s.rol.run = none →
      ((s.axis a).lead = none → (s.axis a).move = none →
        exec (.drvFault a) s = .next (s.modAxis a (fun x => { x with flt := true, due := x.rephase.isSome, rephase := none }))) ∧
      (∀ m, (s.axis a).lead = none → (s.axis a).move = some m → m.what = .host → ∃ t, exec (.drvFault a) s = .next t ∧
        (t.axis a).move = none ∧ (t.axis a).flt = true ∧ t.get R.MOT_AXa_STAT_DRV_FAULT a = 1 ∧ t.get R.MOT_AXa_STAT_HALTED a = 1) ∧
      (axisBusy s a = false →
        (s.bit R.MOT_AXa_STAT_DRV_LOST a = false → exec (.drvReturn a) s = .next (s.modAxis a (fun x => { x with flt := false }))) ∧
        (s.bit R.MOT_AXa_STAT_DRV_LOST a = true → Variant.hasAxis s.variant a = true → ∃ t, exec (.drvReturn a) s = .next t ∧ (t.axis a).flt = false ∧
          (t.axis a).rephase.isSome = true)) ∧
      (∀ d, (s.axis a).rephase = some (0, d) → ∃ t, exec (.rephaseSettle a) s = .next t ∧
        (t.axis a).rephase = none ∧ t.get R.MOT_AXa_STAT_DRV_LOST a = 0) ∧
      (∀ (r : GenReport), r.active = true → r.shadow = false →
        (∀ g, s.bit R.MOT_AXa_STAT_SPARED a = false → shadowOf s a = some g → (s.axis g).genBad = false → s.bit R.MOT_AXa_STAT_SUBSTITUTING g = false →
          ∃ t, exec (.genParityError a r) s = .next t ∧ t.get R.MOT_AXa_STAT_SPARED a = 1 ∧ t.get R.MOT_AXa_STAT_SUBSTITUTING g = 1 ∧
            (t.axis a).genBad = true) ∧
        (∀ g, s.bit R.MOT_AXa_STAT_SPARED a = true → shadowOf s a = some g → (s.axis a).genBad = false →
          ∃ t, exec (.genParityError a r) s = .next t ∧ t.get R.MOT_AXa_STAT_SPARED a = 0 ∧ t.get R.MOT_AXa_STAT_SUBSTITUTING g = 0 ∧
            (t.axis g).genBad = true) ∧
        (shadowOf s a = none → (s.axis a).lead = none → ∃ t, exec (.genParityError a r) s = .next t ∧
          t.get R.MOT_AXa_STAT_GEN_FAULT a = 1 ∧ (t.axis a).move = none)))

/-- A push in feed-owner INSPECT queues the advance that the registers name, unless four wait (0x515), a value is out of range (0x516) or a
table was never loaded (0x517); elsewhere it is refused with 0x510. A flush empties the queue. The trigger takes the oldest advance, whose
target lies its length and the latched trim beyond the latest position where chaining is off. The end of settling ends the advance and, in
feed-owner INSPECT, asserts PASS_READY and counts a PASS boundary. A deadline missed counts once. The record of an advance leaves when its
settle lines are in. (08_roller.md R268; 08_roller.md R269; 08_roller.md R270; 08_roller.md R271; 08_roller.md R244; 08_roller.md R274;
08_roller.md R276; 08_roller.md R277; 08_roller.md R281) -/
def Obligations.AdvanceQueueAndRecords : Prop :=
  (∀ (s : State) (ag : Agent), s.takes ag pgMOT 0x0D0 = true →
    (feedOwner s = false → exec (.motAdvPush ag) s = .next (s.err pgMOT 0x510)) ∧
    (feedOwner s = true → 4 ≤ s.rol.queue.length → exec (.motAdvPush ag) s = .next (s.err pgMOT 0x515)) ∧
    (feedOwner s = true → s.rol.queue.length < 4 → (s.get R.MOT_ADV_CREEP < 10000 ∨ s.get R.MOT_ADV_LEN = 0) →
      exec (.motAdvPush ag) s = .next (s.err pgMOT 0x516)) ∧
    (feedOwner s = true → s.rol.queue.length < 4 → 10000 ≤ s.get R.MOT_ADV_CREEP → s.get R.MOT_ADV_LEN ≠ 0 →
      (loaded s.rol.ramps (s.get R.MOT_ADV_DEC_TBL) = false ∨ loaded s.rol.ramps (s.get R.MOT_ADV_ACC_TBL) = false) →
      exec (.motAdvPush ag) s = .next (s.err pgMOT 0x517)) ∧
    (feedOwner s = true → s.rol.queue.length < 4 → 10000 ≤ s.get R.MOT_ADV_CREEP → s.get R.MOT_ADV_LEN ≠ 0 →
      loaded s.rol.ramps (s.get R.MOT_ADV_DEC_TBL) = true → loaded s.rol.ramps (s.get R.MOT_ADV_ACC_TBL) = true →
      s.get R.MOT_AXa_SS_INT 0 ≤ (rampAt (rampEnts s.rol.ramps (s.get R.MOT_ADV_DEC_TBL)) 0).1 → s.get R.MOT_FEED_SCALE ≠ 0 →
      let q : AdvReq := { id := s.get R.MOT_ADV_ID, len := s.get R.MOT_ADV_LEN, creep := s.get R.MOT_ADV_CREEP, deadline := s.get R.MOT_ADV_DEADLINE }
      exec (.motAdvPush ag) s =
        .next ((s.modRol (fun r => { r with queue := r.queue ++ [q] })).set R.MOT_ADV_QUEUED (s.rol.queue.length + 1))) ∧
    exec (.motAdvFlush ag) s = .next ((s.modRol (fun r => { r with queue := [] })).set R.MOT_ADV_QUEUED 0)) ∧
  (∀ (s : State) (q : AdvReq) (l : List AdvReq), s.rol.queue = q :: l → s.calm = true →
    (feedOwner s = false → exec .advTrigger s = .next s) ∧
    (feedOwner s = true → s.rol.run = none → (s.bit R.MOT_CTRL_ADV_TRIG = true → s.rol.swath = true) → axisBusy s 0 = false →
      s.bit R.MOT_AXa_STAT_PHASE_LOST 0 = false → limitAhead s 0 false none = false → loaded s.rol.ramps (s.get R.MOT_ADV_ACC_TBL) = true →
      loaded s.rol.ramps (s.get R.MOT_ADV_DEC_TBL) = true → s.bit R.MOT_AXa_EN 0 = true → estopActive s = false →
      (advExit s = true → startRefused s 1 (s.bit R.MOT_AXa_MOVE_DIR 1) [] false = none) →
      s.bit R.MOT_CTRL_ADV_CHAIN = false → ∃ t a, exec .advTrigger s = .next t ∧ t.rol.queue = l ∧ t.rol.run = some a ∧ a.req = q ∧
        a.target = (match s.rol.last with | some x => x.1 | none => s.trk.p) + q.len + s.rol.trim ∧ t.rol.advNum = s.rol.advNum + 1 ∧
        t.get R.MOT_ADV_RUNNING = 1)) ∧
  (∀ (s : State) (a : Adv), s.rol.run = some a → s.calm = true →
    (a.phase ≠ 2 → exec .advSettleDone s = .next s) ∧
    (a.phase = 2 → feedOwner s = false → ∃ t, exec .advSettleDone s = .next t ∧ t.rol.run = none ∧ t.rol.ready = s.rol.ready ∧
      t.get R.MOT_ADV_RUNNING = 0 ∧ t.get R.MOT_PASS_CNT = s.get R.MOT_PASS_CNT) ∧
    (a.phase = 2 → feedOwner s = true → s.shadow = [] → ∃ t, exec .advSettleDone s = .next t ∧ t.rol.run = none ∧ t.rol.ready = true ∧
      t.get R.MOT_ADV_RUNNING = 0 ∧ t.get R.MOT_PASS_CNT = (s.get R.MOT_PASS_CNT + 1) % 2 ^ 32) ∧
    (a.req.deadline = 0 ∨ a.late = true → exec .advDeadlineMiss s = .next s) ∧
    (a.req.deadline ≠ 0 → a.late = false → ∃ t, exec .advDeadlineMiss s = .next t ∧ t.rol.run = some { a with late := true } ∧
      t.get R.MOT_ADV_LATE_CNT = min (s.get R.MOT_ADV_LATE_CNT + 1) (Row.max R.MOT_ADV_LATE_CNT))) ∧
  (∀ (s : State) (a : Adv) (l : List Adv), s.rol.collect = a :: l →
    (a.lines.length < a.need → exec .advRecord s = .next s) ∧
    (a.need ≤ a.lines.length → ∃ t p rest, exec .advRecord s = .next t ∧ t.rol.collect = l ∧ t.outbox = s.outbox ++ p :: rest ∧
      p.cls = 1 ∧ p.prod = 0x07 ∧ p.kind = 0x10))

/-- A raw edge of PASS_SYNC_IN is kept as the pin's level and, with a debounce time set, stamps the first edge of a change and does no more. A
qualified rise stamps PASS_RISE with that time; in feed-owner INSPECT with PASS_READY asserted and no hold it takes PASS_READY away, and in
other INSPECT it counts a PASS boundary. A qualified fall ends the swath. A level that does not stand changes nothing. (08_roller.md R276;
08_roller.md R277; 12_host_link.md R396) -/
def Obligations.PassHandshake : Prop :=
  ∀ (s : State), s.calm = true →
    (∀ level, (s.rol.psRaw = level → exec (.passSyncRawEdge level) s = .next s) ∧
      (s.rol.psRaw ≠ level → s.get R.MOT_PASS_SYNC_DEB ≠ 0 → ∃ t, exec (.passSyncRawEdge level) s = .next t ∧ t.rol.psRaw = level ∧
        t.rol.psQual = s.rol.psQual ∧ t.regs = s.regs ∧
        t.rol.psTs = (if (level != s.bit R.MOT_PASS_SYNC_POL) != s.rol.psQual && s.rol.psTs.isNone then some s.ts else s.rol.psTs))) ∧
    (passActive s = false → exec .passSyncRise s = .next s) ∧
    (passActive s = true → exec .passSyncFall s = .next s) ∧
    (passActive s = true → s.rol.psQual = false →
      (feedOwner s = true → s.rol.ready = true → s.bit R.MOT_HOLD_OUT = false → ∃ t, exec .passSyncRise s = .next t ∧ t.rol.psQual = true ∧
        t.rol.ready = false ∧ t.get64 R.PTP_PASS_RISE_TS_LO R.PTP_PASS_RISE_TS_HI = (s.rol.psTs.getD s.ts) % 2 ^ 64 ∧
        t.get R.MOT_PASS_PROTO_ERR = s.get R.MOT_PASS_PROTO_ERR ∧ t.get R.MOT_PASS_CNT = s.get R.MOT_PASS_CNT) ∧
      (feedOwner s = false → s.mode = .inspect → s.shadow = [] → ∃ t, exec .passSyncRise s = .next t ∧ t.rol.psQual = true ∧
        t.get R.MOT_PASS_CNT = (s.get R.MOT_PASS_CNT + 1) % 2 ^ 32)) ∧
    (passActive s = false → s.rol.psQual = true → ∃ t, exec .passSyncFall s = .next t ∧ t.rol.psQual = false ∧
      t.rol.swath = (s.rol.swath || (feedOwner s && !s.rol.badSwath)) ∧
      t.get64 R.PTP_PASS_FALL_TS_LO R.PTP_PASS_FALL_TS_HI = (s.rol.psTs.getD s.ts) % 2 ^ 64)

/-- In host page mode PAGE_START arms the next page; PAGE_END closes an open page with its record, counts it and makes a PAGE boundary due.
PAUSE while lines move counts a pause and stops the feed for cause HOST; in a pause it only adds the cause. RESUME clears HOST and LAP: with
no cause left the feed starts from PAUSED, and STABILISE follows from STANDBY. RESUME_FORCE also starts the feed from STABILISE.
(09_capture_pacing.md R286; 09_capture_pacing.md R287; 09_capture_pacing.md R303; 09_capture_pacing.md R304) -/
def Obligations.CapturePagesAndPauses : Prop :=
  ∀ (s : State) (ag : Agent), s.takes ag pgCAP 0x05C = true → s.mode = .capture → s.calm = true →
    (s.bit R.CAP_CTRL_PAGE_MODE = false →
      (s.cap.page = none → exec (.capPageStart ag) s = .next (s.modCap (fun c => { c with arm := true })) ∧
        exec (.capPageEnd ag) s = .next (s.modCap (fun c => { c with arm := false }))) ∧
      (∀ pg, s.cap.page = some pg → s.cap.held = none → s.bit R.CAP_CTRL_STOP_AT_END = false → ∃ t p rest, exec (.capPageEnd ag) s = .next t ∧
        t.cap.page = none ∧ t.get R.CAP_STAT_PAGE_OPEN = 0 ∧ t.get R.CAP_PAGE_CNT = min (s.get R.CAP_PAGE_CNT + 1) (Row.max R.CAP_PAGE_CNT) ∧
        t.pageDue = true ∧ t.outbox = s.outbox ++ p :: rest ∧ p.cls = 1 ∧ p.prod = 0x08 ∧ p.kind = 0x10)) ∧
    (s.get R.CAP_STATE = 0 ∨ s.get R.CAP_STATE = 6 → ∃ t, exec (.capPauseCmd ag) s = .next t ∧ t.get R.CAP_STATE = 1 ∧
      bitOf (t.get R.CAP_PAUSE_CAUSE) 1 = true ∧ t.get R.CAP_PAUSE_CNT = min (s.get R.CAP_PAUSE_CNT + 1) (Row.max R.CAP_PAUSE_CNT)) ∧
    (s.get R.CAP_STATE ≠ 0 → s.get R.CAP_STATE ≠ 6 → exec (.capPauseCmd ag) s = .next (capCauseSet s 1 true)) ∧
    (s.get R.CAP_PAUSE_CAUSE = 2 → s.get R.CAP_STATE = 4 → ∃ t, exec (.capResume ag) s = .next t ∧ t.get R.CAP_STATE = 5 ∧
      t.get R.CAP_PAUSE_CAUSE = 0) ∧
    (s.get R.CAP_PAUSE_CAUSE = 2 → s.feedFree false = true → (∀ r, loaded s.rol.ramps (rungAt s r).tbl = true) →
      (s.get R.CAP_STATE = 3 → ∃ t m, exec (.capResume ag) s = .next t ∧ t.get R.CAP_STATE = (if s.cap.first then 0 else 6) ∧
        t.cap.start = true ∧ (t.axis 0).move = some m ∧ m.neg = false ∧ m.velocity = true ∧ t.get R.CAP_PAUSE_CAUSE = 0) ∧
      (s.get R.CAP_STATE = 5 → ∃ t m, exec (.capResumeForce ag) s = .next t ∧ t.get R.CAP_STATE = (if s.cap.first then 0 else 6) ∧
        t.cap.start = true ∧ (t.axis 0).move = some m ∧ m.neg = false))

/-- PACING_UPDATE shows the drain estimate and starts a new tenth of its window; while lines move it selects the rung above the one in force,
unless that is selected already, where the hold time is over, a higher rung is allowed, the fill lies below the high mark and the drain
carries it or fill and credit have left room for 100 ms. The hold of the high mark selects the rung below while lines move and the fill
stands at or above the mark. Otherwise neither selects a rung. (09_capture_pacing.md R298; 09_capture_pacing.md R299; 09_capture_pacing.md
R300) -/
def Obligations.PacingChoosesTheRung : Prop :=
  ∀ (s : State),
    (s.mode ≠ .capture → ∃ t, exec .pacingUpdate s = .next t ∧ t.get R.CAP_RUNG = s.get R.CAP_RUNG ∧
      t.get R.CAP_DRAIN_EST = min (drainEst s / 1024) (Row.max R.CAP_DRAIN_EST) ∧ t.cap.grants = 0 :: s.cap.grants.take 9) ∧
    (s.mode = .capture → s.get R.CAP_STATE = 0 ∨ s.get R.CAP_STATE = 6 →
      (∀ c, s.cap.since = some c → c + 1000000 * s.get R.CAP_RUNG_HOLD ≤ s.now) → s.cap.rung < topRung s → s.get R.CAP_RUNG ≠ s.cap.rung + 1 →
      capFill s < s.get R.CAP_WM_HIGH →
      (drainCarries s (drainEst s) (s.cap.rung + 1) = true ∨ (creditIdle s = true ∧ 10 ≤ s.cap.okTicks)) → ∃ t, exec .pacingUpdate s = .next t ∧
      t.get R.CAP_RUNG = (s.cap.rung + 1) % 2 ^ R.CAP_RUNG.width ∧ t.cap.want = some (s.cap.rung + 1) ∧ t.cap.grants = 0 :: s.cap.grants.take 9) ∧
    (s.mode = .capture → s.get R.CAP_STATE = 0 ∨ s.get R.CAP_STATE = 6 → s.get R.CAP_WM_HIGH ≤ capFill s → s.get R.CAP_RUNG ≠ 0 →
      ∃ t, exec .rungHighHold s = .next t ∧ t.get R.CAP_RUNG = (s.get R.CAP_RUNG - 1) % 2 ^ R.CAP_RUNG.width ∧
        t.cap.want = some (s.get R.CAP_RUNG - 1)) ∧
    (s.mode ≠ .capture ∨ capFill s < s.get R.CAP_WM_HIGH ∨ s.get R.CAP_RUNG = 0 → exec .rungHighHold s = .next s)

/-- With the feed at rest, a pause with no back-up distance goes to PAUSED, and one with a distance backs the feed up first; the line in
progress is the last one let in (a choice of the model: log 115); the back-up's end is PAUSED. In PAUSED the illumination timer brings
STANDBY with the tabs recorded. In STABILISE, tabs back in tolerance restart the feed; their not coming back in time sets LED_UNSTABLE with
an event. A stall sets STALL, with one event a pause. (09_capture_pacing.md R303; 09_capture_pacing.md R307; 09_capture_pacing.md R308) -/
def Obligations.PausesRunTheirCourse : Prop :=
  ∀ (s : State), s.mode = .capture → s.calm = true →
    (s.get R.CAP_STATE = 1 → (s.axis 0).move = none → s.get R.CAP_PAUSE_CAUSE ≠ 0 → s.get R.CAP_BACKUP_NM = 0 →
      ∃ t, exec .capFeedAtRest s = .next t ∧ t.get R.CAP_STATE = 3 ∧ t.cap.start = false ∧ t.cap.ledTimer = true ∧
        t.cap.restAt.isSome = true ∧ t.cap.upTo = some (s.cap.upTo.getD (s.get R.TIMING_LINE_CNT))) ∧
    (s.get R.CAP_STATE = 1 → (s.axis 0).move = none → s.get R.CAP_BACKUP_NM ≠ 0 → capScale s ≠ 0 →
      roundDiv ((s.get R.CAP_BACKUP_NM * 65536 : Nat) : Int) (capScale s) ≠ 0 → s.feedFree true = true →
      loaded s.rol.ramps (s.get R.CAP_BACKUP_TBL) = true → ∃ t m, exec .capFeedAtRest s = .next t ∧ t.get R.CAP_STATE = 2 ∧
        (t.axis 0).move = some m ∧ m.neg = true ∧
        m.budget = some (roundDiv ((s.get R.CAP_BACKUP_NM * 65536 : Nat) : Int) (capScale s)).toNat) ∧
    (s.get R.CAP_STATE ≠ 1 → exec .capFeedAtRest s = .next s) ∧
    (s.get R.CAP_STATE = 2 → (s.axis 0).move = none → s.get R.CAP_PAUSE_CAUSE ≠ 0 →
      ∃ t, exec .capBackupDone s = .next t ∧ t.get R.CAP_STATE = 3) ∧
    (s.get R.CAP_STATE ≠ 2 → exec .capBackupDone s = .next s) ∧
    (s.get R.CAP_STATE = 3 → s.cap.ledTimer = true → ∃ t, exec .capLedStandby s = .next t ∧ t.get R.CAP_STATE = 4 ∧
      t.cap.ledTimer = false ∧ t.cap.tabRec = s.cap.tabs) ∧
    (s.cap.ledTimer = false → exec .capLedStandby s = .next s) ∧
    (s.get R.CAP_STATE = 5 → s.get R.CAP_PAUSE_CAUSE = 0 → (tabsOk s).1 = true → s.feedFree false = true →
      (∀ r, loaded s.rol.ramps (rungAt s r).tbl = true) → ∃ t, exec .capStabiliseCheck s = .next t ∧
      t.get R.CAP_STATE = (if s.cap.first then 0 else 6) ∧ t.cap.start = true) ∧
    ((tabsOk s).1 = false → exec .capStabiliseCheck s = .next s) ∧
    (s.get R.CAP_STATE = 5 → (tabsOk s).1 = false → s.bit R.CAP_STAT_LED_UNSTABLE = false → ∃ t p rest, exec .capStabMax s = .next t ∧
      t.get R.CAP_STAT_LED_UNSTABLE = 1 ∧ t.get R.CAP_STATE = 5 ∧ t.outbox = s.outbox ++ p :: rest ∧ p.cls = 0 ∧ p.prod = 0x08) ∧
    ((tabsOk s).1 = true → exec .capStabMax s = .next s) ∧
    (s.get R.CAP_STATE ∈ [3, 4, 5] → s.get R.CAP_STALL_TO ≠ 0 → ∃ t, exec .capStall s = .next t ∧ t.get R.CAP_STAT_STALL = 1 ∧
      t.cap.stallSent = true ∧ t.get R.CAP_STATE = s.get R.CAP_STATE) ∧
    (s.get R.CAP_STALL_TO = 0 → exec .capStall s = .next s)

/-- With no grant standing and no retraining, of the pending requests that are eligible the one with the highest rank, age plus input number,
and between equal ranks the one of the higher input number, is granted; its age becomes 0, every other eligible input's age grows by one up
to 15, and the age of every input that is not eligible stays. A winner beyond the end of the address space is not performed and is reported.
While a grant stands, or with no eligible request, a round changes nothing. (R319) -/
def Obligations.HighestRankWinsTheRound : Prop :=
  ∀ (s : State) (reqs : List ArbReq), reqsOk reqs = true →
    (s.mc.grant.isSome = true ∨ reqs.all (fun r => !(arbEligible s r)) = true → exec (.arbRound reqs) s = .next s) ∧
    (∀ w ∈ reqs, s.mc.grant = none → s.bit R.MC_STAT_RETRAIN_ACTIVE = false → arbEligible s w = true →
      (∀ r ∈ reqs, arbEligible s r = true → r ≠ w →
        r.input + s.get R.ARB_AGE_i 0 r.input < w.input + s.get R.ARB_AGE_i 0 w.input ∨
        (r.input + s.get R.ARB_AGE_i 0 r.input = w.input + s.get R.ARB_AGE_i 0 w.input ∧ r.input < w.input)) →
      (dramEnd < w.addr + w.bytes → s.calm = true) →
      ∃ t, exec (.arbRound reqs) s = .next t ∧ t.get R.ARB_AGE_i 0 w.input = 0 ∧
        (w.addr + w.bytes ≤ dramEnd → ∃ g, t.mc.grant = some g ∧ g.input = w.input ∧ g.addr = w.addr ∧ g.bytes = w.bytes ∧ g.write = w.write ∧ t.mem = s.mem) ∧
        (dramEnd < w.addr + w.bytes → t.mc.grant = none ∧ t.get R.MC_ADDR_ERR = 1 ∧ t.get R.MC_ADDR_ERR_INPUT = w.input) ∧
        (∀ r ∈ reqs, arbEligible s r = true → r ≠ w → t.get R.ARB_AGE_i 0 r.input = min 15 (s.get R.ARB_AGE_i 0 r.input + 1)) ∧
        (∀ i < 13, (∀ r ∈ reqs, arbEligible s r = true → r.input ≠ i) → t.get R.ARB_AGE_i 0 i = s.get R.ARB_AGE_i 0 i))

/-- A window's start gives every input its quota in force. A refresh that falls due during a transaction is postponed, and at the 8th time it
preempts. The watchdog ends a grant, counts it and names its input. The end of retraining clears ACTIVE and DUE and counts; with none under
way nothing happens. A drift above its limit makes a retraining due, and one at or below it changes nothing. A die above 85 degrees C sets
HOT, and more than 10 K from its training temperature a retraining is due. (10_memory_arbitration.md R320; 10_memory_arbitration.md R324;
10_memory_arbitration.md R325; 10_memory_arbitration.md R329) -/
def Obligations.PortUpkeep : Prop :=
  ∀ (s : State),
    exec .arbWindowStart s = .next { s with mc := { s.mc with left := windowQuotas s, window := (s.mc.window + 1) % 3, dbgUsed := false } } ∧
    (s.mc.grant = none → exec .refreshDue s = .next { s with mc := { s.mc with postponed := 0 } }) ∧
    (∀ g, s.mc.grant = some g →
      (s.mc.postponed < 7 → exec .refreshDue s = .next { s with mc := { s.mc with postponed := s.mc.postponed + 1 } }) ∧
      (7 ≤ s.mc.postponed → exec .refreshDue s = .next (State.inc { s with mc := { s.mc with postponed := 0 } } R.ARB_PREEMPT_REF))) ∧
    (s.calm = true →
      (s.mc.grant = none → ∀ n, exec (.arbWatchdog n) s = .next s) ∧
      (∀ g n, s.mc.grant = some g → g.input < 13 → ∃ t, exec (.arbWatchdog n) s = .next t ∧ t.mc.grant = none ∧
        t.get R.ARB_WDOG_CNT = min (s.get R.ARB_WDOG_CNT + 1) (Row.max R.ARB_WDOG_CNT) ∧ t.get R.ARB_WDOG_LAST = g.input) ∧
      (s.bit R.MC_STAT_RETRAIN_ACTIVE = false → exec .retrainDone s = .next s) ∧
      (s.bit R.MC_STAT_RETRAIN_ACTIVE = true → ∃ t, exec .retrainDone s = .next t ∧ t.get R.MC_STAT_RETRAIN_ACTIVE = 0 ∧
        t.get R.MC_STAT_RETRAIN_DUE = 0 ∧ t.get R.MC_RETRAIN_CNT = min (s.get R.MC_RETRAIN_CNT + 1) (Row.max R.MC_RETRAIN_CNT) ∧
        (s.bit R.HOD_STAT_FALLBACK = false → t.mem = s.mem))) ∧
    (∀ ps limit, (ps ≤ limit → exec (.dqsDrift ps limit) s = .next s) ∧
      (limit < ps → s.bit R.MC_STAT_RETRAIN_DUE = false → ∃ t, exec (.dqsDrift ps limit) s = .next t ∧ t.get R.MC_STAT_RETRAIN_DUE = 1)) ∧
    (∀ (d : Fin 2) (centi tr : Int), smFind s.mc.trainT d = some tr → ∃ t, exec (.dramDieTemperature d centi) s = .next t ∧
      (8500 < centi → t.get R.MC_STAT_HOT = 1) ∧ (1000 < (centi - tr).natAbs → t.bit R.MC_STAT_RETRAIN_DUE = true) ∧
      ((centi - tr).natAbs ≤ 1000 → t.get R.MC_STAT_RETRAIN_DUE = s.get R.MC_STAT_RETRAIN_DUE))

/-- A write's end frees the port, and what waits for it is served: nothing more for most inputs, a telemetry sample for input 1, bytes that go
from Hod's tail to the place written, and nowhere else, for input 9. A read's end with corrected errors counts each of them and names the
address of the last; an uncorrectable error is counted and named too. A scrub read without error advances the scrub address by 64, and past
the end counts a pass and restarts at 0. A migrated chunk unlocks and the next one follows, the last one remaps the section; a retraining
holds it up. A debug write stores its 64 bytes, and a debug read shows the 64 bytes at its address; either way BUSY clears.
(10_memory_arbitration.md R324; 10_memory_arbitration.md R329; 10_memory_arbitration.md R330; 10_memory_arbitration.md R331;
10_memory_arbitration.md R332; 10_memory_arbitration.md R333; 10_memory_arbitration.md R335; 10_memory_arbitration.md R336; 16_registers.md
R523) -/
def Obligations.DramErrorsScrubAndMigration : Prop :=
  (∀ (s : State) (g : Grant), s.mc.grant = some g →
    (g.write = true → ∀ e, eccOk 64 e = true →
      (g.input ≠ 1 → g.input ≠ 9 → exec (.dramTransactionDone e) s = .next { s with mc := { s.mc with grant := none, postponed := 0 } }) ∧
      (g.input = 1 → ∃ t, exec (.dramTransactionDone e) s = .next t ∧ t.mc.grant = none ∧ t.mc.telemetry.getLast? = some s.mc.telNext ∧
        t.mc.telNext = s.mc.telNext + 1 ∧ t.regs = s.regs ∧ t.mem = s.mem) ∧
      (g.input = 9 → ∃ t, exec (.dramTransactionDone e) s = .next t ∧ t.mc.grant = none ∧ t.regs = s.regs ∧ t.outbox = s.outbox ∧
        (Memory.wf s.mem = true → ∀ a, a < g.addr ∨ g.addr + g.bytes ≤ a → memGet t.mem a = memGet s.mem a))) ∧
    (g.write = false → s.mc.marks = [] → ∀ e, eccOk 64 e = true → e.all (fun x => !x.ue) = true →
      ∃ t, exec (.dramTransactionDone e) s = .next t ∧ t.mc.grant = none ∧ t.mem = s.mem ∧
        let l := eccFound s g.addr (g.bytes / 32) e
        (l = [] → t.get R.MC_ECC_CE_CNT = s.get R.MC_ECC_CE_CNT) ∧
        (l ≠ [] → t.get R.MC_ECC_CE_CNT = min (s.get R.MC_ECC_CE_CNT + l.length) (Row.max R.MC_ECC_CE_CNT)) ∧
        (∀ x, l.getLast? = some x → t.get R.MC_ECC_LAST_ADDR_LO = 32 * x.1 % 2 ^ 32 ∧ t.get R.MC_ECC_LAST_UE = 0)) ∧
    (∀ i : Fin 64, g.write = false → g.input = 4 → s.mode = .idle → s.calm = true → s.mc.marks = [] → i.val < g.bytes / 32 →
      ∃ t, exec (.dramTransactionDone [⟨i, true⟩]) s = .next t ∧
        t.mc.grant = none ∧ t.get R.MC_ECC_UE_CNT = min (s.get R.MC_ECC_UE_CNT + 1) (Row.max R.MC_ECC_UE_CNT) ∧
        t.get R.MC_ECC_LAST_ADDR_LO = 32 * (g.addr / 32 + i) % 2 ^ 32 ∧ t.get R.MC_ECC_LAST_UE = 1)) ∧
  (∀ (s : State) (e : List EccError), eccOk 64 e = true → s.mc.grant = none → exec (.dramTransactionDone e) s = .next s) ∧
  (∀ (s : State) (w : Bool),
    let a := s.get64 R.MC_SCRUB_ADDR_LO R.MC_SCRUB_ADDR_HI
    let u : State := { s with mc := { s.mc with passStart := some (s.mc.passStart.getD s.now) } }
    (s.bit R.MC_SCRUB_EN = false ∨ chunkLocked s 0 a = true → ∀ e, eccOk 2 e = true → exec (.scrubRead e w) s = .next s) ∧
    (s.bit R.MC_SCRUB_EN = true → s.bit R.MC_STAT_RETRAIN_ACTIVE = false → chunkLocked s 0 a = false → s.mc.marks = [] →
      (a + 64 < dramEnd → exec (.scrubRead [] w) s = .next (u.set64 R.MC_SCRUB_ADDR_LO R.MC_SCRUB_ADDR_HI (a + 64))) ∧
      (dramEnd ≤ a + 64 → ∃ t, exec (.scrubRead [] w) s = .next t ∧ t.get64 R.MC_SCRUB_ADDR_LO R.MC_SCRUB_ADDR_HI = 0 ∧
        t.get R.MC_SCRUB_PASSES = min (s.get R.MC_SCRUB_PASSES + 1) (Row.max R.MC_SCRUB_PASSES)))) ∧
  (∀ (s : State) (m : Migration) (ch : Nat), s.mc.migration = some m → s.mc.locked = some ch →
    (s.bit R.MC_STAT_RETRAIN_ACTIVE = true → exec .migrationChunk s = .next s) ∧
    (s.bit R.MC_STAT_RETRAIN_ACTIVE = false → ch + 1 < 32768 → exec .migrationChunk s =
      .next { s with mc := { s.mc with locked := none, migration := some { m with chunk := ch + 1 } } }) ∧
    (s.bit R.MC_STAT_RETRAIN_ACTIVE = false → 32768 ≤ ch + 1 → ∃ t, exec .migrationChunk s = .next t ∧ t.mc.locked = none ∧ smFind t.mc.remap m.sect = some m.spare ∧
      t.get R.MC_SECT_RETIRED = min (s.get R.MC_SECT_RETIRED + 1) (Row.max R.MC_SECT_RETIRED))) ∧
  (∀ (s : State) (write : Bool) (a : Nat) (data : List (BitVec 8)), s.mc.dbg = some (write, a, data) → s.mode = .service →
    s.bit R.MC_STAT_RETRAIN_ACTIVE = false → s.mc.marks = [] →
    ∃ t, exec (.debugAccessDone []) s = .next t ∧ t.get R.DBG_STAT_BUSY = 0 ∧ t.mc.dbg = none ∧
      (write = true → t.mem = memPutBytes s.mem a data) ∧
      (write = false → t.mem = s.mem ∧ ∀ w < 16, t.get R.DBG_DATA_w 0 w = leNat (memBytes s.mem (a + 4 * w) 4)))

/-- START of a channel that is not running fetches the descriptor at DESC; of a running one it is refused with 0x711, and a host agent's of
channel 14 or 15 with 0x710. ABORT marks a running channel, and whether it came while elements were still to be issued. A descriptor that
passes the checks runs, one that cannot be read stops with cause 1 and ERR_CODE 0x701. A burst's writes are issued once no write is
outstanding, and wait otherwise; memory takes a write's bytes with its response; an error on the first read stops it with ERROR and cause 5,
and one on the last write with cause 6, also where the descriptor had reported DONE. With every write answered DONE is reported, and the
answer to the last status write of a chain leaves the channel IDLE. (11_dma_hod.md R340; 11_dma_hod.md R341; 11_dma_hod.md R346;
11_dma_hod.md R347; 11_dma_hod.md R351; 11_dma_hod.md R352; 11_dma_hod.md R353; 11_dma_hod.md R354; 11_dma_hod.md R355; 11_dma_hod.md R357) -/
def Obligations.DmaChannelSteps : Prop :=
  ∀ (s : State) (ag : Agent) (c : Fin 16),
    let st := s.get R.DMA_CHc_STATE c
    let x := dmaCh s c
    (s.takes ag (pgDMACH c) 0x048 = true →
      (14 ≤ c.val → Agent.firmware ag = false → exec (.dmaStart ag c) s = .next (s.err (pgDMACH c) 0x710)) ∧
      (c.val < 14 ∨ Agent.firmware ag = true →
        (1 ≤ st → st ≤ 3 → exec (.dmaStart ag c) s = .next (s.err (pgDMACH c) 0x711)) ∧
        (st = 0 ∨ 4 ≤ st → ∃ t, exec (.dmaStart ag c) s = .next t ∧ t.get R.DMA_CHc_STATE c = 1 ∧
          (dmaCh t c).desc = s.get64 R.DMA_CHc_DESC_LO R.DMA_CHc_DESC_HI c ∧ bitOf (t.get R.DMA_ACTIVE) c = true ∧ t.mem = s.mem)) ∧
      (1 ≤ st → st ≤ 3 → exec (.dmaAbort ag c) s = .next (dmaPut s c { x with abort := true, abortRun := x.abortRun || st == 2 })) ∧
      (st = 0 ∨ 4 ≤ st → exec (.dmaAbort ag c) s = .next s)) ∧
    (st = 1 → x.withdrawn = none → x.abort = false →
      (∃ t, exec (.dmaFetchDone c true) s = .next t ∧ t.get R.DMA_CHc_STATE c = 4 ∧ t.get R.DMA_CHc_LAST_CAUSE c = 1 ∧
        t.get R.ERR_CODE (pgDMACH c) = 0x701 ∧ t.mem = s.mem) ∧
      (x.desc < dramEnd → dramMarked s x.desc 64 = false → dmaCheck s c (dmaParse x (memBytes s.mem x.desc 64)) (memBytes s.mem x.desc 64) = none →
        ∃ t, exec (.dmaFetchDone c false) s = .next t ∧ t.get R.DMA_CHc_STATE c = 2 ∧ 0 < (dmaCh t c).burst ∧ (dmaCh t c).idx = (dmaCh t c).burst ∧
          (dmaCh t c).src = leNat (memBytes s.mem x.desc 8) ∧ (dmaCh t c).dst = leNat (memBytes s.mem (x.desc + 8) 8) ∧ t.mem = s.mem)) ∧
    (st = 2 → x.burst ≠ 0 → x.withdrawn = none → x.error = none →
      let first := x.srcAddr (x.idx - x.burst)
      (x.writing = true → dramMarked s first (x.burst * x.srcW) = false →
        let w := dmaWrites x ((List.range x.burst).map (fun i => (x.idx - x.burst + i, memBytes s.mem (x.srcAddr (x.idx - x.burst + i)) x.srcW))) x.hold
        w.1 ≠ [] → ∃ t, exec (.dmaReadDone c none) s = .next t ∧ (dmaCh t c).queue = dmaGroup w.1 ∧ (dmaCh t c).hold = w.2 ∧
          (dmaCh t c).burst = 0 ∧ (dmaCh t c).out = x.out ∧ t.mem = s.mem) ∧
      (x.out = [] → x.earlier = [] → x.hold = [] → dramMarked s first 1 = false → x.undef = false → x.ctrl = 2 ^ 10 → x.idx = 1 → x.burst = 1 →
        x.c0 = 1 → x.c1 = 1 → x.c2 = 1 → ∃ t, exec (.dmaReadDone c none) s = .next t ∧ t.get R.DMA_CHc_STATE c = 3 ∧
          (dmaCh t c).out = [{ addr := x.dst, n := 1, status := false, bytes := [memGet s.mem x.src] }] ∧ t.mem = s.mem) ∧
      (∀ a : BitVec 34, x.out = [] → x.earlier = [] → x.queue = [] → ∃ t, exec (.dmaReadDone c (some a)) s = .next t ∧
        t.get R.DMA_CHc_STATE c = 4 ∧ t.get R.DMA_CHc_LAST_CODE c = 2 ∧ t.get R.DMA_CHc_LAST_CAUSE c = 5)) ∧
    (x.earlier = [] → x.out = [] → ∀ e, exec (.dmaWriteResponse c e) s = .next s) ∧
    (∀ o, x.earlier = [] → x.out = [o] → x.burst = 0 → x.withdrawn = none → x.error = none → st = 3 →
      (∃ t, exec (.dmaWriteResponse c true) s = .next t ∧ t.get R.DMA_CHc_STATE c = 4 ∧ t.get R.DMA_CHc_LAST_CODE c = 2 ∧
        t.get R.DMA_CHc_LAST_CAUSE c = 6) ∧
      (x.queue = [] → x.total ≤ x.idx → x.abortRun = false → x.told = false → ∃ t, exec (.dmaWriteResponse c false) s = .next t ∧ t.get R.DMA_CHc_STATE c = 3 ∧
        t.get R.DMA_CHc_LAST_CODE c = 1 ∧ (dmaCh t c).told = true ∧
        t.get R.DMA_CHc_DONE_CNT c = min (s.get R.DMA_CHc_DONE_CNT c + 1) (Row.max R.DMA_CHc_DONE_CNT)) ∧
      (x.queue = [] → x.total ≤ x.idx → x.abortRun = false → x.told = true → x.abort = false → (bitOf x.ctrl 10 = false ∨ x.next = 0) →
        ∃ t, exec (.dmaWriteResponse c false) s = .next t ∧ t.get R.DMA_CHc_STATE c = 0 ∧ bitOf (t.get R.DMA_ACTIVE) c = false ∧
          (dmaCh t c).out = [] ∧ t.mem = memPutBytes s.mem o.addr o.bytes)) ∧
    (∀ e o, x.earlier = [e] → e.out = [o] → x.out = [] → x.queue = [] → x.burst = 0 → x.withdrawn = none → st = 2 →
      ∃ t, exec (.dmaWriteResponse c true) s = .next t ∧ t.get R.DMA_CHc_STATE c = 4 ∧ t.get R.DMA_CHc_LAST_CODE c = 2 ∧
        t.get R.DMA_CHc_LAST_CAUSE c = 6)

/-- In IDLE, a class 0 or 1 record that need not wait and finds room is taken from the outbox, written whole and committed in one burst. A
commit of a record written whole appends it to its class under the next sequence number; before that it changes nothing. A bad commit
rewinds the record and counts it. A producer held too long on a full tail loses its record. (11_dma_hod.md R361; 11_dma_hod.md R364;
11_dma_hod.md R366; 11_dma_hod.md R369) -/
def Obligations.HodQueuesRecords : Prop :=
  (∀ (s : State) (n : Fin 4) (prod : Nat) (o : OutPkt) (rest : List OutPkt), prod < 256 → n.val < 2 → s.calm = true → s.mode = .idle →
    hodOpenOf s n prod = none → outboxTake s.outbox n prod = some (o, rest) → hodMustWait s n o.item = false →
    hodFits s n (pktSpace o.payload.length) false = true → s.hod.gaps = [] →
    s.bit R.HOD_STAT_FALLBACK = true ∨ hodTail s n + 16 + o.payload.length ≤ hodTailSize n → ∃ t p, exec (.hodPacketWrite n prod) s = .next t ∧
      hodOpenOf t n prod = none ∧ (hc t n).pkts = (hc s n).pkts ++ [p] ∧ p.seq = (hc s n).nextSeq ∧ p.typ = prod * 256 + o.kind ∧
      p.payload = o.payload ∧ t.outbox = rest) ∧
  (∀ (s : State) (n : Fin 4) (prod : Nat) (o : OpenPkt), prod < 256 → s.calm = true → s.mode = .idle → hodOpenOf s n prod = some o →
    (o.written < 16 + o.payload.length → exec (.hodPacketCommit n prod) s = .next s) ∧
    (16 + o.payload.length ≤ o.written → o.flushed = false → o.beyond = false → s.hod.gaps = [] →
      ∃ t p, exec (.hodPacketCommit n prod) s = .next t ∧ hodOpenOf t n prod = none ∧ (hc t n).pkts = (hc s n).pkts ++ [p] ∧
        p.seq = (hc s n).nextSeq ∧ p.typ = prod * 256 + o.kind ∧ p.payload = o.payload ∧ p.gap = false ∧ p.sent = false ∧ p.acked = false ∧
        (hc t n).nextSeq = ((hc s n).nextSeq + 1) % 2 ^ 32) ∧
    (o.flushed = false → o.beyond = false → ∃ t, exec (.hodBadCommit n prod) s = .next t ∧ hodOpenOf t n prod = none ∧
      t.get R.HOD_Cn_REWIND_CNT 0 n = min (s.get R.HOD_Cn_REWIND_CNT 0 n + 1) (Row.max R.HOD_Cn_REWIND_CNT)) ∧
    (o.waiting = false → 2 ≤ n.val ∨ o.written < 16 + o.payload.length → exec (.hodTailHoldExpire n prod) s = .next s) ∧
    (o.waiting = true → ∃ t, exec (.hodTailHoldExpire n prod) s = .next t ∧
      t.get R.HOD_Cn_OVR_CNT 0 n = min (s.get R.HOD_Cn_OVR_CNT 0 n + 1) (Row.max R.HOD_Cn_OVR_CNT) ∧
      (n.val < 2 → hodOpenOf t n prod = none) ∧
      (2 ≤ n.val → ∃ p, hodOpenOf t n prod = some p ∧ p.beyond = true ∧ p.waiting = false ∧ p.written = 16 + o.payload.length)))

/-- In IDLE a flush, with no record open or lost, empties the classes 1 to 3 that it names and leaves those it does not; a flush of no class
changes nothing. With LEG_EN, a read of HOD_LEG_DATA gives the next committed word and advances, or gives 0 and sets EMPTY_READ; MARK keeps
the read point, REWIND goes back to the mark, RELEASE frees the packets that lie wholly before the mark. (11_dma_hod.md R372; 11_dma_hod.md
R373; 11_dma_hod.md R375) -/
def Obligations.HodFlushAndLegacyWindow : Prop :=
  (∀ (s : State) (ag : Agent) (mask : BitVec 4), s.takes ag pgHOD 0x060 = true → s.mode = .idle → s.calm = true →
    (mask = 0 → exec (.hodFlush ag mask) s = .next s) ∧
    (mask ≠ 0 → s.hod.opens = [] → s.hod.gaps = [] → ∃ t, exec (.hodFlush ag mask) s = .next t ∧
      ∀ n ∈ [1, 2, 3], (hc t n).pkts = if bitOf mask.toNat n then [] else (hc s n).pkts)) ∧
  (∀ (s : State) (ag : Agent),
    let n := legClass s
    (reaches s ag pgHOD 0x100 = true →
      (∀ w, s.bit R.HOD_CTRL_LEG_EN = true → (legWords s n)[(hc s n).legRead]? = some w → exec (.hodLegData ag) s =
        .next ((hcSet s n { hc s n with legRead := (hc s n).legRead + 1 }).send (.word ag w))) ∧
      (s.bit R.HOD_CTRL_LEG_EN = false ∨ (legWords s n)[(hc s n).legRead]? = none → exec (.hodLegData ag) s =
        .next ((s.set R.HOD_LEG_EMPTY_READ 1).send (.word ag 0)))) ∧
    (s.takes ag pgHOD 0x108 = true → s.bit R.HOD_CTRL_LEG_EN = true →
      exec (.hodLegMark ag) s = .next ((hcSet s n { hc s n with legMark := some (hc s n).legRead }).set R.HOD_LEG_MARK_VALID 1) ∧
      exec (.hodLegRewind ag) s = .next (hcSet s n { hc s n with legRead := (hc s n).legMark.getD 0 }) ∧
      (∀ m, (hc s n).legMark = some m → s.mode = .idle → s.calm = true → s.hod.gaps = [] → ∃ t, exec (.hodLegRelease ag) s = .next t ∧
        (hc t n).pkts = (legCut n (hc s n).pkts m).2 ∧ (hc t n).legMark = some (m - (legCut n (hc s n).pkts m).1))))

/-- LINK_UP at an advertised speed sets LINK_STAT_UP and the speed, revives a suspended session and marks what was sent and not acknowledged for
sending again; LINK_DOWN clears them, counts, and suspends an open session. Three failed attempts at one speed remove that speed from the
advertisement. A request to renegotiate waits. ARP, NDP, echo and, with DHCP, a lease are answered; other and over-long frames and fragments
are dropped and counted; without a lease a link-local address stands (which one is a free value: log 31), and the port asks again.
(12_host_link.md R379; 12_host_link.md R380; 12_host_link.md R381; 12_host_link.md R382; 12_host_link.md R383; 12_host_link.md R409) -/
def Obligations.LinkComesAndGoes : Prop :=
  ∀ (s : State),
    (∀ v : Fin 5, s.bit R.LINK_STAT_UP = true ∨ v.val = 0 ∨ bitOf (advert s) (v.val - 1) = false → exec (.linkUp v) s = .next (lldpSend s)) ∧
    (∀ v : Fin 5, s.bit R.LINK_STAT_UP = false → v.val ≠ 0 → bitOf (advert s) (v.val - 1) = true → ∃ t, exec (.linkUp v) s = .next t ∧
      t.get R.LINK_STAT_UP = 1 ∧ t.get R.LINK_STAT_SPEED = v.val ∧ t.eth.fails = [] ∧ t.mem = s.mem ∧ t.slices = s.slices ∧
      t.get R.TYREX_SESS_STATE = (if s.get R.TYREX_SESS_STATE = 2 then 1 else s.get R.TYREX_SESS_STATE) ∧
      ∀ n ∈ [0, 1, 2, 3], (hc t n).pkts = (hc s n).pkts.map (fun p => if p.sent && !p.acked then { p with again := true } else p)) ∧
    (s.bit R.LINK_STAT_UP = false → exec .linkDown s = .next s) ∧
    (s.bit R.LINK_STAT_UP = true → ∃ t, exec .linkDown s = .next t ∧ t.get R.LINK_STAT_UP = 0 ∧ t.get R.LINK_STAT_SPEED = 0 ∧
      t.get R.LINK_DOWN_CNT = min (s.get R.LINK_DOWN_CNT + 1) (Row.max R.LINK_DOWN_CNT) ∧ t.eth.removed = 0 ∧ t.eth.downAt = some s.now ∧
      t.get R.TYREX_SESS_STATE = (if s.get R.TYREX_SESS_STATE = 1 then 2 else s.get R.TYREX_SESS_STATE) ∧ t.mem = s.mem ∧ t.slices = s.slices) ∧
    (∀ ag, reaches s ag pgLINK R.LINK_CTRL_RENEG.off = true → exec (.linkCtrlReneg ag) s = .next (s.set R.LINK_CTRL_RENEG 1)) ∧
    (∀ v : Fin 5, s.bit R.LINK_STAT_UP = false → s.bit R.LINK_CTRL_DOWNSHIFT = true → v.val ≠ 0 → bitOf (advert s) (v.val - 1) = true →
      let n := smGet 0 s.eth.fails v.val
      (n < 2 → exec (.linkAttemptFail v) s = .next { s with eth := { s.eth with fails := smPut s.eth.fails v.val (n + 1) } }) ∧
      (2 ≤ n → ∃ t, exec (.linkAttemptFail v) s = .next t ∧ bitOf (advert t) (v.val - 1) = false ∧ smFind t.eth.fails v.val = none ∧
        t.get R.LINK_STAT_DOWNSHIFTED = 1 ∧ t.mem = s.mem)) ∧
    (s.bit R.LINK_STAT_UP = false → ∀ f, exec (.linkFrameReceive f) s = .next s) ∧
    (s.bit R.LINK_STAT_UP = true → ∀ f : RxFrame,
      (frameLimit s f.vlan < f.bytes ∨ f.fragment = true ∨ f.kind = .other → exec (.linkFrameReceive f) s = .next (s.inc R.LINK_RX_DROP)) ∧
      (f.bytes ≤ frameLimit s f.vlan → f.fragment = false →
        (f.kind = .tyrexOther → exec (.linkFrameReceive f) s = .next (s.inc R.TYREX_DROP)) ∧
        (∀ ip m g, f.kind = .dhcpLease ip m g → s.bit R.LINK_CTRL_DHCP = false → exec (.linkFrameReceive f) s = .next (s.inc R.LINK_RX_DROP)) ∧
        (f.kind = .arp → exec (.linkFrameReceive f) s = .next (s.send (.answer 1))) ∧
        (f.kind = .ndp → exec (.linkFrameReceive f) s = .next (s.send (.answer 2))) ∧
        (f.kind = .icmpEcho → exec (.linkFrameReceive f) s = .next (s.send (.answer 3))) ∧
        (∀ ip m g, f.kind = .dhcpLease ip m g → s.bit R.LINK_CTRL_DHCP = true → ∃ t, exec (.linkFrameReceive f) s = .next t ∧
          t.get R.LINK_IP4_CUR = ip.toNat ∧ t.eth.lease = true ∧ t.tx = s.tx ++ [.answer 4] ∧ t.mem = s.mem))) ∧
    (s.bit R.LINK_STAT_UP = true → s.bit R.LINK_CTRL_DHCP = true →
      (s.eth.lease = true → exec .dhcpTimeout s = .next s) ∧
      (s.eth.lease = false → ∃ t, exec .dhcpTimeout s = .next t ∧ 0xA9FE0000 ≤ t.get R.LINK_IP4_CUR ∧ t.get R.LINK_IP4_CUR ≤ 0xA9FEFFFF ∧
        t.mem = s.mem ∧ t.tx = s.tx ++ [.dhcpAsk]))

/-- An LLDP allocation stands in POE_ALLOC_MW and, where the auxiliary input does not decide, the budget is the class's power or the smaller
allocation; with LLDP off it changes nothing. The start-up wait for the PSE ends once. The auxiliary input takes the converter over where it
has priority, and its loss gives it back to a cable that carries Class 4 or more, or ends the bar supply. Classification events are counted
while the cable input has not risen. (12_host_link.md R384; 12_host_link.md R386; 12_host_link.md R387; 12_host_link.md R388;
12_host_link.md R389; 12_host_link.md R390) -/
def Obligations.PowerOverTheCable : Prop :=
  ∀ (s : State), s.calm = true →
    (∀ mw, s.bit R.POE_CTRL_LLDP_EN = false → exec (.lldpAllocation mw) s = .next s) ∧
    (∀ mw, s.bit R.POE_CTRL_LLDP_EN = true → s.slices = [] → s.poe.wait = false → ∃ t, exec (.lldpAllocation mw) s = .next t ∧
      t.get R.POE_ALLOC_MW = mw.toNat ∧ t.bit R.POE_STAT_LLDP_AGREED = (mw.toNat != 0) ∧ t.mem = s.mem ∧
      (s.bit R.POE_STAT_AUX_ACTIVE = false → 4 ≤ s.get R.POE_CLASS_GRANT → t.get R.POE_BUDGET_MW =
        if mw.toNat = 0 then classPower (s.get R.POE_CLASS_GRANT) else min (classPower (s.get R.POE_CLASS_GRANT)) mw.toNat)) ∧
    (s.poe.wait = false → exec .lldpWaitExpire s = .next s) ∧
    (s.poe.wait = true → s.poe.waiting = [] → s.slices = [] → s.staggerQ = [] → ∃ t, exec .lldpWaitExpire s = .next t ∧ t.poe.wait = false ∧
      t.poe.waiting = [] ∧ t.mem = s.mem) ∧
    (∃ t, exec .auxPresent s = .next t ∧ t.pd.auxPresent = true ∧ t.regs = s.regs ∧ t.mem = s.mem ∧
      (s.pd.prio = true → s.pd.state ∈ [3, 4] → t.pd.auxActive = true ∧ t.pd.state = 4) ∧
      (s.pd.prio = false ∨ s.pd.state ∉ [3, 4] → t.pd.auxActive = s.pd.auxActive ∧ t.pd.state = s.pd.state)) ∧
    (∃ t, exec .auxFail s = .next t ∧ t.pd.auxPresent = false ∧ t.pd.auxActive = false ∧ t.regs = s.regs ∧ t.mem = s.mem ∧
      (s.pd.auxActive = false → t.pd.state = s.pd.state) ∧
      (s.pd.auxActive = true → s.pd.input = true → 4 ≤ s.pd.grant → s.pd.state = 4 → t.pd.state = 3) ∧
      (s.pd.auxActive = true → s.pd.input = false ∨ s.pd.grant < 4 → t.pd.state = 6)) ∧
    (s.pd.input = true → ∀ a, exec (.classificationEvent a) s = .next s) ∧
    (s.pd.input = false →
      exec (.classificationEvent true) s = .next { s with pd := { s.pd with acload := s.bit R.POE_STAT_ACLASS } } ∧
      ∃ t, exec (.classificationEvent false) s = .next t ∧ t.pd.events = min 5 (s.pd.events + 1) ∧
        t.pd.grant = min (s.get R.POE_CLASS_REQ) (classByEvents (min 5 (s.pd.events + 1))) ∧ t.regs = s.regs ∧ t.mem = s.mem)

/-- A PTP message of the domain and transport selected acts while PTP is enabled and the link is up, any other is dropped and counted. Announce
makes the clock follow its grandmaster. A Sync of a one-step master gives the offset: up to 1,000 ns it is left to the slew, above that it
is stepped out in IDLE, where FREE clears, and waits in every other mode. Three silent announce intervals end in holdover. PTP_LATCH latches
the time. The rate is a free value (log 31). (12_host_link.md R392; 12_host_link.md R393; 12_host_link.md R394; 12_host_link.md R418) -/
def Obligations.TimeFollowsTheMaster : Prop :=
  ∀ (s : State),
    (s.bit R.LINK_STAT_UP = false → ∀ m, exec (.ptpMessage m) s = .next s) ∧
    (s.bit R.LINK_STAT_UP = true → ∀ m : PtpMsg,
      (s.bit R.PTP_CTRL_EN = false ∨ m.transport ≠ s.get R.PTP_CTRL_TRANSPORT ∨ m.domain ≠ s.get R.PTP_DOMAIN →
        exec (.ptpMessage m) s = .next (s.inc R.LINK_RX_DROP)) ∧
      (s.bit R.PTP_CTRL_EN = true → m.transport = s.get R.PTP_CTRL_TRANSPORT → m.domain = s.get R.PTP_DOMAIN →
        (∀ gm, m.body = .announce gm → ∃ t, exec (.ptpMessage m) s = .next t ∧ t.ptp.locked = true ∧
          t.get64 R.PTP_GM_ID_LO R.PTP_GM_ID_HI = gm.toNat ∧ t.get R.PTP_STAT_HOLDOVER = 0 ∧
          t.get R.PTP_PORT_STATE = (if s.ptp.locked then s.get R.PTP_PORT_STATE else 8) ∧ t.mem = s.mem ∧ t.tx = s.tx) ∧
        (∀ o, m.body = .sync o → s.ptp.locked = false → exec (.ptpMessage m) s = .next s) ∧
        (∀ o : Nat, m.body = .sync (some o) → s.ptp.locked = true →
          let off := timebase s - o - s.ptp.path
          ∃ t, exec (.ptpMessage m) s = .next t ∧ t.get R.PTP_PORT_STATE = 9 ∧ t.tx = s.tx ++ [.ptpReq (s.bit R.PTP_CTRL_P2P)] ∧
            t.mem = s.mem ∧
            (off.natAbs ≤ 1000 → t.ptp.err = off ∧ t.ptp.offset = s.ptp.offset ∧ t.get R.PTP_STAT_FREE = s.get R.PTP_STAT_FREE) ∧
            (1000 < off.natAbs → s.mode = .idle → t.ptp.err = 0 ∧ t.ptp.offset = s.ptp.offset - off ∧ t.get R.PTP_STAT_FREE = 0 ∧
              t.get R.PTP_STAT_STEP_PENDING = 0) ∧
            (1000 < off.natAbs → s.mode ≠ .idle → t.ptp.err = off ∧ t.ptp.offset = s.ptp.offset ∧ t.get R.PTP_STAT_STEP_PENDING = 1 ∧
              t.get R.PTP_STAT_FREE = s.get R.PTP_STAT_FREE)))) ∧
    (s.ptp.locked = false → exec .ptpAnnounceTimeout s = .next s) ∧
    (s.ptp.locked = true → ∃ t, exec .ptpAnnounceTimeout s = .next t ∧ t.ptp.locked = false ∧ t.get R.PTP_STAT_HOLDOVER = 1 ∧
      t.get R.PTP_PORT_STATE = 4 ∧ t.ptp.offset = s.ptp.offset ∧ t.mem = s.mem) ∧
    (∀ ag, s.takes ag pgPTP 0x054 = true → exec (.ptpLatch ag) s = .next (s.set64 R.PTP_TIME_LO R.PTP_TIME_HI s.ts))

/-- While CPU0 is being reset requests are dropped unanswered, and the port drops one that is not for the control port or too long for it. OPEN
is dropped where its header is bad, fails the tag, is answered BAD_VERSION, UNORDERED or BUSY, or opens a session under a number that is not
0 (a free value, log 5), with credit, units sent and control numbers at 0. A KEEPALIVE in turn is answered OK and the next number is
expected; a repeat of an answered number sends the kept answer again, a number 64 or more ahead is dropped, one less far ahead is held.
CLOSE is answered OK and ends the session; silence ends an open one, not a suspended one. (01_architecture.md R28; 12_host_link.md R399;
12_host_link.md R401; 12_host_link.md R402; 12_host_link.md R405; 12_host_link.md R408; 12_host_link.md R409; 12_host_link.md R412) -/
def Obligations.SessionsOpenAndEnd : Prop :=
  (∀ (s : State) (h : Hdr), cpu0Down s = true → (∀ port, exec (.sessionOpen h port) s = .next s) ∧ exec (.sessionKeepalive h) s = .next s) ∧
  (∀ (s : State) (h : Hdr) (port : BitVec 16), s.bit R.LINK_STAT_UP = true → cpu0Down s = false →
    (heard s h ctlPorts = false → exec (.sessionOpen h port) s = .next (s.inc R.LINK_RX_DROP)) ∧
    (heard s h ctlPorts = true → hdrWhole s h = false ∨ h.session ≠ 0 → exec (.sessionOpen h port) s = .next (s.inc R.TYREX_DROP)) ∧
    (heard s h ctlPorts = true → hdrWhole s h = true → h.session = 0 → s.bit R.TYREX_CTRL_LOCKED = false →
      (h.version ≠ 1 → exec (.sessionOpen h port) s = .next (s.send (respMake s h.src 0 6 h.seq.toNat 1 []))) ∧
      (h.version = 1 → h.unordered = true → exec (.sessionOpen h port) s = .next (s.send (respMake s h.src 0 6 h.seq.toNat 7 []))) ∧
      (h.version = 1 → h.unordered = false → s.get R.TYREX_SESS_STATE ≠ 0 → h.src ≠ s.tyrex.host →
        exec (.sessionOpen h port) s = .next (s.send (respMake s h.src 0 6 h.seq.toNat 6 []))) ∧
      (h.version = 1 → h.unordered = false → s.get R.TYREX_SESS_STATE = 0 → ∃ t b, exec (.sessionOpen h port) s = .next t ∧
        t.get R.TYREX_SESS_STATE = 1 ∧ t.get R.TYREX_SESS_ID ≠ 0 ∧ t.get R.TYREX_CREDIT_LIMIT = 0 ∧ t.get R.TYREX_SENT_UNITS = 0 ∧
        t.get R.TYREX_CTL_NEXT = 0 ∧ t.tyrex.host = h.src ∧
        t.tx = s.tx ++ [respMake t h.src (t.get R.TYREX_SESS_ID) 6 h.seq.toNat 0 b] ∧
        b.take 4 = beBytes 2 (s.get R.TYREX_EPOCH) ++ beBytes 2 (s.tyrex.prevEpoch.getD (s.get R.TYREX_EPOCH)) ∧ t.mem = s.mem))) ∧
  (∀ (s : State) (h : Hdr), s.inTurn h = true →
    (∃ t, exec (.sessionKeepalive h) s = .next t ∧ t.tx = s.tx ++ [respMake s s.tyrex.host (s.get R.TYREX_SESS_ID) 6 h.seq.toNat 0 []] ∧
      t.regs = (s.set R.TYREX_CTL_NEXT (h.seq.toNat + 1)).regs ∧ t.hod = s.hod ∧ t.mem = s.mem) ∧
    (∃ t, exec (.sessionClose h) s = .next t ∧ t.tx = s.tx ++ [respMake s s.tyrex.host (s.get R.TYREX_SESS_ID) 6 h.seq.toNat 0 []] ∧ t.get R.TYREX_SESS_STATE = 0 ∧
      t.get R.TYREX_SESS_ID = 0 ∧ t.hod = s.hod ∧ t.mem = s.mem)) ∧
  (∀ (s : State) (h : Hdr), s.hears h = true → cpu0Down s = false → s.tyrex.done = [] →
    let d := (h.seq.toNat + 2 ^ 32 - s.get R.TYREX_CTL_NEXT) % 2 ^ 32
    (∀ x, 2 ^ 31 ≤ d → s.tyrex.resps.find? (fun (y : Nat × Tx) => y.1 == h.seq.toNat) = some x →
      exec (.sessionKeepalive h) s = .next (s.send x.2)) ∧
    (64 ≤ d → d < 2 ^ 31 → exec (.sessionKeepalive h) s = .next s) ∧
    (0 < d → d < 64 → h.unordered = false → smFind s.tyrex.held h.seq.toNat = none → exec (.sessionKeepalive h) s =
      .next { s with tyrex := { s.tyrex with held := smPut s.tyrex.held h.seq.toNat (h, .keepalive) } })) ∧
  (∀ (s : State) (h : Hdr), s.bit R.LINK_STAT_UP = true → cpu0Down s = false →
    (heard s h ctlPorts = false → exec (.sessionKeepalive h) s = .next (s.inc R.LINK_RX_DROP)) ∧
    (heard s h ctlPorts = true → hdrGood s h = false → exec (.sessionKeepalive h) s = .next (s.inc R.TYREX_DROP))) ∧
  (∀ (s : State), (s.get R.TYREX_SESS_STATE ≠ 1 → exec .sessionTimeout s = .next s) ∧
    (s.get R.TYREX_SESS_STATE = 1 → ∃ t, exec .sessionTimeout s = .next t ∧ t.get R.TYREX_SESS_STATE = 0 ∧ t.get R.TYREX_SESS_ID = 0 ∧
      t.get R.TYREX_CREDIT_LIMIT = 0 ∧ t.tyrex.held = [] ∧ t.tyrex.load = none ∧ t.hod = s.hod ∧ t.mem = s.mem ∧ t.tx = s.tx))

/-- REG_READ answers OK with the words that reads one after another give, BAD_LENGTH for 0 or more than 256 words or more than a datagram holds
(the last a choice of the model: log 127), and BAD_ADDR for an address no register has. REG_WRITE and REG_WRITE_BLOCK write as register
writes do and answer OK, or REFUSED with the code of a refusal. The first chunk of a table lands in DRAM after its header and is answered
OK; a later chunk with no load under way is refused with 0xC02. ATTEST holds the body of its quote and answers with it when signed, and is
refused with 0xA20 while the identity has failed. Each moves the expected number on by one. (12_host_link.md R399; 12_host_link.md R400;
12_host_link.md R401; 12_host_link.md R403; 15_security_boot.md R486; 15_security_boot.md R488) -/
def Obligations.ControlRequestsAct : Prop :=
  (∀ (s : State) (h : Hdr), s.inTurn h = true →
    let q := h.seq.toNat
    (∀ (a : BitVec 32) (n : BitVec 16),
      (n.toNat = 0 ∨ 256 < n.toNat ∨ respFits s (4 * n.toNat) = false → ∃ t, exec (.regRead h a n) s = .next t ∧ t.tx = s.tx ++ [respMake s s.tyrex.host (s.get R.TYREX_SESS_ID) 1 q 3 []] ∧
        t.regs = (s.set R.TYREX_CTL_NEXT (q + 1)).regs ∧ t.mem = s.mem) ∧
      (0 < n.toNat → n.toNat ≤ 256 → respFits s (4 * n.toNat) = true → addrBad a.toNat = true → ∃ t, exec (.regRead h a n) s = .next t ∧
        t.tx = s.tx ++ [respMake s s.tyrex.host (s.get R.TYREX_SESS_ID) 1 q 4 []] ∧ t.regs = (s.set R.TYREX_CTL_NEXT (q + 1)).regs ∧ t.mem = s.mem) ∧
      (0 < n.toNat → n.toNat ≤ 256 → respFits s (4 * n.toNat) = true → addrBad a.toNat = false →
        let r := busReads s .host a.toNat false false n.toNat
        ∃ t, exec (.regRead h a n) s = .next t ∧ t.tx = s.tx ++ [respMake r.2 s.tyrex.host (s.get R.TYREX_SESS_ID) 1 q 0 (r.1.flatMap (beBytes 4))] ∧
          t.regs = (r.2.set R.TYREX_CTL_NEXT (q + 1)).regs ∧ t.mem = s.mem)) ∧
    (∀ (a v : BitVec 32), addrBad a.toNat = false →
      let u := busWrite s .host a.toNat v.toNat
      (u.tyrex = s.tyrex → u.bit R.LINK_STAT_UP = true →
        (∀ r ∈ [R.TYREX_SESS_STATE, R.TYREX_SESS_ID, R.TYREX_CTL_NEXT], u.get r = s.get r) →
        (writeRefusal s a.toNat v.toNat = none → ∃ t, exec (.regWrite h a v) s = .next t ∧ t.tx = u.tx ++ [respMake u s.tyrex.host (s.get R.TYREX_SESS_ID) 2 q 0 []] ∧
          t.regs = (u.set R.TYREX_CTL_NEXT (q + 1)).regs ∧ t.mem = u.mem) ∧
        (∀ c, writeRefusal s a.toNat v.toNat = some c → ∃ t, exec (.regWrite h a v) s = .next t ∧
          t.tx = u.tx ++ [respMake u s.tyrex.host (s.get R.TYREX_SESS_ID) 2 q 5 (beBytes 4 c)] ∧ t.regs = (u.set R.TYREX_CTL_NEXT (q + 1)).regs ∧ t.mem = u.mem))) ∧
    (∀ (a v : BitVec 32), addrBad a.toNat = true → ∃ t, exec (.regWrite h a v) s = .next t ∧ t.tx = s.tx ++ [respMake s s.tyrex.host (s.get R.TYREX_SESS_ID) 2 q 4 []] ∧
      t.regs = (s.set R.TYREX_CTL_NEXT (q + 1)).regs ∧ t.mem = s.mem) ∧
    (∀ (a : BitVec 32) (n : BitVec 16) (f : Bool) (ws : List Word),
      (ws.length ≠ n.toNat ∨ n.toNat = 0 ∨ 256 < n.toNat → ∃ t, exec (.regWriteBlock h a n f ws) s = .next t ∧
        t.tx = s.tx ++ [respMake s s.tyrex.host (s.get R.TYREX_SESS_ID) 3 q 3 []] ∧ t.regs = (s.set R.TYREX_CTL_NEXT (q + 1)).regs ∧ t.mem = s.mem) ∧
      (ws.length = n.toNat → 0 < n.toNat → n.toNat ≤ 256 → addrBad a.toNat = false →
        let r := ctlWrites f a.toNat 0 (ws.map (fun (w : Word) => w.toNat)) s
        r.2.tyrex = s.tyrex → r.2.bit R.LINK_STAT_UP = true →
        (∀ x ∈ [R.TYREX_SESS_STATE, R.TYREX_SESS_ID, R.TYREX_CTL_NEXT], r.2.get x = s.get x) → ∃ t,
          exec (.regWriteBlock h a n f ws) s = .next t ∧ t.regs = (r.2.set R.TYREX_CTL_NEXT (q + 1)).regs ∧ t.mem = r.2.mem ∧
          (r.1 = none → t.tx = r.2.tx ++ [respMake r.2 s.tyrex.host (s.get R.TYREX_SESS_ID) 3 q 0 []]) ∧
          (∀ c i, r.1 = some (c, i) → t.tx = r.2.tx ++ [respMake r.2 s.tyrex.host (s.get R.TYREX_SESS_ID) 3 q 5 (beBytes 4 c ++ (beBytes 2 i ++ beBytes 2 0))]))) ∧
    (∀ (d : BitVec 64) (total : BitVec 32) (b : List (BitVec 8)), s.tyrex.image = none → 64 ≤ b.length → 65 ≤ total.toNat →
      b.length ≤ total.toNat → tableRegion s (leAt b 4 1) d.toNat (total.toNat - 64) = none → d.toNat + (b.length - 64) ≤ dramEnd →
      ∃ t, exec (.tableLoad h d 0 total b) s = .next t ∧ t.mem = memPutBytes s.mem d.toNat (b.drop 64) ∧
        t.tx = s.tx ++ [respMake s s.tyrex.host (s.get R.TYREX_SESS_ID) 4 q 0 []] ∧ t.get R.TYREX_TABLE_TYPE = leAt b 4 1 ∧ t.get R.TYREX_CTL_NEXT = (q + 1) % 2 ^ 32 ∧
        (b.length < total.toNat → t.get R.TYREX_TABLE_STAT = 1 ∧ t.tyrex.image = none ∧ ∃ x, t.tyrex.load = some x ∧ x.got = b.length) ∧
        (b.length = total.toNat → t.get R.TYREX_TABLE_STAT = 2 ∧ t.tyrex.load = none ∧ ∃ x, t.tyrex.image = some x ∧ x.hdr = b.take 64)) ∧
    (∀ (d : BitVec 64) (o total : BitVec 32) (b : List (BitVec 8)), o.toNat ≠ 0 → s.tyrex.load = none →
      ∃ t, exec (.tableLoad h d o total b) s = .next t ∧ t.tx = s.tx ++ [respMake s s.tyrex.host (s.get R.TYREX_SESS_ID) 4 q 5 (beBytes 4 0xC02)] ∧
        t.get R.ERR_CODE pgTYREX = 0xC02 ∧ t.mem = s.mem) ∧
    (∀ nonce, nonce.length ≠ 32 ∨ respFits s 480 = false → ∃ t, exec (.attest h nonce) s = .next t ∧ t.tx = s.tx ++ [respMake s s.tyrex.host (s.get R.TYREX_SESS_ID) 5 q 3 []] ∧
      t.tyrex.quote = s.tyrex.quote ∧ t.mem = s.mem) ∧
    (∀ nonce, nonce.length = 32 → respFits s 480 = true → s.bit R.SEC_STAT_ID_FAIL = true → ∃ t, exec (.attest h nonce) s = .next t ∧
      t.tx = s.tx ++ [respMake s s.tyrex.host (s.get R.TYREX_SESS_ID) 5 q 5 (beBytes 4 0xA20)] ∧ t.get R.ERR_CODE pgSEC = 0xA20 ∧ t.mem = s.mem) ∧
    (∀ nonce, nonce.length = 32 → respFits s 480 = true → s.bit R.SEC_STAT_ID_FAIL = false → s.tyrex.quote = none → ∃ t, exec (.attest h nonce) s = .next t ∧ t.tx = s.tx ∧
      t.tyrex.quote = some (q, quoteBody s (s.sec.quotes + 1) nonce, false) ∧ t.sec.quotes = s.sec.quotes + 1 ∧ t.regs = (s.set R.TYREX_CTL_NEXT (q + 1)).regs ∧ t.mem = s.mem)) ∧
  (∀ (s : State), (s.tyrex.quote = none → exec .attestSigned s = .next s) ∧
    (∀ q body k, s.tyrex.quote = some (q, body, k) → s.bit R.LINK_STAT_UP = true → ∃ t, exec .attestSigned s = .next t ∧
      t.tx = s.tx ++ [respMake s s.tyrex.host (s.get R.TYREX_SESS_ID) 5 q 0 body] ∧ t.tyrex.quote = none ∧
      t.sec.quotes = s.sec.quotes ∧ t.sec.quote.take body.length = body ∧ t.mem = s.mem))

/-- CREDIT ahead of the held limit becomes the limit, any other changes nothing. An ACK that names only packets held and sent marks them, and
the marked packets contiguous from the oldest are released; any other is dropped and counted. A NACK of 1 to 32 ranges marks the packets
sent in them for sending again. An event goes in one datagram, a stream packet in fragments within the credit, classes below it having
nothing to send; a datagram beyond the credit is not sent. The retransmission timer marks its packet. (12_host_link.md R404; 12_host_link.md
R405; 12_host_link.md R406; 12_host_link.md R407; 11_dma_hod.md R358; 11_dma_hod.md R367) -/
def Obligations.SendingKeepsToCreditAndAcks : Prop :=
  (∀ (s : State) (h : Hdr), s.bit R.LINK_STAT_UP = true → hdrGood s h = true → s.mode = .idle → s.calm = true →
    (∀ limit, heard s h streamPorts = false → exec (.credit h limit) s = .next (s.inc R.LINK_RX_DROP)) ∧
    (∀ limit, heard s h streamPorts = true → ahead limit.toNat (s.get R.TYREX_CREDIT_LIMIT) = false → exec (.credit h limit) s = .next s) ∧
    (∀ limit, heard s h streamPorts = true → ahead limit.toNat (s.get R.TYREX_CREDIT_LIMIT) = true → ∃ t, exec (.credit h limit) s = .next t ∧
      t.get R.TYREX_CREDIT_LIMIT = limit.toNat ∧ t.hod = s.hod ∧ t.mem = s.mem) ∧
    (∀ (n : Fin 4) upto bitmap, heard s h eitherPorts = true → ackGood s n upto.toNat bitmap.toNat = false → exec (.tyrexAck h n upto bitmap) s = .next (s.inc R.TYREX_DROP)) ∧
    (∀ (n : Fin 4) upto bitmap, heard s h eitherPorts = true → ackGood s n upto.toNat bitmap.toNat = true → s.hod.gaps = [] →
      s.bit R.HOD_CTRL_LEG_EN = false ∨ s.get R.HOD_CTRL_LEG_CLASS ≠ n → ∃ t, exec (.tyrexAck h n upto bitmap) s = .next t ∧
        (hc t n).pkts = dropAcked ((hc s n).pkts.map (fun p => if ackNames upto.toNat bitmap.toNat p.seq then { p with acked := true } else p)) ∧
        t.regs = s.regs ∧ t.tx = s.tx ∧ t.mem = s.mem) ∧
    (∀ (n : Fin 4) rs, heard s h eitherPorts = true → rs.length = 0 ∨ 32 < rs.length → exec (.tyrexNack h n rs) s = .next (s.inc R.TYREX_DROP)) ∧
    (∀ (n : Fin 4) (rs : List (BitVec 32 × BitVec 32)), heard s h eitherPorts = true → 0 < rs.length → rs.length ≤ 32 → ∃ t l, exec (.tyrexNack h n rs) s = .next t ∧
      t.tx = s.tx ++ l ∧ (∀ x ∈ l, ∃ y : List (Nat × Nat), x = nackTx s n y ∧ y.length ≤ 32) ∧ t.regs = s.regs ∧ t.mem = s.mem ∧
      (hc t n).pkts = (hc s n).pkts.map (fun p => if p.sent && !p.acked && rs.any (fun r =>
        decide ((p.seq + 2 ^ 32 - r.1.toNat) % 2 ^ 32 ≤ (r.2.toNat + 2 ^ 32 - r.1.toNat) % 2 ^ 32)) then { p with again := true } else p))) ∧
  (∀ (s : State), (mayStream s = false → (∀ n, exec (.streamSend n) s = .next s) ∧ exec .eventSend s = .next s ∧
      ∀ n q, exec (.rtoExpire n q) s = .next s) ∧
    (mayStream s = true →
      (∀ p, sendNext s 0 = some p → ∃ t, exec .eventSend s = .next t ∧
        t.tx = s.tx ++ [eventTx s p] ∧
        (hc t 0).pkts = (hc s 0).pkts.map (fun q => if q.seq = p.seq then pktSent p else q) ∧ t.mem = s.mem ∧
        (p.sentEpoch = false → t.get R.TYREX_Cn_SENT 0 0 = min (s.get R.TYREX_Cn_SENT 0 0 + 1) (Row.max R.TYREX_Cn_SENT)) ∧
        (p.sentEpoch = true → t.get R.TYREX_Cn_RETX 0 0 = min (s.get R.TYREX_Cn_RETX 0 0 + 1) (Row.max R.TYREX_Cn_RETX))) ∧
      (∀ (n : Fin 4) p, n.val ≠ 0 → (∀ m < n.val, sendNext s m = none) → sendNext s n = some p →
        let b := pktBytes n p
        let len := min (b.length - p.fragPos) (dgramMax s - 24)
        (creditFor s (8 + len) = false → exec (.streamSend n) s = .next s) ∧
        (creditFor s (8 + len) = true → ∃ t, exec (.streamSend n) s = .next t ∧
          t.tx = s.tx ++ [streamTx s n p len] ∧
          t.tyrex.sent = s.tyrex.sent + (8 + len) ∧ t.mem = s.mem ∧
          (hc t n).pkts = (hc s n).pkts.map (fun q => if q.seq = p.seq then
            (if p.fragPos + len < b.length then { p with fragPos := p.fragPos + len } else pktSent p) else q))) ∧
      (∀ (n : Fin 4) (m : Nat) p, m < n.val → sendNext s m = some p → exec (.streamSend n) s = .next s) ∧
      (∀ (n : Fin 4) (q : BitVec 32), ∃ t, exec (.rtoExpire n q) s = .next t ∧ t.regs = s.regs ∧ t.tx = s.tx ∧ t.mem = s.mem ∧
        (hc t n).pkts = (hc s n).pkts.map (fun p => if p.sent && !p.acked && p.seq == q.toNat then { p with again := true } else p))))

/-- In CALIBRATE, with the tile placed by hand, a requested kind of a READY segment starts a run whose first stage waits for TILE_READY; outside
the modes of R429 none starts. TILE_READY, and the end of a capture whose lines are in, go on to the next stage; the waits of R423 and R424
open the capture; a capture short of its lines changes nothing, and no more does a reticle pass short of its travel, whose end stops FEED. A
run with no stage left ends, and lock 23 with it. (13_primer_calibration.md R422; 13_primer_calibration.md R423; 13_primer_calibration.md
R424; 13_primer_calibration.md R425; 13_primer_calibration.md R429; 13_primer_calibration.md R430; 13_primer_calibration.md R432;
16_registers.md R516) -/
def Obligations.CalibrationRunsByStages : Prop :=
  (∀ (s : State), s.calm = true →
    (s.mode = .inspect ∨ s.mode = .service → exec .calRunStart s = .next s) ∧
    (s.cal.run = none → ∀ ag, s.takes ag pgCAL 0x044 = true → exec (.calCmdTileReady ag) s = .next s) ∧
    exec .calDarkWait s = .next s ∧ exec .calIllumSettle s = .next s ∧ exec .calCaptureDone s = .next s ∧
    exec .calReticleRunDone s = .next s ∧
    (s.mode = .calibrate → s.bit R.CAL_CTRL_SHUT_AUTO = false → bitOf (s.get R.CAL_REQ) 0 = true → (lockAttempt s 23 3).1 % 4 ≠ 0 →
      readyOf s s.cal.pendAfe ≠ [] → ∃ t r, exec .calRunStart s = .next t ∧ t.get R.CAL_STAT_RUNNING = 1 ∧ t.cal.run = some r ∧
        r.phase = .wait ∧ r.stages.head? = some .tileIn ∧ r.slices.map (·.1) = t.runSlices ∧ t.mem = s.mem)) ∧
  (∀ (s : State) (r : CalRun), s.calmRun = true → s.cal.run = some r →
    (∀ ag st rest, s.takes ag pgCAL 0x044 = true → s.bit R.CAL_CTRL_SHUT_AUTO = false → r.stages = .tileIn :: st :: rest → stageLines st ≠ 0 →
      ∃ t q, exec (.calCmdTileReady ag) s = .next t ∧ t.cal.run = some q ∧ q.stages = st :: rest ∧ q.phase = .wait ∧ t.mem = s.mem) ∧
    (r.phase = .wait → r.stage = some .trim ∨ r.stage = some .dark →
      exec .calDarkWait s = .next { s with cal := { s.cal with run := some { r with phase := .run } } }) ∧
    (r.phase = .wait → r.stage = some .white ∨ r.stage = some .verify ∨ r.stage = some .check →
      exec .calIllumSettle s = .next { s with cal := { s.cal with run := some { r with phase := .run } } }) ∧
    (r.phase = .run → r.stage = some .white → r.lines < 256 → exec .calCaptureDone s = .next s) ∧
    (∀ rest, r.phase = .run → r.stages = .white :: .dark :: rest → 256 ≤ r.lines → ∃ t q, exec .calCaptureDone s = .next t ∧
      t.cal.run = some q ∧ q.stages = .dark :: rest ∧ q.phase = .wait ∧ q.lines = 0 ∧
      q.slices.map (fun x => (x.1, x.2.white)) = r.slices.map (fun x => (x.1, x.2.acc)) ∧ t.mem = s.mem) ∧
    (r.phase = .run → r.stage = some .reticle → r.passed = false → exec .calReticleRunDone s = .next s) ∧
    (r.phase = .run → r.stage = some .reticle → r.passed = true → bitOf r.bar kBASE = false → (s.axis (leadOf s 0)).move = none → ∃ t q,
      exec .calReticleRunDone s = .next t ∧ t.cal.run = some q ∧ q.phase = .stop ∧ q.stages = r.stages ∧ t.regs = s.regs ∧ t.mem = s.mem) ∧
    (r.stages = [] → r.slices = [] → s.slices = [] → s.mode = .idle → ∃ t, exec .calRunEnd s = .next t ∧ t.cal.run = none ∧
      t.get R.CAL_STAT_RUNNING = 0 ∧ (s.get R.LOCK_STAT_n_OWNER 0 23 = 3 → t.get R.LOCK_STAT_n_OWNER 0 23 = 0) ∧ t.mem = s.mem))

/-- A kind that has been pending for CAL_OVERDUE_S sets CAL_STAT_OVERDUE once; with the time at 0, the kind not pending or already reported
nothing happens. A record whose write passes its check stands in the slot that was not in use, and leaves the queue. One that cannot be
written, no spare sector being left, is tried in the other slot, and where that fails too leaves the queue with CAL_STAT_UNSTORED set and
the records as they were. With no record waiting nothing happens. (13_primer_calibration.md R429; 13_primer_calibration.md R436;
14_health_spares.md R462) -/
def Obligations.CalibrationRecordsAreKept : Prop :=
  ∀ (s : State),
    (∀ kind : Fin 5, s.get R.CAL_OVERDUE_S = 0 ∨ bitOf (s.get R.CAL_PENDING) kind = false ∨ bitOf s.cal.overdue kind = true →
      exec (.calOverdue kind) s = .next s) ∧
    (∀ kind : Fin 5, s.get R.CAL_OVERDUE_S ≠ 0 → bitOf (s.get R.CAL_PENDING) kind = true → bitOf s.cal.overdue kind = false →
      ∃ t e, exec (.calOverdue kind) s = .next t ∧ t.get R.CAL_STAT_OVERDUE = 1 ∧ bitOf t.cal.overdue kind = true ∧
        t.outbox.take (s.outbox.length + 1) = s.outbox ++ [e] ∧ e.cls = 0 ∧ e.prod = 0x11 ∧ t.mem = s.mem) ∧
    (s.cal.stores = [] → ∀ ok, exec (.calRecordStore ok) s = .next s) ∧
    (∀ x l, s.cal.stores = x :: l →
      let key := calKey x.kind x.slice
      let first := ((recInUse s key).map (fun y => 1 - y.2)).getD 0
      let slot := if x.tried then 1 - first else first
      (∃ t, exec (.calRecordStore true) s = .next t ∧ t.cal.stores = l ∧ smFind t.cal.nor (2 * key + slot) = some x.bytes ∧ t.mem = s.mem) ∧
      (s.get R.SPARE_NOR_SPARES_LEFT = 0 → x.tried = false → ∃ t, exec (.calRecordStore false) s = .next t ∧
        t.cal.stores = { x with tried := true } :: l ∧ t.cal.nor = s.cal.nor ∧ t.get R.CAL_STAT_UNSTORED = s.get R.CAL_STAT_UNSTORED ∧ t.mem = s.mem) ∧
      (s.get R.SPARE_NOR_SPARES_LEFT = 0 → x.tried = true → ∃ t, exec (.calRecordStore false) s = .next t ∧ t.cal.stores = l ∧ t.cal.nor = s.cal.nor ∧
        t.get R.CAL_STAT_UNSTORED = 1 ∧ t.mem = s.mem))

/-- The readings of the thermal, voltage and process monitors stand in their registers, alarms with them; a valid sensor at 125 degrees C or
more resets the block with cause THERMAL. A housekeeping run starts when due with the reference ready, and waits or is counted late
otherwise; a finished entry shows the mean of its samples; one that went without a result for too long is STALE. One urgent request stands
at a time, a second is counted, and its sample ends it, one that began before the reference went off too. (14_health_spares.md R443;
14_health_spares.md R445; 14_health_spares.md R446; 14_health_spares.md R447; 14_health_spares.md R448; 14_health_spares.md R449;
14_health_spares.md R450; 14_health_spares.md R452) -/
def Obligations.MonitorsAndHousekeeping : Prop :=
  ∀ (s : State),
    (∀ centi, thermOk centi = true → s.calm = true → s.cal.seen = 0 → s.pwr.cooling = false →
      let hot := (hottest (thermalRead s centi)).any (fun x => decide ((12500 : Int) ≤ x.2))
      (hot = false → ∃ t, exec (.monThermalRead centi) s = .next t ∧ t.mem = s.mem ∧ t.slices = s.slices ∧
        ∀ i < 32, bitOf (t.get R.MON_T_FAILED) i = false →
          t.getI R.MON_Ti 0 i = centi.getD i 0 ∧ t.get R.MON_Ti_VALID 0 i = 1 ∧ t.get R.MON_Ti_SUBST 0 i = 0) ∧
      (hot = true → ∃ t, exec (.monThermalRead centi) s = .next t ∧ t.get R.RST_CAUSE = 3 ∧ t.pwr.boot = .held ∧ t.pwr.cooling = true)) ∧
    (∀ mv : List Nat, mv.length = 16 → mv.all (fun v => decide (v < 65536)) = true → ∃ t, exec (.monVoltageRead mv) s = .next t ∧
      t.mem = s.mem ∧ ∀ v < 16, t.get R.MON_Vv 0 v = mv.getD v 0 ∧ bitOf (t.get R.MON_V_ALARM) v =
        (decide (s.get R.MON_Vv_NOM 0 v * s.get R.MON_V_WIN < 1000 * ((mv.getD v 0 - s.get R.MON_Vv_NOM 0 v) + (s.get R.MON_Vv_NOM 0 v - mv.getD v 0)))
          && decide (v ∈ s.hk.vOut))) ∧
    (∀ ps : List Nat, ps.length = 6 → ps.all (fun v => decide (v < 1024)) = true → ∃ t, exec (.monProcessRead ps) s = .next t ∧
      t.mem = s.mem ∧ ∀ c < Variant.clusters s.variant, t.get R.MON_PMc 0 c = ps.getD c 0 ∧
        bitOf (t.get R.MON_PM_ALARM) c = decide (ps.getD c 0 < s.get R.MON_PM_MIN)) ∧
    (s.bit R.HK_CTRL_REF_EN = false ∨ s.bit R.HK_REF_READY = true → exec .hkRefReady s = .next s) ∧
    (s.bit R.HK_CTRL_REF_EN = true → s.bit R.HK_REF_READY = false → ∃ t, exec .hkRefReady s = .next t ∧ t.get R.HK_REF_READY = 1 ∧
      t.mem = s.mem ∧ (s.hk.due = false → t.hk.run = none)) ∧
    (s.bit R.HK_CTRL_RUN = false → exec .hkRunStart s = .next s) ∧
    (s.bit R.HK_CTRL_RUN = true → s.bit R.HK_REF_READY = false → exec .hkRunStart s = .next { s with hk := { s.hk with due := true } }) ∧
    (s.bit R.HK_CTRL_RUN = true → s.bit R.HK_REF_READY = true →
      (s.hk.run = none → s.get R.HK_SEQ_EN % 2 ^ 16 ≠ 0 → ∃ t, exec .hkRunStart s = .next t ∧
        t.hk.run = some ((maskList (s.get R.HK_SEQ_EN) 16).map (hkEntry s)) ∧ t.hk.due = false ∧ t.regs = s.regs ∧ t.mem = s.mem) ∧
      (s.hk.run ≠ none → ∃ t, exec .hkRunStart s = .next t ∧ t.hk.due = true ∧ t.hk.run = s.hk.run ∧
        t.get R.HK_SEQ_LATE = min (s.get R.HK_SEQ_LATE + 1) (Row.max R.HK_SEQ_LATE) ∧ t.mem = s.mem)) ∧
    (∀ (e : Fin 16) codes sense b x l, codesOk codes = true → codesOk sense = true → s.calm = true → s.cal.seen = 0 →
      s.hk.run = some (x :: l) →
      (x.e ≠ e ∨ codes.length ≠ 2 ^ x.avg → exec (.hkEntryDone e codes sense b) s = .next s) ∧
      (x.e = e → codes.length = 2 ^ x.avg → x.bridge = false → l ≠ [] → (∀ c ∈ codes, x.range.1 < c ∧ c < x.range.2) →
        ∃ t, exec (.hkEntryDone e codes sense b) s = .next t ∧ t.hk.run = some l ∧ t.get R.HK_RESe_OVR 0 e = 0 ∧
          t.get R.HK_RESe_STALE 0 e = 0 ∧ t.bit R.HK_RESe_VALID 0 e = !(x.therm && s.bit R.HK_STAT_LUT_ZERO) ∧ t.mem = s.mem ∧
          (x.fmt = 0 → t.get R.HK_RESe 0 e = toTwos 16 (roundDiv (sumI codes) codes.length)))) ∧
    (∀ e : Fin 16, ∃ t, exec (.hkEntryStale e) s = .next t ∧ t.get R.HK_RESe_STALE 0 e = 1 ∧ t.get R.HK_RESe_VALID 0 e = 0 ∧
      t.get R.HK_RESe 0 e = s.get R.HK_RESe 0 e ∧ t.hk = s.hk ∧ t.mem = s.mem) ∧
    (∀ ag, s.takes ag pgHK 0x048 = true →
      (s.hk.urg ≠ none → exec (.hkUrgCmd ag) s = .next (s.inc R.HK_URG_LOST)) ∧
      (s.hk.urg = none → ∃ t, exec (.hkUrgCmd ag) s = .next t ∧ t.hk.urg = some { hkEntry s (s.get R.HK_URG_ENTRY) with avg := 0 } ∧
        t.regs = s.regs ∧ t.mem = s.mem)) ∧
    (∀ (code : Int) ago, codeOk code = true →
      (s.hk.urg = none ∨ hkConverts s ago = false → exec (.hkUrgDone code ago) s = .next s) ∧
      (∀ x, s.hk.urg = some x → hkConverts s ago = true → ∃ t, exec (.hkUrgDone code ago) s = .next t ∧ t.hk.urg = none ∧
        (x.fmt = 0 → t.get R.HK_URG_RESULT = toTwos 16 (clampI x.range.1 x.range.2 code)) ∧ t.mem = s.mem))

/-- Two failed wire tests of a bridge in a row make it BROKEN, two passed ones since the suspicion clear it and three restore the bridge. A
spare lane's visit that has seen its lines goes on to the next contributing slice, and none ends before; two mismatches in a row on one
slice alone make its lane suspect and plan a swap, one with another slice's standing fails the spare lane. A shading word is rewritten from
DRAM; slices whose SRAM is beyond repair are OUT. Retests run for the failed parts that IDLE's entry lists; a part that passes its retest
returns, one that fails the third stays retired, and a mode request drops the rest. The wear record is saved. (14_health_spares.md R456;
14_health_spares.md R458; 14_health_spares.md R461; 14_health_spares.md R463; 14_health_spares.md R464; 17_power_clocks_reset.md R547) -/
def Obligations.BridgesLanesAndRepair : Prop :=
  ∀ (s : State),
    (∀ b : Fin 2, (s.bridge b).on = false → ∀ x y z, exec (.bridgeWireTest b x y z) s = .next s) ∧
    (∀ b : Fin 2, (s.bridge b).on = true → ∃ t, exec (.bridgeWireTest b false false false) s = .next t ∧ t.mem = s.mem ∧
      (t.bridge b).fails = 0 ∧ (t.bridge b).passes = (s.bridge b).passes + 1 ∧
      (t.bridge b).clean = (s.bridge b).clean + 1 ∧ (1 ≤ (s.bridge b).clean → t.get R.HK_BRb_STAT_SUSPECT 0 b = 0) ∧
      (2 ≤ (s.bridge b).passes → t.get R.HK_BRb_STAT_BROKEN 0 b = 0) ∧
      ((s.bridge b).passes < 2 → t.get R.HK_BRb_STAT_BROKEN 0 b = s.get R.HK_BRb_STAT_BROKEN 0 b)) ∧
    (∀ (b : Fin 2) x y z, (s.bridge b).on = true → (x || y || z) = true → ∃ t, exec (.bridgeWireTest b x y z) s = .next t ∧ t.mem = s.mem ∧
      (t.bridge b).fails = (s.bridge b).fails + 1 ∧ (t.bridge b).passes = 0 ∧ (t.bridge b).clean = 0 ∧
      (1 ≤ (s.bridge b).fails → s.bit R.HK_BRb_STAT_BROKEN 0 b = false → t.get R.HK_BRb_STAT_BROKEN 0 b = 1 ∧
        t.get R.HK_BRb_STAT_VALID 0 b = 0 ∧ t.get R.HK_BRb_STAT_WIRE 0 b = if x then 1 else if y then 2 else 3)) ∧
    (∀ (c : Fin 6) m, laneState s c ≠ 0 ∨ laneVisited s c = false → exec (.laneVisitEnd c m) s = .next s) ∧
    (∀ c : Fin 6, laneState s c = 0 → laneVisited s c = true →
      let j := s.get R.SPARE_LANEc_SLICE 0 c
      let k := 4 * c.val + j
      (∃ t, exec (.laneVisitEnd c false) s = .next t ∧ t.get R.SPARE_LANEc_SLICE 0 c = laneNext s c j % 4 ∧ laneState t c = 0 ∧
        (∀ i < 24, sliceLane t i = sliceLane s i) ∧ k ∉ t.fil.missed ∧ t.mem = s.mem) ∧
      (j < 4 → (s.slice k).contributing = true → k ∉ s.fil.checked → k ∈ s.fil.missed → sliceLane s k = 0 →
        s.fil.missed.any (fun i => i / 4 = c && i != k) = false → ∃ t, exec (.laneVisitEnd c true) s = .next t ∧ sliceLane t k = 1 ∧
          t.get R.SPARE_LANEc_PENDING 0 c = 1 ∧ laneState t c = 0 ∧ t.mem = s.mem) ∧
      (j < 4 → (s.slice k).contributing = true → k ∉ s.fil.checked → s.fil.missed.any (fun i => i / 4 = c && i != k) = true →
        ∃ t, exec (.laneVisitEnd c true) s = .next t ∧ laneState t c = 2 ∧ t.get R.SPARE_LANEc_PENDING 0 c = 0 ∧ t.mem = s.mem)) ∧
    (∀ (k : Fin 24) (role : Fin 5) (px : Fin 12288),
      let key := 12288 * role.val + px.val
      (s.get64 R.TIMING_SHD_BASE_LO R.TIMING_SHD_BASE_HI = 0 →
        exec (.sramUeRewrite k role px) s = .next (((s.modFil (fun f => { f with
          shdBad := f.shdBad.filter (fun w => w != (k.val, key)) })).filEvent 4 k (locSeg k) 0).raise pgSPARE 3)) ∧
      (s.get64 R.TIMING_SHD_BASE_LO R.TIMING_SHD_BASE_HI ≠ 0 → ∃ t, exec (.sramUeRewrite k role px) s = .next t ∧ t.mem = s.mem ∧
        (k.val, key) ∉ t.fil.shdBad ∧
        smGet shadeUnity (t.slice k).shading key = leNat (memBytes s.mem (shadeBase s k + 4 * key) 4))) ∧
    (∀ (r : BitVec 8) (b : BitVec 4) (f : BitVec 24), ∃ t, exec (.sramRepairDone r b f) s = .next t ∧ t.get R.SPARE_SRAM_REPAIRS = r.toNat ∧
      t.get R.SPARE_SRAM_BANKS = b.toNat ∧ t.mem = s.mem ∧ t.pwr.boot = (if s.pwr.boot = .repair then .train else s.pwr.boot) ∧
      ∀ k < Variant.slices s.variant, bitOf f.toNat k = true → t.get R.SPARE_SLCk_SRAM_FAIL 0 k = 1 ∧ sliceLane t k = 3) ∧
    (∀ part pass, partCode part ∉ s.fil.retest ∨ partFailed s part = false ∨ partFree s part = false →
      exec (.fillerRetestDone part pass) s = .next s) ∧
    (∀ i : Fin 32, 350 + i.val ∈ s.fil.retest → sensorFailed s i = true → ∃ t, exec (.fillerRetestDone (.sensor i) true) s = .next t ∧
      sensorFailed t i = false ∧ 350 + i.val ∉ t.fil.retest ∧ t.mem = s.mem) ∧
    (∀ part, partCode part ∈ s.fil.retest → partFailed s part = true → partFree s part = true →
      let n := smGet 0 s.fil.fails (partCode part) + 1
      ∃ t, exec (.fillerRetestDone part false) s = .next t ∧ smGet 0 t.fil.fails (partCode part) = n ∧ t.mem = s.mem ∧
        partCode part ∉ t.fil.retest ∧ (3 ≤ n → partCode part ∈ t.fil.retired) ∧ (n < 3 → t.fil.retired = s.fil.retired)) ∧
    (let t := retestBegin s
     (∀ p, partCode p ∈ t.fil.retest → s.bit R.SPARE_CTRL_RETEST_EN = true ∧ partFailed s p = true ∧ partCode p ∉ s.fil.retired) ∧
     (retestDrop t).fil.retest = []) ∧
    exec .wearSave s = .next { s with fil := { s.fil with saved := s.fil.wear } }

/-- BEGIN with a length in range starts a transfer to the slot not running; DATA takes words up to the length, then 0xA10; FINISH starts the
checks where all is received, else 0xA11; how long they take before the programming is a free value (log 8). At the end of the checks, or of
the programming that follows them, a failed check is REJECTED with its cause, a passed one stages the image in its slot, or in recovery
resets. ABORT ends a transfer or check. ACTIVATE of a staged image in IDLE makes it the trial slot and resets with cause FIRMWARE, else
0xA12. CONFIRM of a trial image whose start-up has ended makes it the active one and blows fuses up to its SVN. (15_security_boot.md R478;
15_security_boot.md R479; 15_security_boot.md R480; 15_security_boot.md R481; 15_security_boot.md R482) -/
def Obligations.FirmwareUpdateByCommand : Prop :=
  (∀ (s : State) (ag : Agent), s.takes ag pgSEC 0x084 = true →
    let n := s.get R.SEC_UPD_LEN
    let st := s.get R.SEC_UPD_STAT
    (n < 32769 ∨ 8388608 < n → exec (.secUpdBegin ag) s = .next s) ∧
    (32769 ≤ n → n ≤ 8388608 → ∃ t, exec (.secUpdBegin ag) s = .next t ∧ t.get R.SEC_UPD_STAT = 1 ∧ t.get R.SEC_UPD_RCVD = 0 ∧
      t.get R.SEC_UPD_TARGET = (if s.get R.SEC_BOOT_SLOT = 0 then 1 else 0) ∧ t.sec.len = n ∧ t.sec.words = [] ∧ t.mem = s.mem) ∧
    (st = 1 → s.get R.SEC_UPD_RCVD = s.sec.len → ∃ t, exec (.secUpdFinish ag) s = .next t ∧ t.get R.SEC_UPD_STAT = 2 ∧
      t.sec.words = s.sec.words ∧ t.sec.len = s.sec.len ∧ s.now ≤ t.sec.checkAt ∧ t.mem = s.mem) ∧
    (st ≠ 1 ∨ s.get R.SEC_UPD_RCVD ≠ s.sec.len → exec (.secUpdFinish ag) s = .next (s.err pgSEC 0xA11)) ∧
    (st = 1 ∨ st = 2 → ∃ t, exec (.secUpdAbort ag) s = .next t ∧ t.get R.SEC_UPD_STAT = (if s.sec.staged then 4 else 0) ∧ t.sec.words = [] ∧
      t.mem = s.mem) ∧
    (st ≠ 1 → st ≠ 2 → exec (.secUpdAbort ag) s = .next s) ∧
    (s.mode ≠ .idle ∨ st ≠ 4 → exec (.secUpdActivate ag) s = .next (s.err pgSEC 0xA12)) ∧
    (s.mode = .idle → st = 4 → s.pwr.boot ≠ .held → ∃ t, exec (.secUpdActivate ag) s = .next t ∧ t.get R.RST_CAUSE = 6 ∧ t.pwr.boot = .held ∧
      t.sec.bootRec.trial = some (s.get R.SEC_UPD_TARGET) ∧ t.sec.bootRec.attempts = 0) ∧
    (∀ good, s.bit R.SEC_BOOT_TRIAL = false ∨ s.pwr.boot ≠ .done → exec (.secUpdConfirm ag good) s = .next s) ∧
    (∀ good : Fin 65, s.bit R.SEC_BOOT_TRIAL = true → s.pwr.boot = .done →
      let f := s.get R.SEC_FUSE_CNT
      let need := min 64 (s.get R.SEC_FW_SVN) - f
      ∃ t, exec (.secUpdConfirm ag good) s = .next t ∧ t.get R.SEC_BOOT_TRIAL = 0 ∧ t.sec.bootRec.active = s.get R.SEC_BOOT_SLOT ∧
        t.sec.bootRec.trial = none ∧ t.get R.SEC_FUSE_CNT = (f + min need good) % 256 ∧ (good.val < need → t.get R.SEC_STAT_FUSE_FAIL = 1) ∧
        t.mem = s.mem)) ∧
  (∀ (s : State) (ag : Agent) (v : Word), s.takes ag pgSEC 0x08C = true →
    (s.get R.SEC_UPD_STAT ≠ 1 → exec (.secUpdData ag v) s = .next s) ∧
    (s.get R.SEC_UPD_STAT = 1 → s.sec.len ≤ s.get R.SEC_UPD_RCVD → exec (.secUpdData ag v) s = .next (s.err pgSEC 0xA10)) ∧
    (s.get R.SEC_UPD_STAT = 1 → s.get R.SEC_UPD_RCVD < s.sec.len → s.sec.len < 2 ^ 24 → ∃ t, exec (.secUpdData ag v) s = .next t ∧
      t.get R.SEC_UPD_RCVD = min s.sec.len (s.get R.SEC_UPD_RCVD + 4) ∧ t.sec.words = v.toNat :: s.sec.words ∧ t.mem = s.mem)) ∧
  (∀ (s : State) (e : Bool), (s.get R.SEC_UPD_STAT ≠ 2 → s.get R.SEC_UPD_STAT ≠ 3 → exec (.secUpdCheckDone e) s = .next s) ∧
    (s.get R.SEC_UPD_STAT = 2 ∨ s.get R.SEC_UPD_STAT = 3 →
      let c := if e then 9 else imageCause s (updImage s)
      (c ≠ 0 → ∃ t, exec (.secUpdCheckDone e) s = .next t ∧ t.get R.SEC_UPD_STAT = 5 ∧ t.get R.SEC_UPD_CAUSE = c % 16 ∧
        t.get R.ERR_CODE pgSEC = 0xA00 + c ∧ t.sec.slotA = s.sec.slotA ∧ t.sec.slotB = s.sec.slotB ∧ t.mem = s.mem) ∧
      (c = 0 → s.get R.SEC_BOOT_SLOT ≠ 3 → ∃ t, exec (.secUpdCheckDone e) s = .next t ∧ t.get R.SEC_UPD_STAT = 4 ∧ t.sec.staged = true ∧
        t.sec.slot (s.get R.SEC_UPD_TARGET) = .image (updImage s) ∧ t.mem = s.mem) ∧
      (c = 0 → s.get R.SEC_BOOT_SLOT = 3 → s.pwr.boot ≠ .held → ∃ t, exec (.secUpdCheckDone e) s = .next t ∧ t.get R.RST_CAUSE = 6 ∧
        t.pwr.boot = .held ∧ t.sec.bootRec.active = 0 ∧ t.sec.slot (s.get R.SEC_UPD_TARGET) = .image (updImage s))))

/-- The owner's key hash is programmed once, under a debug permission for it. UNLOCK with a certificate that passes every check sets UNLOCKED
and the permissions it carries and counts; one that fails shows its cause and changes neither; each attempt draws a new challenge. RELOCK
ends the permissions and releases the locks of DEBUG. A debug command at an address of DRAM becomes busy with it, one beyond sets ADDR_ERR,
and while one is busy another changes nothing. (15_security_boot.md R483; 15_security_boot.md R489; 15_security_boot.md R490;
15_security_boot.md R491; 16_registers.md R514; 16_registers.md R523) -/
def Obligations.KeysAndDebugAccess : Prop :=
  (∀ (s : State) (ag : Agent), s.takes ag pgSEC 0x084 = true →
    (s.sec.owner ≠ none ∨ bitOf (s.get R.SEC_DBG_STAT_PERM) 2 = false → exec (.ownerProv ag) s = .next s) ∧
    (s.sec.owner = none → bitOf (s.get R.SEC_DBG_STAT_PERM) 2 = true → ∃ t, exec (.ownerProv ag) s = .next t ∧
      t.sec.owner = some (sha (certAt s 0 48)) ∧ t.get R.SEC_STAT_OWNER_SET = 1 ∧ t.mem = s.mem)) ∧
  (∀ (s : State) (ag : Agent), s.takes ag pgSEC 0x0C0 = true →
    (dbgCause s = 0 → ∃ t, exec (.dbgUnlock ag) s = .next t ∧ t.get R.SEC_DBG_STAT_UNLOCKED = 1 ∧
      t.get R.SEC_DBG_STAT_PERM = leAt (certAt s 0x28 4) 0 4 % 8 ∧ t.sec.unlocked = true ∧ t.sec.attempts = s.sec.attempts + 1 ∧
      t.get R.SEC_DBG_UNLOCK_CNT = min (s.get R.SEC_DBG_UNLOCK_CNT + 1) (Row.max R.SEC_DBG_UNLOCK_CNT) ∧ t.mem = s.mem) ∧
    (dbgCause s ≠ 0 → ∃ t, exec (.dbgUnlock ag) s = .next t ∧ t.get R.SEC_DBG_STAT_CAUSE = dbgCause s ∧
      t.get R.SEC_DBG_STAT_UNLOCKED = s.get R.SEC_DBG_STAT_UNLOCKED ∧ t.get R.SEC_DBG_STAT_PERM = s.get R.SEC_DBG_STAT_PERM ∧
      t.sec.unlocked = s.sec.unlocked ∧ t.sec.attempts = s.sec.attempts + 1 ∧ t.mem = s.mem) ∧
    (∃ t, exec (.dbgRelock ag) s = .next t ∧ t.get R.SEC_DBG_STAT_UNLOCKED = 0 ∧ t.get R.SEC_DBG_STAT_PERM = 0 ∧
      (∀ n < 32, t.get R.LOCK_STAT_n_OWNER 0 n = if s.get R.LOCK_STAT_n_OWNER 0 n = 4 then 0 else s.get R.LOCK_STAT_n_OWNER 0 n) ∧
      t.mem = s.mem)) ∧
  (∀ (s : State) (ag : Agent), s.takes ag pgDBG 0x048 = true →
    let a := s.get64 R.DBG_ADDR_LO R.DBG_ADDR_HI
    (s.bit R.DBG_STAT_BUSY = true → exec (.dbgCmdRead ag) s = .next s ∧ exec (.dbgCmdWrite ag) s = .next s) ∧
    (s.bit R.DBG_STAT_BUSY = false → dramEnd ≤ a → exec (.dbgCmdRead ag) s = .next (s.set R.DBG_STAT_ADDR_ERR 1) ∧
      exec (.dbgCmdWrite ag) s = .next (s.set R.DBG_STAT_ADDR_ERR 1)) ∧
    (s.bit R.DBG_STAT_BUSY = false → a < dramEnd →
      (∃ t, exec (.dbgCmdRead ag) s = .next t ∧ t.get R.DBG_STAT_BUSY = 1 ∧ t.get R.DBG_STAT_ADDR_ERR = 0 ∧ t.mc.dbg = some (false, a, []) ∧
        t.mem = s.mem) ∧
      (∃ t, exec (.dbgCmdWrite ag) s = .next t ∧ t.get R.DBG_STAT_BUSY = 1 ∧ t.get R.DBG_STAT_ADDR_ERR = 0 ∧ t.mem = s.mem ∧
        t.mc.dbg = some (true, a, (List.range 16).flatMap (fun w => leBytes 4 (s.get R.DBG_DATA_w 0 w))))))

/-- A rising input starts hot-swap; a falling one turns the path off and forgets the class, unless the auxiliary input supplies. The inrush
limit rises when the drain has fallen. An inrush that lasts too long or a current held at its limit is fault 1 or 2, retried after 1 s; a
stopped converter is fault 4 or 5 and restarts. The converter starts from the cable at Class 4 or more, or from the auxiliary input. A
status frame shows the die's state; without one BARRIER_OK clears and the budget stays. (12_host_link.md R385; 12_host_link.md R387;
17_power_clocks_reset.md R525; 17_power_clocks_reset.md R526; 17_power_clocks_reset.md R527; 17_power_clocks_reset.md R528;
17_power_clocks_reset.md R554) -/
def Obligations.PowerPathAndConverter : Prop :=
  ∀ (s : State),
    (∃ t, exec .pdInputRise s = .next t ∧ t.pd.input = true ∧ t.pd.limit = false ∧ t.pd.state = (if s.pd.state = 6 then 1 else s.pd.state) ∧
      t.pd.fault = s.pd.fault ∧ t.regs = s.regs ∧ t.mem = s.mem) ∧
    (s.calm = true → s.pd.input = false → exec .pdInputFall s = .next s) ∧
    (s.calm = true → s.pd.input = true → ∃ t, exec .pdInputFall s = .next t ∧ t.pd.input = false ∧ t.pd.events = 0 ∧ t.pd.grant = 0 ∧
      t.regs = s.regs ∧ t.mem = s.mem ∧ (s.pd.auxActive = true → t.pd.state = s.pd.state ∧ t.pd.fault = s.pd.fault) ∧
      (s.pd.auxActive = false → t.pd.state = 6 ∧ t.pd.fault = (if s.pd.state ∈ [2, 3] then 3 else s.pd.fault))) ∧
    (s.pd.input = false → exec .pdInrushDone s = .next s) ∧
    (s.pd.input = true → exec .pdInrushDone s = .next { s with pd := { s.pd with limit := true } }) ∧
    (s.calm = true → s.pd.input = true → s.pd.limit = false → s.pd.state = 1 → ∃ t, exec .pdInrushTimeout s = .next t ∧ t.pd.fault = 1 ∧
      t.pd.state = 5 ∧ t.pd.faults = min 65535 (s.pd.faults + 1) ∧ t.regs = s.regs ∧ t.mem = s.mem) ∧
    (s.calm = true → s.pd.input = false ∨ s.pd.limit = true ∨ s.pd.state ≠ 1 → exec .pdInrushTimeout s = .next s) ∧
    (s.calm = true → s.pd.input = true → s.pd.limit = true → s.pd.state ∈ [1, 2, 3] → ∃ t, exec .pdCurrentLimit s = .next t ∧
      t.pd.fault = 2 ∧ t.pd.state = 5 ∧ t.pd.faults = min 65535 (s.pd.faults + 1) ∧ t.regs = s.regs ∧ t.mem = s.mem) ∧
    (s.calm = true → s.pd.input = false ∨ s.pd.limit = false ∨ s.pd.state ∉ [1, 2, 3] → exec .pdCurrentLimit s = .next s) ∧
    (s.pd.state = 5 → s.pd.input = true → s.pd.fault < 4 → exec .pdRetry s = .next { s with pd := { s.pd with state := 1, limit := false } }) ∧
    (s.pd.state ≠ 5 ∨ s.pd.input = false ∨ 4 ≤ s.pd.fault → exec .pdRetry s = .next s) ∧
    (s.pd.auxPresent = false → s.pd.input = true → s.pd.limit = true → 4 ≤ s.pd.grant → s.pd.state = 1 →
      exec .converterStart s = .next { s with pd := { s.pd with state := 2, auxActive := false } }) ∧
    (s.pd.auxPresent = true → s.pd.prio = true ∨ s.pd.grant < 4 → s.pd.state ∈ [1, 6] →
      exec .converterStart s = .next { s with pd := { s.pd with state := 2, auxActive := true } }) ∧
    (s.pd.auxPresent = false → s.pd.input = false ∨ s.pd.limit = false ∨ s.pd.grant < 4 ∨ s.pd.state ≠ 1 →
      exec .converterStart s = .next s) ∧
    (∀ o, s.calm = true → s.pd.state ∉ [2, 3, 4] → exec (.converterFault o) s = .next s) ∧
    (∀ o, s.calm = true → s.pd.state ∈ [2, 3, 4] → ∃ t, exec (.converterFault o) s = .next t ∧ t.pd.fault = (if o then 5 else 4) ∧
      t.pd.state = 5 ∧ t.pd.limit = s.pd.limit ∧ t.regs = s.regs ∧ t.mem = s.mem) ∧
    (s.pd.state = 5 → s.pd.fault ∈ [4, 5] → exec .converterRestart s = .next { s with pd := { s.pd with state := 2 } }) ∧
    (s.pd.state ≠ 5 ∨ s.pd.fault ∉ [4, 5] → exec .converterRestart s = .next s) ∧
    (∀ (v i : BitVec 16) (g : Bool), s.calm = true → s.slices = [] → ∃ t, exec (.pdStatusFrame v i g) s = .next t ∧
      t.get R.POE_PD_VIN_MV = v.toNat ∧ t.get R.POE_PD_IIN_MA = i.toNat ∧ t.get R.POE_BARRIER_OK = 1 ∧ t.bit R.PWR_BUS_GOOD = g ∧
      t.get R.POE_PD_FAULT = s.pd.fault % 16 ∧ t.get R.POE_CLASS_GRANT = s.pd.grant % 16 ∧ t.bit R.POE_STAT_AUX_PRESENT = s.pd.auxPresent ∧
      t.mem = s.mem) ∧
    (s.bit R.POE_BARRIER_OK = false → exec .barrierFail s = .next s) ∧
    (s.bit R.POE_BARRIER_OK = true → ∃ t, exec .barrierFail s = .next t ∧ t.get R.POE_BARRIER_OK = 0 ∧
      t.get R.POE_BUDGET_MW = s.get R.POE_BUDGET_MW ∧ t.pd = s.pd ∧ t.slices = s.slices ∧ t.mem = s.mem)

/-- A held reset releases when every rail is good, RST_L is high, the die is cool and no third domain reset holds it. A failing rail, RST_L low
and the loss of the core or DRAM clock reset the block with their causes. Another clock's loss clears its lock bit and sets its loss bit:
the link's takes the link down, PTP's falls back. A PLL that locks shows it. The crystal serves once stable, where it is selected. A
processor watchdog counts and releases that processor's locks, and CPU0 is then down for a time that the model leaves free (log 8).
(17_power_clocks_reset.md R530; 17_power_clocks_reset.md R532; 17_power_clocks_reset.md R537; 17_power_clocks_reset.md R543;
17_power_clocks_reset.md R546; 16_registers.md R514) -/
def Obligations.ResetsAndClocks : Prop :=
  ∀ (s : State),
    (s.pwr.boot ≠ .held → exec .resetRelease s = .next s ∧ ∃ t, exec .railsGood s = .next t ∧ t.get R.PWR_RAIL_GOOD = 0xFFF ∧
      t.pwr = { s.pwr with rails := 0xFFF } ∧ t.mem = s.mem ∧ t.tx = s.tx) ∧
    (s.pwr.boot = .held → s.pwr.rstL = false → s.pwr.cooling = false → domHeld s = false →
      (∃ t, exec .railsGood s = .next t ∧ t.pwr = { s.pwr with boot := .clocks, rails := 0xFFF } ∧ t.get R.PWR_RAIL_GOOD = 0xFFF ∧
        t.bit R.CLK_AON_XTAL = s.pwr.xtal ∧ t.mem = s.mem) ∧
      (s.pwr.rails = 0xFFF → ∃ t, exec .resetRelease s = .next t ∧ t.pwr = { s.pwr with boot := .clocks } ∧ t.get R.PWR_RAIL_GOOD = 0xFFF ∧
        t.bit R.CLK_AON_XTAL = s.pwr.xtal ∧ t.mem = s.mem)) ∧
    (s.pwr.boot = .held → s.pwr.rails = 0xFFF → s.pwr.cooling = false → domHeld s = false →
      ∃ t, exec .rstLRelease s = .next t ∧ t.pwr = { s.pwr with boot := .clocks, rstL := false } ∧ t.get R.PWR_RAIL_GOOD = 0xFFF ∧ t.mem = s.mem) ∧
    (s.pwr.boot = .held → s.pwr.rstL = true ∨ s.pwr.rails ≠ 0xFFF ∨ s.pwr.cooling = true ∨ domHeld s = true →
      exec .resetRelease s = .next s ∧
      ((s.pwr.rstL = true ∨ s.pwr.cooling = true ∨ domHeld s = true) → exec .railsGood s = .next { s with pwr := { s.pwr with rails := 0xFFF } })) ∧
    (s.pwr.boot ≠ .held →
      (∀ rail : Fin 12, ∃ t, exec (.railFail rail) s = .next t ∧ t.pwr.boot = .held ∧ t.mem = [] ∧ t.mode = .idle ∧ t.sec.slotA = s.sec.slotA ∧
        (rail.val ≠ 11 → t.get R.RST_CAUSE = 1 ∧ t.pwr.aonLost = s.pwr.aonLost) ∧ (rail.val = 11 → t.pwr.aonLost = true)) ∧
      (∃ t, exec .rstLAssert s = .next t ∧ t.get R.RST_CAUSE = 2 ∧ t.pwr.rstL = true ∧ t.pwr.boot = .held ∧ t.mem = [] ∧ t.mode = .idle)) ∧
    (∀ p : Fin 11, s.calm = true →
      (pllLocked s p = false → exec (.pllLockLoss p) s = .next s) ∧
      (pllLocked s p = true → p.val ≤ 1 → ∃ t, exec (.pllLockLoss p) s = .next t ∧ t.get R.RST_CAUSE = 5 ∧ t.pwr.boot = .held ∧ t.mem = []) ∧
      (pllLocked s p = true → 2 ≤ p.val → (p.val = 3 → s.rol.run = none ∧ ∀ a < 6, homing s a = false ∧ movingNeg s a = none) →
        ∃ t, exec (.pllLockLoss p) s = .next t ∧ pllLocked t p = false ∧ bitOf (t.get R.CLK_LOST) p = true ∧
          (p.val = 2 → t.get R.LINK_STAT_UP = 0) ∧ (p.val = 4 → t.get R.CLK_PTP_FALLBACK = 1) ∧
          (5 ≤ p.val → bitOf t.pwr.pixBad (p.val - 5) = true) ∧ t.mem = s.mem) ∧
      (∀ nor, bitOf (pllMask s) p = false → exec (.pllLocked { pll := p, nor := nor }) s = .next s) ∧
      (∀ nor, bitOf (pllMask s) p = true → ∃ t, exec (.pllLocked { pll := p, nor := nor }) s = .next t ∧ pllLocked t p = true ∧ t.mem = s.mem)) ∧
    (s.bit R.CLK_AON_SRC = true → exec .aonCrystalStable s = .next s) ∧
    (s.bit R.CLK_AON_SRC = false → ∃ t, exec .aonCrystalStable s = .next t ∧ t.pwr = { s.pwr with xtal := true } ∧ t.mem = s.mem ∧
      (s.pwr.boot ≠ .held → t.get R.CLK_AON_XTAL = 1) ∧ (s.pwr.boot = .held → t.regs = s.regs)) ∧
    (∀ c : Fin 2,
      let r := if c.val = 0 then R.RST_WDOG_CPU0_CNT else R.RST_WDOG_CPU1_CNT
      ∃ t, exec (.cpuWatchdog c) s = .next t ∧ t.get r = min (s.get r + 1) (Row.max r) ∧
        (∀ n < 32, t.get R.LOCK_STAT_n_OWNER 0 n = if s.get R.LOCK_STAT_n_OWNER 0 n = 2 + c.val then 0 else s.get R.LOCK_STAT_n_OWNER 0 n) ∧
        (c.val = 0 → t.tyrex.image = none ∧ cpu0Down t = decide (s.now < s.now + (Config.unstated 29 s.draws).toNat)) ∧ (c.val = 1 → t.tyrex = s.tyrex) ∧ t.mem = s.mem)

/-- A domain that was waiting and reaches power-good is on. One that does not is switched off, its fault bit sets, and its consequence follows:
for TRK, INS and CAP ERR_CODE 0x2E with the domain's index, for a domain of start-up a full reset with cause DOMAIN. An event at an idle
crossing starts a transfer, one in the request phase becomes the pending event, any other is lost and counted with its crossing. A transfer
completes only while both clocks run, and a pending event then takes its place. (17_power_clocks_reset.md R535; 17_power_clocks_reset.md
R536; 17_power_clocks_reset.md R542) -/
def Obligations.DomainsAndCrossings : Prop :=
  ∀ (s : State),
    (∀ d : Fin 80, s.calm = true → d.val ∉ s.domWait → exec (.domainPowerGood d) s = .next s) ∧
    (∀ d : Fin 80, s.calm = true → d.val ∈ s.domWait → ∃ t, exec (.domainPowerGood d) s = .next t ∧ domIsOn t d = true ∧
      t.domWait = s.domWait.filter (· != d.val) ∧ t.mem = s.mem) ∧
    (∀ d : Fin 80, d.val ∉ s.domWait → exec (.domainFault d) s = .next s) ∧
    (∀ d : Fin 80, d.val ∈ s.domWait → d.val < 67 ∨ d.val = 79 → ∃ t, exec (.domainFault d) s = .next t ∧
      t.domWait = s.domWait.filter (· != d.val) ∧ d.val ∈ t.domFailed ∧ bitOf (t.get R.PWR_DOM_FAULT_w 0 (d.val / 32)) (d.val % 32) = true ∧
      (d.val < 48 → sliceLane t (d.val % 24) = 3) ∧ (54 ≤ d.val → d.val < 60 → laneState t (d.val - 54) = 2) ∧
      (60 ≤ d.val → d.val < 67 → t.get R.ERR_CODE pgSYS = 0x2E ∧ t.get R.ERR_INFO pgSYS = d.val) ∧ t.mem = s.mem) ∧
    (∀ d : Fin 80, d.val ∈ s.domWait → 67 ≤ d.val → d.val < 79 → s.pwr.boot ≠ .held → ∃ t, exec (.domainFault d) s = .next t ∧
      t.get R.RST_CAUSE = 7 ∧ t.pwr.boot = .held ∧ t.mem = []) ∧
    (∀ a b : Fin 14,
      let id := a.val * 16 + b.val
      (a = b → ∀ p, exec (.xingEvent a b p) s = .next s) ∧
      (a ≠ b → smFind s.pwr.xings id = none → ∀ p, exec (.xingEvent a b p) s =
        .next { s with pwr := { s.pwr with xings := smPut s.pwr.xings id false } }) ∧
      (a ≠ b → smFind s.pwr.xings id = some false → exec (.xingEvent a b false) s =
        .next { s with pwr := { s.pwr with xings := smPut s.pwr.xings id true } }) ∧
      (∀ q p, a ≠ b → smFind s.pwr.xings id = some q → (q || p) = true → ∃ t, exec (.xingEvent a b p) s = .next t ∧
        t.get R.CLK_XING_OVR = 1 ∧ t.get R.CLK_XING_OVR_CNT = min (s.get R.CLK_XING_OVR_CNT + 1) (Row.max R.CLK_XING_OVR_CNT) ∧
        t.get R.CLK_XING_OVR_ID = id ∧ t.pwr.xings = s.pwr.xings ∧ t.mem = s.mem) ∧
      (clockRuns s a = false ∨ clockRuns s b = false ∨ smFind s.pwr.xings id = none → exec (.xingTransferDone a b) s = .next s) ∧
      (clockRuns s a = true → clockRuns s b = true → smFind s.pwr.xings id = some false → exec (.xingTransferDone a b) s =
        .next { s with pwr := { s.pwr with xings := smDel s.pwr.xings id } }) ∧
      (clockRuns s a = true → clockRuns s b = true → smFind s.pwr.xings id = some true → exec (.xingTransferDone a b) s =
        .next { s with pwr := { s.pwr with xings := smPut s.pwr.xings id false } }))

/-- Every command whose operands name a place of the block answers a next state in every state, and leaves the queue, the time and the variant
as they were; every other command is refused by name as ill-formed, in every state. No command ends in a fault. Beyond that, each command of
a segment's bring-up, link and supply, of an axis, an advance and the pass handshake, and of capture answers the next state of its own
effect under conditions on the state and its operands alone: the stage, the mode, the place of the axis or the page that its rule names.
Calm means that nothing one unit has left for another waits. (00_scope.md R7; 16_registers.md R498; 02_segments_line_timing.md R61;
02_segments_line_timing.md R77; 03_video_front_end.md R91; 08_roller.md R249; 08_roller.md R240; 08_roller.md R263; 08_roller.md R268;
08_roller.md R277; 09_capture_pacing.md R303; 09_capture_pacing.md R299) -/
def Obligations.EveryCommandIsServed : Prop :=
  (∀ (c : Instr) (s : State),
    (c.wf = true → ∃ t, exec c s = .next t ∧ t.pending = s.pending ∧ t.now = s.now ∧ t.variant = s.variant) ∧
    (c.wf = false → ∃ m, exec c s = .refused (.illFormed m))) ∧
  (∀ (s : State) (k : Fin 24), s.calm = true →
    (∀ m, s.staggerQ = k.val :: m → (s.slice k).bring = .stagger →
      ∃ t, exec .segEnStagger s = .next t ∧ t.staggerQ = m ∧ (t.slice k).bring = .supply) ∧
    (∀ e, (s.slice k).bring = .supply → (s.slice k).supChecks = false → (s.slice k).entry = some e → segSupLo e ≤ s.get R.AFE_SUP_MV k →
      s.get R.AFE_SUP_MV k ≤ segSupHi e → ∃ t, exec (.segSupplyWindow k) s = .next t ∧ (t.slice k).supChecks = true) ∧
    ((s.slice k).bring = .supply → (s.slice k).supChecks = true → linkFailed s k = false → (s.slice k).cur = none →
      ∃ t, exec (.segPingStart k) s = .next t ∧ (t.slice k).bring = .link) ∧
    ((s.slice k).bring = .led → ∃ t, exec (.segLedStable k) s = .next t ∧ (t.slice k).bring = .ready) ∧
    ((s.slice k).bring = .offDelay → segEn s k = false → ∃ t, exec (.segEnDeassertDelay k) s = .next t ∧ (t.slice k).bring = .off) ∧
    (∀ ag, s.takes ag (pgSLC k) 0x044 = true → s.mode = .idle → (s.slice k).powered = true → segEn s k = true → linkFailed s k = false →
      ∃ t, exec (.slcLinkRerun ag k) s = .next t ∧ (t.slice k).bring = .link) ∧
    (∀ c : LinkCur, (s.slice k).cur = some c →
      (∀ a b : BitVec 8, (s.slice k).queue = [] → c.wait = .answer → c.tag < 16 → c.txn.purpose = .temp → linkFailed s k = false →
        let body : List (BitVec 8) := [BitVec.ofNat 8 c.tag, 2, a, b]
        ∃ t, exec (.segLinkResponse k ([0x5A] ++ body ++ [BitVec.ofNat 8 (crc16 body / 256), BitVec.ofNat 8 (crc16 body % 256)])) s = .next t ∧
          t.get R.SLC_LED_TEMP k = a.toNat + 256 * b.toNat) ∧
      (c.wait = .answer → c.txn.purpose ≠ .poll → c.attempts < 4 →
        ∃ t, exec (.segLinkTimeout k) s = .next t ∧ (t.slice k).cur = some { c with wait := .resend }) ∧
      (c.wait = .resend → c.txn.purpose.illumination = false →
        ∃ t, exec (.segLinkResend k) s = .next t ∧ (t.slice k).cur = some { c with attempts := c.attempts + 1, wait := .answer }) ∧
      (c.wait = .room → ∀ n, ∃ t, exec (.segIllumWriteStart k n) s = .next t ∧ (t.slice k).cur = some { c with wait := .answer })) ∧
    exec (.segLinkFrameDiscard k) s = .next s ∧
    ((s.slice k).powered = true → (s.slice k).cur = none →
      (linkFailed s k = true → ∃ t, exec (.segLinkPingPoll k) s = .next t ∧
        t.tx = s.tx ++ [.seg k.val (linkFrame 0 0 ((s.slice k).nextTag % 16) [])]) ∧
      (s.get R.SLC_LINK_TEMP_POLL k ≠ 0 → s.bit R.SLC_SEG_STAT_LINK_UP k = true → linkFailed s k = false →
        ∃ t, exec (.segLedTempPoll k) s = .next t ∧ t.tx = s.tx ++ [.seg k.val (linkFrame 1 0x300 ((s.slice k).nextTag % 16) [2])])) ∧
    (∀ (uv : List Nat) (e : Entry), uv ≠ [] → (s.slice k).powered = true → (s.slice k).entry = some e → (s.slice k).supChecks = false →
      ∃ t, exec (.supSenseAverage k uv) s = .next t ∧ t.get R.AFE_SUP_MV k = min 65535 (sumN uv * s.get R.AFE_SNS_RATIO k / (8 * 4096 * 1000))) ∧
    ((s.slice k).loRun ≠ 0 → ∃ t, exec (.supLoHoldExpire k) s = .next t ∧ (t.slice k).bring = .off)) ∧
  (∀ (s : State) (ag : Agent) (a : Fin 6), s.calm = true → s.takes ag (pgAXIS a) 0x040 = true → s.bit R.MOT_AXa_STAT_PHASE_LOST a = false →
    (s.axis a).lead = none →
    (hostMay s a 1 = true → startRefused s a (s.bit R.MOT_AXa_MOVE_DIR a) (usedSegs s a) (listBad s a (usedSegs s a)) = none →
      s.bit R.MOT_AXa_MOVE_BUDGET_EN a = false →
      ∃ t m, exec (.axisCmdStart ag a) s = .next t ∧ (t.axis a).move = some m ∧ m.segs = usedSegs s a) ∧
    (∀ (m : Move) (tb : Fin 64), hostMay s a 2 = true → (s.axis a).move = some m → m.budget = none → m.committed = false → m.stopping = false →
      loaded s.rol.ramps tb = true → loaded m.tabs tb = true →
      ∃ t q, exec (.axisCmdStop ag a (some tb)) s = .next t ∧ (t.axis a).move = some q ∧ q.stopping = true ∧ q.segs = [stopSeg tb]) ∧
    (∀ m, hostMay s a 3 = true → (s.axis a).move = some m →
      ∃ t, exec (.axisCmdHalt ag a) s = .next t ∧ (t.axis a).move = none ∧ t.get R.MOT_AXa_STAT_HALTED a = 1) ∧
    (hostMay s a 4 = true → axisBusy s a = false → s.bit R.MOT_AXa_HOME_CFG_ADOPT a = false →
      loaded s.rol.ramps (s.get R.MOT_AXa_HOME_TBL a) = true → s.bit R.MOT_AXa_EN a = true → estopActive s = false →
      limitAhead s a (limActive s (s.get R.MOT_AXa_HOME_IN a) != s.bit R.MOT_AXa_HOME_DIR a) (some (s.get R.MOT_AXa_HOME_IN a)) = false →
      ∃ t m, exec (.axisCmdHome ag a) s = .next t ∧ (t.axis a).move = some m ∧
        m.what = .home (if limActive s (s.get R.MOT_AXa_HOME_IN a) then 1 else 2)) ∧
    (hostMay s a 5 = true → exec (.axisCmdRearm ag a) s = .next (s.modAxis a (fun x => { x with disarmed := none }))) ∧
    (hostMay s a 6 = true → axisBusy s a = false →
      ∃ t n d, exec (.axisCmdRephase ag a) s = .next t ∧ (t.axis a).rephase = some (n, d)) ∧
    (hostMay s a 7 = true → axisBusy s a = false → ∃ t, exec (.axisCmdSetPos ag a) s = .next t ∧
      axPos t a = ofTwos 48 (s.get64 R.MOT_AXa_SETPOS_LO R.MOT_AXa_SETPOS_HI a)) ∧
    (∀ v : Word, s.takes ag (pgAXIS a) 0x050 = true → hostMay s a 0 = true → loaded s.rol.ramps (v.toNat % 64) = true → (s.axis a).move = none →
      exec (.axisVelSel ag a v) s =
        .next ((s.set R.MOT_AXa_VEL_SEL_TBL (v.toNat % 64) a).set R.MOT_AXa_VEL_SEL_ENT (v.toNat / 256 % 1024) a)) ∧
    (∀ g : Fin 2, s.takes ag pgMOT 0x110 = true → s.get R.MOT_GRPg_LEAD 0 g = a.val → Variant.hasAxis s.variant a = true →
      (maskList (s.get R.MOT_GRPg_MEMBERS 0 g) 6).filter (fun f => f != a.val && Variant.hasAxis s.variant f) = [] → hostMay s a 1 = true →
      startRefused s a (s.bit R.MOT_AXa_MOVE_DIR a) (usedSegs s a) (listBad s a (usedSegs s a)) = none → s.bit R.MOT_AXa_MOVE_BUDGET_EN a = false →
      ∃ t m, exec (.grpStart ag g) s = .next t ∧ (t.axis a).move = some m ∧ m.segs = usedSegs s a)) ∧
  (∀ (s : State) (a : Fin 6), s.calm = true →
    (∀ n d, (s.axis a).rephase = some (n + 1, d) → ∃ t, exec (.axisStep a true) s = .next t ∧ (t.axis a).rephase = some (n, d)) ∧
    (∀ m g, (s.axis a).rephase = none → (s.axis a).move = some m → m.what = .host → m.budget = none → m.sel = none → m.followers = [] →
      m.segs[m.idx]? = some g → ∃ t, exec (.axisStep a true) s = .next t ∧
        axPos t a = ofTwos 48 (toTwos 48 (axPos s a + (if m.neg then -1 else 1)))) ∧
    (∀ (e : Fin 2) (x y : Bool), ∃ t, exec (.encEdge e x y) s = .next t ∧ smGet (false, false) t.rol.encLev e = (x, y)) ∧
    (∀ (j : Fin 8) (level : Bool), disarmedBy s j = none → s.get R.MOT_LIMi_DEB 0 j ≠ 0 → (s.lim j).raw = !level →
      ∀ frac, ∃ t, exec (.limRawEdge j level frac) s = .next t ∧ (t.lim j).raw = level) ∧
    (∀ (j : Fin 8) (level : Bool), disarmedBy s j = none → (s.lim j).raw = level → (s.lim j).qual = !level → s.get R.MOT_LIMi_ROLE 0 j < 2 →
      ∃ t, exec (.limQualify j level) s = .next t ∧ (t.lim j).qual = level) ∧
    ((s.axis a).aonLow = true → ∃ t, exec (.aonDrvLostSample a true) s = .next t ∧ t.get R.MOT_AXa_STAT_DRV_LOST a = 1) ∧
    (∀ m, s.mode = .idle → s.rol.run = none → (s.axis a).lead = none → (s.axis a).move = some m → m.what = .host →
      ∃ t, exec (.drvFault a) s = .next t ∧ (t.axis a).move = none ∧ t.get R.MOT_AXa_STAT_DRV_FAULT a = 1) ∧
    (s.mode = .idle → s.rol.run = none → axisBusy s a = false → s.bit R.MOT_AXa_STAT_DRV_LOST a = true → Variant.hasAxis s.variant a = true →
      ∃ t, exec (.drvReturn a) s = .next t ∧ (t.axis a).flt = false ∧ (t.axis a).rephase.isSome = true) ∧
    (∀ d, s.mode = .idle → s.rol.run = none → (s.axis a).rephase = some (0, d) →
      ∃ t, exec (.rephaseSettle a) s = .next t ∧ (t.axis a).rephase = none) ∧
    (∀ r : GenReport, s.mode = .idle → s.rol.run = none → r.active = true → r.shadow = false → shadowOf s a = none → (s.axis a).lead = none →
      ∃ t, exec (.genParityError a r) s = .next t ∧ t.get R.MOT_AXa_STAT_GEN_FAULT a = 1)) ∧
  (∀ (s : State) (ag : Agent), s.calm = true →
    (s.takes ag pgMOT 0x0D0 = true → exec (.motAdvFlush ag) s = .next ((s.modRol (fun r => { r with queue := [] })).set R.MOT_ADV_QUEUED 0)) ∧
    (s.takes ag pgMOT 0x0D0 = true → feedOwner s = true → s.rol.queue.length < 4 → 10000 ≤ s.get R.MOT_ADV_CREEP → s.get R.MOT_ADV_LEN ≠ 0 →
      loaded s.rol.ramps (s.get R.MOT_ADV_DEC_TBL) = true → loaded s.rol.ramps (s.get R.MOT_ADV_ACC_TBL) = true →
      s.get R.MOT_AXa_SS_INT 0 ≤ (rampAt (rampEnts s.rol.ramps (s.get R.MOT_ADV_DEC_TBL)) 0).1 → s.get R.MOT_FEED_SCALE ≠ 0 →
      ∃ t, exec (.motAdvPush ag) s = .next t ∧ t.rol.queue = s.rol.queue ++
        [{ id := s.get R.MOT_ADV_ID, len := s.get R.MOT_ADV_LEN, creep := s.get R.MOT_ADV_CREEP, deadline := s.get R.MOT_ADV_DEADLINE }]) ∧
    (∀ (q : AdvReq) (l : List AdvReq), s.rol.queue = q :: l → feedOwner s = true → s.rol.run = none →
      (s.bit R.MOT_CTRL_ADV_TRIG = true → s.rol.swath = true) → axisBusy s 0 = false → s.bit R.MOT_AXa_STAT_PHASE_LOST 0 = false →
      limitAhead s 0 false none = false → loaded s.rol.ramps (s.get R.MOT_ADV_ACC_TBL) = true → loaded s.rol.ramps (s.get R.MOT_ADV_DEC_TBL) = true →
      s.bit R.MOT_AXa_EN 0 = true → estopActive s = false → (advExit s = true → startRefused s 1 (s.bit R.MOT_AXa_MOVE_DIR 1) [] false = none) →
      s.bit R.MOT_CTRL_ADV_CHAIN = false → ∃ t x, exec .advTrigger s = .next t ∧ t.rol.queue = l ∧ t.rol.run = some x ∧ x.req = q) ∧
    (∀ x : Adv, s.rol.run = some x →
      (x.phase = 2 → feedOwner s = false → ∃ t, exec .advSettleDone s = .next t ∧ t.rol.run = none) ∧
      (x.req.deadline ≠ 0 → x.late = false → ∃ t, exec .advDeadlineMiss s = .next t ∧ t.rol.run = some { x with late := true })) ∧
    (∀ (x : Adv) (l : List Adv), s.rol.collect = x :: l → x.need ≤ x.lines.length →
      ∃ t p rest, exec .advRecord s = .next t ∧ t.rol.collect = l ∧ t.outbox = s.outbox ++ p :: rest ∧ p.prod = 0x07 ∧ p.kind = 0x10) ∧
    (∀ level, s.rol.psRaw ≠ level → s.get R.MOT_PASS_SYNC_DEB ≠ 0 → ∃ t, exec (.passSyncRawEdge level) s = .next t ∧ t.rol.psRaw = level) ∧
    (passActive s = true → s.rol.psQual = false → feedOwner s = true → s.rol.ready = true → s.bit R.MOT_HOLD_OUT = false →
      ∃ t, exec .passSyncRise s = .next t ∧ t.rol.psQual = true ∧ t.rol.ready = false) ∧
    (passActive s = false → s.rol.psQual = true → ∃ t, exec .passSyncFall s = .next t ∧ t.rol.psQual = false)) ∧
  (∀ (s : State) (ag : Agent), s.calm = true → s.mode = .capture → s.takes ag pgCAP 0x05C = true →
    (s.bit R.CAP_CTRL_PAGE_MODE = false → s.cap.page = none →
      exec (.capPageStart ag) s = .next (s.modCap (fun c => { c with arm := true }))) ∧
    (∀ pg, s.bit R.CAP_CTRL_PAGE_MODE = false → s.cap.page = some pg → s.cap.held = none → s.bit R.CAP_CTRL_STOP_AT_END = false →
      ∃ t, exec (.capPageEnd ag) s = .next t ∧ t.cap.page = none ∧ t.pageDue = true) ∧
    (s.get R.CAP_STATE = 0 ∨ s.get R.CAP_STATE = 6 →
      ∃ t, exec (.capPauseCmd ag) s = .next t ∧ t.get R.CAP_STATE = 1 ∧ bitOf (t.get R.CAP_PAUSE_CAUSE) 1 = true) ∧
    (s.get R.CAP_PAUSE_CAUSE = 2 → s.get R.CAP_STATE = 4 → ∃ t, exec (.capResume ag) s = .next t ∧ t.get R.CAP_STATE = 5) ∧
    (s.get R.CAP_PAUSE_CAUSE = 2 → s.feedFree false = true → (∀ r, loaded s.rol.ramps (rungAt s r).tbl = true) → s.get R.CAP_STATE = 5 →
      ∃ t m, exec (.capResumeForce ag) s = .next t ∧ (t.axis 0).move = some m ∧ m.neg = false)) ∧
  (∀ (s : State), s.calm = true → s.mode = .capture →
    (∃ t, exec .pacingUpdate s = .next t ∧ t.get R.CAP_DRAIN_EST = min (drainEst s / 1024) (Row.max R.CAP_DRAIN_EST) ∧
      t.cap.grants = 0 :: s.cap.grants.take 9) ∧
    (s.get R.CAP_STATE = 0 ∨ s.get R.CAP_STATE = 6 → s.get R.CAP_WM_HIGH ≤ capFill s → s.get R.CAP_RUNG ≠ 0 →
      ∃ t, exec .rungHighHold s = .next t ∧ t.cap.want = some (s.get R.CAP_RUNG - 1)) ∧
    (s.get R.CAP_STATE = 1 → (s.axis 0).move = none → s.get R.CAP_PAUSE_CAUSE ≠ 0 → s.get R.CAP_BACKUP_NM = 0 →
      ∃ t, exec .capFeedAtRest s = .next t ∧ t.get R.CAP_STATE = 3) ∧
    (s.get R.CAP_STATE = 2 → (s.axis 0).move = none → s.get R.CAP_PAUSE_CAUSE ≠ 0 →
      ∃ t, exec .capBackupDone s = .next t ∧ t.get R.CAP_STATE = 3) ∧
    (s.get R.CAP_STATE = 3 → s.cap.ledTimer = true → ∃ t, exec .capLedStandby s = .next t ∧ t.get R.CAP_STATE = 4) ∧
    (s.get R.CAP_STATE = 5 → s.get R.CAP_PAUSE_CAUSE = 0 → (tabsOk s).1 = true → s.feedFree false = true →
      (∀ r, loaded s.rol.ramps (rungAt s r).tbl = true) →
      ∃ t, exec .capStabiliseCheck s = .next t ∧ t.get R.CAP_STATE = (if s.cap.first then 0 else 6)) ∧
    (s.get R.CAP_STATE = 5 → (tabsOk s).1 = false → s.bit R.CAP_STAT_LED_UNSTABLE = false →
      ∃ t, exec .capStabMax s = .next t ∧ t.get R.CAP_STAT_LED_UNSTABLE = 1) ∧
    (s.get R.CAP_STATE ∈ [3, 4, 5] → s.get R.CAP_STALL_TO ≠ 0 →
      ∃ t, exec .capStall s = .next t ∧ t.get R.CAP_STAT_STALL = 1))

/-- From every state whose waiting commands are all well-formed, as many steps as commands wait each answer a next state, and then none waits;
the time and the variant are as at the start, since time passes only while the block idles (log 1). Any further steps answer next states
too, each a nanosecond later. (00_scope.md R1; 00_scope.md R7; 16_registers.md R498) -/
def Obligations.QueueOfCommandsDrains : Prop :=
  ∀ (s : State), s.sane = true → ∃ t, stepsTo s.pending.length s = some t ∧ t.pending = [] ∧ t.now = s.now ∧ t.variant = s.variant ∧
    ∀ n, ∃ u, stepsTo n t = some u ∧ u.pending = [] ∧ u.now = s.now + n ∧ u.variant = s.variant

/-- From every state whose waiting commands are all well-formed, a step answers a next state in which they still are: it has served the command
at the front and left the rest in their order; the variant stays, and the time moves on by one nanosecond exactly where nothing waited (log
1). (00_scope.md R1; 16_registers.md R498; 16_registers.md R499) -/
def Obligations.StepKeepsTheQueueSane : Prop :=
  ∀ (s t : State), s.sane = true → step s = .next t →
    t.sane = true ∧ t.pending = s.pending.tail ∧ t.variant = s.variant ∧ t.now = s.now + (if s.pending = [] then 1 else 0)

/-- While JTAG lacks its permission, or a block held in reset after three domain faults is asked by any agent but the management SPI, no
register command of that agent changes anything: every write and trigger leaves the whole state as it was, every read gives 0, and a JTAG
register scan without the permission does nothing. (15_security_boot.md R489; 16_registers.md R498; 16_registers.md R499;
17_power_clocks_reset.md R536; 18_package_electrical.md R576) -/
def Obligations.ShutOutAgentsChangeNothing : Prop :=
  ∀ (s : State) (ag : Agent), s.shutOut ag = true →
    (∀ (addr : RegAddr) (v : Word) (b : Bool) (page : Nat) (m24 : BitVec 24) (m4 : BitVec 4) (k : Fin 24) (a : Fin 6) (g : Fin 2) (c : Fin 16)
        (n : Fin 32) (q : Fin 3) (good : Fin 65) (tbl : Option (Fin 64)) (slot : Fin 64) (count : Nat), pageOk page = true → count < 65536 →
      ∀ i ∈ ([.registerWrite ag addr v, .modeReqIdle ag, .modeReqInspect ag b, .modeReqCapture ag, .modeReqCalibrate ag, .modeReqService ag,
          .modeReqInvalid ag q, .sysSectionCmd ag, .sysTblCmd ag, .blkSoftReset ag page, .blkFreeze ag page b, .blkCntClear ag page,
          .blkErrClear ag page, .irqSet ag page v, .lockRelease ag n v, .timingPbCommit ag, .timingSegSync ag m24 b, .timingShdSync ag m24 b,
          .pbLiveEditWrite ag slot b v count,
          .slcLinkRerun ag k, .insCtrlHealthReq ag, .axisCmdStart ag a, .axisCmdStop ag a tbl, .axisCmdHalt ag a, .axisCmdHome ag a,
          .axisCmdRearm ag a, .axisCmdRephase ag a, .axisCmdSetPos ag a, .axisVelSel ag a v, .grpStart ag g, .motAdvPush ag, .motAdvFlush ag,
          .capPageStart ag, .capPageEnd ag, .capPauseCmd ag, .capResume ag, .capResumeForce ag, .dmaStart ag c, .dmaAbort ag c, .hodFlush ag m4,
          .hodLegMark ag, .hodLegRewind ag, .hodLegRelease ag, .linkCtrlReneg ag, .ptpLatch ag, .calCmdTileReady ag, .hkUrgCmd ag,
          .secUpdBegin ag, .secUpdData ag v, .secUpdFinish ag, .secUpdAbort ag, .secUpdActivate ag, .secUpdConfirm ag good, .ownerProv ag,
          .dbgUnlock ag, .dbgRelock ag, .dbgCmdRead ag, .dbgCmdWrite ag] : List Instr), exec i s = .next s) ∧
    (∀ (addr : RegAddr) (n : Fin 32), exec (.loRegisterRead ag addr) s = .next (s.send (.word ag 0)) ∧
      exec (.lockAcquire ag n) s = .next (s.send (.word ag 0)) ∧ exec (.hodLegData ag) s = .next (s.send (.word ag 0))) ∧
    (ag = .jtag → ∀ (addr : RegAddr) (v : Word), exec (.jtagScan (.regWrite addr v)) s = .next s ∧
      (bitOf (s.get R.SEC_DBG_STAT_PERM) 1 = false → exec (.jtagScan (.regRead addr)) s = .next s))
end

