-- ==== Sys2Proof/Laws/State.lean ====
section
/-! SUPPORT. What each named update of the state leaves as it was: one lemma per field, true by definition. -/
namespace Sys2Proof.Machine
open Sys2Proof

@[simp] theorem State.set_pending (s : State) (r : Row) (v p i : Nat) : (s.set r v p i).pending = s.pending := rfl
@[simp] theorem State.set_variant (s : State) (r : Row) (v p i : Nat) : (s.set r v p i).variant = s.variant := rfl
@[simp] theorem State.set_now (s : State) (r : Row) (v p i : Nat) : (s.set r v p i).now = s.now := rfl
@[simp] theorem State.set_draws (s : State) (r : Row) (v p i : Nat) : (s.set r v p i).draws = s.draws := rfl
@[simp] theorem State.set_shadow (s : State) (r : Row) (v p i : Nat) : (s.set r v p i).shadow = s.shadow := rfl
@[simp] theorem State.set_held (s : State) (r : Row) (v p i : Nat) : (s.set r v p i).held = s.held := rfl
@[simp] theorem State.set_snaps (s : State) (r : Row) (v p i : Nat) : (s.set r v p i).snaps = s.snaps := rfl
@[simp] theorem State.set_latches (s : State) (r : Row) (v p i : Nat) : (s.set r v p i).latches = s.latches := rfl
@[simp] theorem State.set_mem (s : State) (r : Row) (v p i : Nat) : (s.set r v p i).mem = s.mem := rfl
@[simp] theorem State.set_irqHold (s : State) (r : Row) (v p i : Nat) : (s.set r v p i).irqHold = s.irqHold := rfl
@[simp] theorem State.set_outbox (s : State) (r : Row) (v p i : Nat) : (s.set r v p i).outbox = s.outbox := rfl
@[simp] theorem State.set_tx (s : State) (r : Row) (v p i : Nat) : (s.set r v p i).tx = s.tx := rfl
@[simp] theorem State.set_ptp (s : State) (r : Row) (v p i : Nat) : (s.set r v p i).ptp = s.ptp := rfl
@[simp] theorem State.set_slices (s : State) (r : Row) (v p i : Nat) : (s.set r v p i).slices = s.slices := rfl
@[simp] theorem State.set_timing (s : State) (r : Row) (v p i : Nat) : (s.set r v p i).timing = s.timing := rfl
@[simp] theorem State.set_capLines (s : State) (r : Row) (v p i : Nat) : (s.set r v p i).capLines = s.capLines := rfl
@[simp] theorem State.set_staggerQ (s : State) (r : Row) (v p i : Nat) : (s.set r v p i).staggerQ = s.staggerQ := rfl
@[simp] theorem State.set_domWait (s : State) (r : Row) (v p i : Nat) : (s.set r v p i).domWait = s.domWait := rfl
@[simp] theorem State.set_domFailed (s : State) (r : Row) (v p i : Nat) : (s.set r v p i).domFailed = s.domFailed := rfl
@[simp] theorem State.set_domStart (s : State) (r : Row) (v p i : Nat) : (s.set r v p i).domStart = s.domStart := rfl
@[simp] theorem State.set_runSlices (s : State) (r : Row) (v p i : Nat) : (s.set r v p i).runSlices = s.runSlices := rfl
@[simp] theorem State.set_runColour (s : State) (r : Row) (v p i : Nat) : (s.set r v p i).runColour = s.runColour := rfl
@[simp] theorem State.set_flt (s : State) (r : Row) (v p i : Nat) : (s.set r v p i).flt = s.flt := rfl
@[simp] theorem State.set_scrim (s : State) (r : Row) (v p i : Nat) : (s.set r v p i).scrim = s.scrim := rfl
@[simp] theorem State.set_plumb (s : State) (r : Row) (v p i : Nat) : (s.set r v p i).plumb = s.plumb := rfl
@[simp] theorem State.set_trk (s : State) (r : Row) (v p i : Nat) : (s.set r v p i).trk = s.trk := rfl
@[simp] theorem State.set_ins (s : State) (r : Row) (v p i : Nat) : (s.set r v p i).ins = s.ins := rfl
@[simp] theorem State.set_rol (s : State) (r : Row) (v p i : Nat) : (s.set r v p i).rol = s.rol := rfl
@[simp] theorem State.set_cap (s : State) (r : Row) (v p i : Nat) : (s.set r v p i).cap = s.cap := rfl
@[simp] theorem State.set_pageDue (s : State) (r : Row) (v p i : Nat) : (s.set r v p i).pageDue = s.pageDue := rfl
@[simp] theorem State.set_mc (s : State) (r : Row) (v p i : Nat) : (s.set r v p i).mc = s.mc := rfl
@[simp] theorem State.set_inPlace (s : State) (r : Row) (v p i : Nat) : (s.set r v p i).inPlace = s.inPlace := rfl
@[simp] theorem State.set_hod (s : State) (r : Row) (v p i : Nat) : (s.set r v p i).hod = s.hod := rfl
@[simp] theorem State.set_dma (s : State) (r : Row) (v p i : Nat) : (s.set r v p i).dma = s.dma := rfl
@[simp] theorem State.set_dmaBytes (s : State) (r : Row) (v p i : Nat) : (s.set r v p i).dmaBytes = s.dmaBytes := rfl
@[simp] theorem State.set_tyrex (s : State) (r : Row) (v p i : Nat) : (s.set r v p i).tyrex = s.tyrex := rfl
@[simp] theorem State.set_eth (s : State) (r : Row) (v p i : Nat) : (s.set r v p i).eth = s.eth := rfl
@[simp] theorem State.set_poe (s : State) (r : Row) (v p i : Nat) : (s.set r v p i).poe = s.poe := rfl
@[simp] theorem State.set_pd (s : State) (r : Row) (v p i : Nat) : (s.set r v p i).pd = s.pd := rfl
@[simp] theorem State.set_cal (s : State) (r : Row) (v p i : Nat) : (s.set r v p i).cal = s.cal := rfl
@[simp] theorem State.set_hk (s : State) (r : Row) (v p i : Nat) : (s.set r v p i).hk = s.hk := rfl
@[simp] theorem State.set_fil (s : State) (r : Row) (v p i : Nat) : (s.set r v p i).fil = s.fil := rfl
@[simp] theorem State.set_sec (s : State) (r : Row) (v p i : Nat) : (s.set r v p i).sec = s.sec := rfl
@[simp] theorem State.set_pwr (s : State) (r : Row) (v p i : Nat) : (s.set r v p i).pwr = s.pwr := rfl
@[simp] theorem State.set_staged (s : State) (r : Row) (v p i : Nat) : (s.set r v p i).staged = s.staged := rfl
@[simp] theorem State.set_modePend (s : State) (r : Row) (v p i : Nat) : (s.set r v p i).modePend = s.modePend := rfl
@[simp] theorem State.set_secPasses (s : State) (r : Row) (v p i : Nat) : (s.set r v p i).secPasses = s.secPasses := rfl

@[simp] theorem State.setI_pending (s : State) (r : Row) (v : Int) (p i : Nat) : (s.setI r v p i).pending = s.pending := rfl
@[simp] theorem State.setI_variant (s : State) (r : Row) (v : Int) (p i : Nat) : (s.setI r v p i).variant = s.variant := rfl
@[simp] theorem State.setI_now (s : State) (r : Row) (v : Int) (p i : Nat) : (s.setI r v p i).now = s.now := rfl
@[simp] theorem State.setI_draws (s : State) (r : Row) (v : Int) (p i : Nat) : (s.setI r v p i).draws = s.draws := rfl
@[simp] theorem State.setI_shadow (s : State) (r : Row) (v : Int) (p i : Nat) : (s.setI r v p i).shadow = s.shadow := rfl
@[simp] theorem State.setI_held (s : State) (r : Row) (v : Int) (p i : Nat) : (s.setI r v p i).held = s.held := rfl
@[simp] theorem State.setI_snaps (s : State) (r : Row) (v : Int) (p i : Nat) : (s.setI r v p i).snaps = s.snaps := rfl
@[simp] theorem State.setI_latches (s : State) (r : Row) (v : Int) (p i : Nat) : (s.setI r v p i).latches = s.latches := rfl
@[simp] theorem State.setI_mem (s : State) (r : Row) (v : Int) (p i : Nat) : (s.setI r v p i).mem = s.mem := rfl
@[simp] theorem State.setI_irqHold (s : State) (r : Row) (v : Int) (p i : Nat) : (s.setI r v p i).irqHold = s.irqHold := rfl
@[simp] theorem State.setI_outbox (s : State) (r : Row) (v : Int) (p i : Nat) : (s.setI r v p i).outbox = s.outbox := rfl
@[simp] theorem State.setI_tx (s : State) (r : Row) (v : Int) (p i : Nat) : (s.setI r v p i).tx = s.tx := rfl
@[simp] theorem State.setI_ptp (s : State) (r : Row) (v : Int) (p i : Nat) : (s.setI r v p i).ptp = s.ptp := rfl
@[simp] theorem State.setI_slices (s : State) (r : Row) (v : Int) (p i : Nat) : (s.setI r v p i).slices = s.slices := rfl
@[simp] theorem State.setI_timing (s : State) (r : Row) (v : Int) (p i : Nat) : (s.setI r v p i).timing = s.timing := rfl
@[simp] theorem State.setI_capLines (s : State) (r : Row) (v : Int) (p i : Nat) : (s.setI r v p i).capLines = s.capLines := rfl
@[simp] theorem State.setI_staggerQ (s : State) (r : Row) (v : Int) (p i : Nat) : (s.setI r v p i).staggerQ = s.staggerQ := rfl
@[simp] theorem State.setI_domWait (s : State) (r : Row) (v : Int) (p i : Nat) : (s.setI r v p i).domWait = s.domWait := rfl
@[simp] theorem State.setI_domFailed (s : State) (r : Row) (v : Int) (p i : Nat) : (s.setI r v p i).domFailed = s.domFailed := rfl
@[simp] theorem State.setI_domStart (s : State) (r : Row) (v : Int) (p i : Nat) : (s.setI r v p i).domStart = s.domStart := rfl
@[simp] theorem State.setI_runSlices (s : State) (r : Row) (v : Int) (p i : Nat) : (s.setI r v p i).runSlices = s.runSlices := rfl
@[simp] theorem State.setI_runColour (s : State) (r : Row) (v : Int) (p i : Nat) : (s.setI r v p i).runColour = s.runColour := rfl
@[simp] theorem State.setI_flt (s : State) (r : Row) (v : Int) (p i : Nat) : (s.setI r v p i).flt = s.flt := rfl
@[simp] theorem State.setI_scrim (s : State) (r : Row) (v : Int) (p i : Nat) : (s.setI r v p i).scrim = s.scrim := rfl
@[simp] theorem State.setI_plumb (s : State) (r : Row) (v : Int) (p i : Nat) : (s.setI r v p i).plumb = s.plumb := rfl
@[simp] theorem State.setI_trk (s : State) (r : Row) (v : Int) (p i : Nat) : (s.setI r v p i).trk = s.trk := rfl
@[simp] theorem State.setI_ins (s : State) (r : Row) (v : Int) (p i : Nat) : (s.setI r v p i).ins = s.ins := rfl
@[simp] theorem State.setI_rol (s : State) (r : Row) (v : Int) (p i : Nat) : (s.setI r v p i).rol = s.rol := rfl
@[simp] theorem State.setI_cap (s : State) (r : Row) (v : Int) (p i : Nat) : (s.setI r v p i).cap = s.cap := rfl
@[simp] theorem State.setI_pageDue (s : State) (r : Row) (v : Int) (p i : Nat) : (s.setI r v p i).pageDue = s.pageDue := rfl
@[simp] theorem State.setI_mc (s : State) (r : Row) (v : Int) (p i : Nat) : (s.setI r v p i).mc = s.mc := rfl
@[simp] theorem State.setI_inPlace (s : State) (r : Row) (v : Int) (p i : Nat) : (s.setI r v p i).inPlace = s.inPlace := rfl
@[simp] theorem State.setI_hod (s : State) (r : Row) (v : Int) (p i : Nat) : (s.setI r v p i).hod = s.hod := rfl
@[simp] theorem State.setI_dma (s : State) (r : Row) (v : Int) (p i : Nat) : (s.setI r v p i).dma = s.dma := rfl
@[simp] theorem State.setI_dmaBytes (s : State) (r : Row) (v : Int) (p i : Nat) : (s.setI r v p i).dmaBytes = s.dmaBytes := rfl
@[simp] theorem State.setI_tyrex (s : State) (r : Row) (v : Int) (p i : Nat) : (s.setI r v p i).tyrex = s.tyrex := rfl
@[simp] theorem State.setI_eth (s : State) (r : Row) (v : Int) (p i : Nat) : (s.setI r v p i).eth = s.eth := rfl
@[simp] theorem State.setI_poe (s : State) (r : Row) (v : Int) (p i : Nat) : (s.setI r v p i).poe = s.poe := rfl
@[simp] theorem State.setI_pd (s : State) (r : Row) (v : Int) (p i : Nat) : (s.setI r v p i).pd = s.pd := rfl
@[simp] theorem State.setI_cal (s : State) (r : Row) (v : Int) (p i : Nat) : (s.setI r v p i).cal = s.cal := rfl
@[simp] theorem State.setI_hk (s : State) (r : Row) (v : Int) (p i : Nat) : (s.setI r v p i).hk = s.hk := rfl
@[simp] theorem State.setI_fil (s : State) (r : Row) (v : Int) (p i : Nat) : (s.setI r v p i).fil = s.fil := rfl
@[simp] theorem State.setI_sec (s : State) (r : Row) (v : Int) (p i : Nat) : (s.setI r v p i).sec = s.sec := rfl
@[simp] theorem State.setI_pwr (s : State) (r : Row) (v : Int) (p i : Nat) : (s.setI r v p i).pwr = s.pwr := rfl
@[simp] theorem State.setI_staged (s : State) (r : Row) (v : Int) (p i : Nat) : (s.setI r v p i).staged = s.staged := rfl
@[simp] theorem State.setI_modePend (s : State) (r : Row) (v : Int) (p i : Nat) : (s.setI r v p i).modePend = s.modePend := rfl
@[simp] theorem State.setI_secPasses (s : State) (r : Row) (v : Int) (p i : Nat) : (s.setI r v p i).secPasses = s.secPasses := rfl

@[simp] theorem State.setB_pending (s : State) (r : Row) (b : Bool) (p i : Nat) : (s.setB r b p i).pending = s.pending := rfl
@[simp] theorem State.setB_variant (s : State) (r : Row) (b : Bool) (p i : Nat) : (s.setB r b p i).variant = s.variant := rfl
@[simp] theorem State.setB_now (s : State) (r : Row) (b : Bool) (p i : Nat) : (s.setB r b p i).now = s.now := rfl
@[simp] theorem State.setB_draws (s : State) (r : Row) (b : Bool) (p i : Nat) : (s.setB r b p i).draws = s.draws := rfl
@[simp] theorem State.setB_shadow (s : State) (r : Row) (b : Bool) (p i : Nat) : (s.setB r b p i).shadow = s.shadow := rfl
@[simp] theorem State.setB_held (s : State) (r : Row) (b : Bool) (p i : Nat) : (s.setB r b p i).held = s.held := rfl
@[simp] theorem State.setB_snaps (s : State) (r : Row) (b : Bool) (p i : Nat) : (s.setB r b p i).snaps = s.snaps := rfl
@[simp] theorem State.setB_latches (s : State) (r : Row) (b : Bool) (p i : Nat) : (s.setB r b p i).latches = s.latches := rfl
@[simp] theorem State.setB_mem (s : State) (r : Row) (b : Bool) (p i : Nat) : (s.setB r b p i).mem = s.mem := rfl
@[simp] theorem State.setB_irqHold (s : State) (r : Row) (b : Bool) (p i : Nat) : (s.setB r b p i).irqHold = s.irqHold := rfl
@[simp] theorem State.setB_outbox (s : State) (r : Row) (b : Bool) (p i : Nat) : (s.setB r b p i).outbox = s.outbox := rfl
@[simp] theorem State.setB_tx (s : State) (r : Row) (b : Bool) (p i : Nat) : (s.setB r b p i).tx = s.tx := rfl
@[simp] theorem State.setB_ptp (s : State) (r : Row) (b : Bool) (p i : Nat) : (s.setB r b p i).ptp = s.ptp := rfl
@[simp] theorem State.setB_slices (s : State) (r : Row) (b : Bool) (p i : Nat) : (s.setB r b p i).slices = s.slices := rfl
@[simp] theorem State.setB_timing (s : State) (r : Row) (b : Bool) (p i : Nat) : (s.setB r b p i).timing = s.timing := rfl
@[simp] theorem State.setB_capLines (s : State) (r : Row) (b : Bool) (p i : Nat) : (s.setB r b p i).capLines = s.capLines := rfl
@[simp] theorem State.setB_staggerQ (s : State) (r : Row) (b : Bool) (p i : Nat) : (s.setB r b p i).staggerQ = s.staggerQ := rfl
@[simp] theorem State.setB_domWait (s : State) (r : Row) (b : Bool) (p i : Nat) : (s.setB r b p i).domWait = s.domWait := rfl
@[simp] theorem State.setB_domFailed (s : State) (r : Row) (b : Bool) (p i : Nat) : (s.setB r b p i).domFailed = s.domFailed := rfl
@[simp] theorem State.setB_domStart (s : State) (r : Row) (b : Bool) (p i : Nat) : (s.setB r b p i).domStart = s.domStart := rfl
@[simp] theorem State.setB_runSlices (s : State) (r : Row) (b : Bool) (p i : Nat) : (s.setB r b p i).runSlices = s.runSlices := rfl
@[simp] theorem State.setB_runColour (s : State) (r : Row) (b : Bool) (p i : Nat) : (s.setB r b p i).runColour = s.runColour := rfl
@[simp] theorem State.setB_flt (s : State) (r : Row) (b : Bool) (p i : Nat) : (s.setB r b p i).flt = s.flt := rfl
@[simp] theorem State.setB_scrim (s : State) (r : Row) (b : Bool) (p i : Nat) : (s.setB r b p i).scrim = s.scrim := rfl
@[simp] theorem State.setB_plumb (s : State) (r : Row) (b : Bool) (p i : Nat) : (s.setB r b p i).plumb = s.plumb := rfl
@[simp] theorem State.setB_trk (s : State) (r : Row) (b : Bool) (p i : Nat) : (s.setB r b p i).trk = s.trk := rfl
@[simp] theorem State.setB_ins (s : State) (r : Row) (b : Bool) (p i : Nat) : (s.setB r b p i).ins = s.ins := rfl
@[simp] theorem State.setB_rol (s : State) (r : Row) (b : Bool) (p i : Nat) : (s.setB r b p i).rol = s.rol := rfl
@[simp] theorem State.setB_cap (s : State) (r : Row) (b : Bool) (p i : Nat) : (s.setB r b p i).cap = s.cap := rfl
@[simp] theorem State.setB_pageDue (s : State) (r : Row) (b : Bool) (p i : Nat) : (s.setB r b p i).pageDue = s.pageDue := rfl
@[simp] theorem State.setB_mc (s : State) (r : Row) (b : Bool) (p i : Nat) : (s.setB r b p i).mc = s.mc := rfl
@[simp] theorem State.setB_inPlace (s : State) (r : Row) (b : Bool) (p i : Nat) : (s.setB r b p i).inPlace = s.inPlace := rfl
@[simp] theorem State.setB_hod (s : State) (r : Row) (b : Bool) (p i : Nat) : (s.setB r b p i).hod = s.hod := rfl
@[simp] theorem State.setB_dma (s : State) (r : Row) (b : Bool) (p i : Nat) : (s.setB r b p i).dma = s.dma := rfl
@[simp] theorem State.setB_dmaBytes (s : State) (r : Row) (b : Bool) (p i : Nat) : (s.setB r b p i).dmaBytes = s.dmaBytes := rfl
@[simp] theorem State.setB_tyrex (s : State) (r : Row) (b : Bool) (p i : Nat) : (s.setB r b p i).tyrex = s.tyrex := rfl
@[simp] theorem State.setB_eth (s : State) (r : Row) (b : Bool) (p i : Nat) : (s.setB r b p i).eth = s.eth := rfl
@[simp] theorem State.setB_poe (s : State) (r : Row) (b : Bool) (p i : Nat) : (s.setB r b p i).poe = s.poe := rfl
@[simp] theorem State.setB_pd (s : State) (r : Row) (b : Bool) (p i : Nat) : (s.setB r b p i).pd = s.pd := rfl
@[simp] theorem State.setB_cal (s : State) (r : Row) (b : Bool) (p i : Nat) : (s.setB r b p i).cal = s.cal := rfl
@[simp] theorem State.setB_hk (s : State) (r : Row) (b : Bool) (p i : Nat) : (s.setB r b p i).hk = s.hk := rfl
@[simp] theorem State.setB_fil (s : State) (r : Row) (b : Bool) (p i : Nat) : (s.setB r b p i).fil = s.fil := rfl
@[simp] theorem State.setB_sec (s : State) (r : Row) (b : Bool) (p i : Nat) : (s.setB r b p i).sec = s.sec := rfl
@[simp] theorem State.setB_pwr (s : State) (r : Row) (b : Bool) (p i : Nat) : (s.setB r b p i).pwr = s.pwr := rfl
@[simp] theorem State.setB_staged (s : State) (r : Row) (b : Bool) (p i : Nat) : (s.setB r b p i).staged = s.staged := rfl
@[simp] theorem State.setB_modePend (s : State) (r : Row) (b : Bool) (p i : Nat) : (s.setB r b p i).modePend = s.modePend := rfl
@[simp] theorem State.setB_secPasses (s : State) (r : Row) (b : Bool) (p i : Nat) : (s.setB r b p i).secPasses = s.secPasses := rfl

@[simp] theorem State.set64_pending (s : State) (lo hi : Row) (v p i : Nat) : (s.set64 lo hi v p i).pending = s.pending := rfl
@[simp] theorem State.set64_variant (s : State) (lo hi : Row) (v p i : Nat) : (s.set64 lo hi v p i).variant = s.variant := rfl
@[simp] theorem State.set64_now (s : State) (lo hi : Row) (v p i : Nat) : (s.set64 lo hi v p i).now = s.now := rfl
@[simp] theorem State.set64_draws (s : State) (lo hi : Row) (v p i : Nat) : (s.set64 lo hi v p i).draws = s.draws := rfl
@[simp] theorem State.set64_shadow (s : State) (lo hi : Row) (v p i : Nat) : (s.set64 lo hi v p i).shadow = s.shadow := rfl
@[simp] theorem State.set64_held (s : State) (lo hi : Row) (v p i : Nat) : (s.set64 lo hi v p i).held = s.held := rfl
@[simp] theorem State.set64_snaps (s : State) (lo hi : Row) (v p i : Nat) : (s.set64 lo hi v p i).snaps = s.snaps := rfl
@[simp] theorem State.set64_latches (s : State) (lo hi : Row) (v p i : Nat) : (s.set64 lo hi v p i).latches = s.latches := rfl
@[simp] theorem State.set64_mem (s : State) (lo hi : Row) (v p i : Nat) : (s.set64 lo hi v p i).mem = s.mem := rfl
@[simp] theorem State.set64_irqHold (s : State) (lo hi : Row) (v p i : Nat) : (s.set64 lo hi v p i).irqHold = s.irqHold := rfl
@[simp] theorem State.set64_outbox (s : State) (lo hi : Row) (v p i : Nat) : (s.set64 lo hi v p i).outbox = s.outbox := rfl
@[simp] theorem State.set64_tx (s : State) (lo hi : Row) (v p i : Nat) : (s.set64 lo hi v p i).tx = s.tx := rfl
@[simp] theorem State.set64_ptp (s : State) (lo hi : Row) (v p i : Nat) : (s.set64 lo hi v p i).ptp = s.ptp := rfl
@[simp] theorem State.set64_slices (s : State) (lo hi : Row) (v p i : Nat) : (s.set64 lo hi v p i).slices = s.slices := rfl
@[simp] theorem State.set64_timing (s : State) (lo hi : Row) (v p i : Nat) : (s.set64 lo hi v p i).timing = s.timing := rfl
@[simp] theorem State.set64_capLines (s : State) (lo hi : Row) (v p i : Nat) : (s.set64 lo hi v p i).capLines = s.capLines := rfl
@[simp] theorem State.set64_staggerQ (s : State) (lo hi : Row) (v p i : Nat) : (s.set64 lo hi v p i).staggerQ = s.staggerQ := rfl
@[simp] theorem State.set64_domWait (s : State) (lo hi : Row) (v p i : Nat) : (s.set64 lo hi v p i).domWait = s.domWait := rfl
@[simp] theorem State.set64_domFailed (s : State) (lo hi : Row) (v p i : Nat) : (s.set64 lo hi v p i).domFailed = s.domFailed := rfl
@[simp] theorem State.set64_domStart (s : State) (lo hi : Row) (v p i : Nat) : (s.set64 lo hi v p i).domStart = s.domStart := rfl
@[simp] theorem State.set64_runSlices (s : State) (lo hi : Row) (v p i : Nat) : (s.set64 lo hi v p i).runSlices = s.runSlices := rfl
@[simp] theorem State.set64_runColour (s : State) (lo hi : Row) (v p i : Nat) : (s.set64 lo hi v p i).runColour = s.runColour := rfl
@[simp] theorem State.set64_flt (s : State) (lo hi : Row) (v p i : Nat) : (s.set64 lo hi v p i).flt = s.flt := rfl
@[simp] theorem State.set64_scrim (s : State) (lo hi : Row) (v p i : Nat) : (s.set64 lo hi v p i).scrim = s.scrim := rfl
@[simp] theorem State.set64_plumb (s : State) (lo hi : Row) (v p i : Nat) : (s.set64 lo hi v p i).plumb = s.plumb := rfl
@[simp] theorem State.set64_trk (s : State) (lo hi : Row) (v p i : Nat) : (s.set64 lo hi v p i).trk = s.trk := rfl
@[simp] theorem State.set64_ins (s : State) (lo hi : Row) (v p i : Nat) : (s.set64 lo hi v p i).ins = s.ins := rfl
@[simp] theorem State.set64_rol (s : State) (lo hi : Row) (v p i : Nat) : (s.set64 lo hi v p i).rol = s.rol := rfl
@[simp] theorem State.set64_cap (s : State) (lo hi : Row) (v p i : Nat) : (s.set64 lo hi v p i).cap = s.cap := rfl
@[simp] theorem State.set64_pageDue (s : State) (lo hi : Row) (v p i : Nat) : (s.set64 lo hi v p i).pageDue = s.pageDue := rfl
@[simp] theorem State.set64_mc (s : State) (lo hi : Row) (v p i : Nat) : (s.set64 lo hi v p i).mc = s.mc := rfl
@[simp] theorem State.set64_inPlace (s : State) (lo hi : Row) (v p i : Nat) : (s.set64 lo hi v p i).inPlace = s.inPlace := rfl
@[simp] theorem State.set64_hod (s : State) (lo hi : Row) (v p i : Nat) : (s.set64 lo hi v p i).hod = s.hod := rfl
@[simp] theorem State.set64_dma (s : State) (lo hi : Row) (v p i : Nat) : (s.set64 lo hi v p i).dma = s.dma := rfl
@[simp] theorem State.set64_dmaBytes (s : State) (lo hi : Row) (v p i : Nat) : (s.set64 lo hi v p i).dmaBytes = s.dmaBytes := rfl
@[simp] theorem State.set64_tyrex (s : State) (lo hi : Row) (v p i : Nat) : (s.set64 lo hi v p i).tyrex = s.tyrex := rfl
@[simp] theorem State.set64_eth (s : State) (lo hi : Row) (v p i : Nat) : (s.set64 lo hi v p i).eth = s.eth := rfl
@[simp] theorem State.set64_poe (s : State) (lo hi : Row) (v p i : Nat) : (s.set64 lo hi v p i).poe = s.poe := rfl
@[simp] theorem State.set64_pd (s : State) (lo hi : Row) (v p i : Nat) : (s.set64 lo hi v p i).pd = s.pd := rfl
@[simp] theorem State.set64_cal (s : State) (lo hi : Row) (v p i : Nat) : (s.set64 lo hi v p i).cal = s.cal := rfl
@[simp] theorem State.set64_hk (s : State) (lo hi : Row) (v p i : Nat) : (s.set64 lo hi v p i).hk = s.hk := rfl
@[simp] theorem State.set64_fil (s : State) (lo hi : Row) (v p i : Nat) : (s.set64 lo hi v p i).fil = s.fil := rfl
@[simp] theorem State.set64_sec (s : State) (lo hi : Row) (v p i : Nat) : (s.set64 lo hi v p i).sec = s.sec := rfl
@[simp] theorem State.set64_pwr (s : State) (lo hi : Row) (v p i : Nat) : (s.set64 lo hi v p i).pwr = s.pwr := rfl
@[simp] theorem State.set64_staged (s : State) (lo hi : Row) (v p i : Nat) : (s.set64 lo hi v p i).staged = s.staged := rfl
@[simp] theorem State.set64_modePend (s : State) (lo hi : Row) (v p i : Nat) : (s.set64 lo hi v p i).modePend = s.modePend := rfl
@[simp] theorem State.set64_secPasses (s : State) (lo hi : Row) (v p i : Nat) : (s.set64 lo hi v p i).secPasses = s.secPasses := rfl

@[simp] theorem State.incBy_pending (s : State) (r : Row) (n p i : Nat) : (s.incBy r n p i).pending = s.pending := rfl
@[simp] theorem State.incBy_variant (s : State) (r : Row) (n p i : Nat) : (s.incBy r n p i).variant = s.variant := rfl
@[simp] theorem State.incBy_now (s : State) (r : Row) (n p i : Nat) : (s.incBy r n p i).now = s.now := rfl
@[simp] theorem State.incBy_draws (s : State) (r : Row) (n p i : Nat) : (s.incBy r n p i).draws = s.draws := rfl
@[simp] theorem State.incBy_shadow (s : State) (r : Row) (n p i : Nat) : (s.incBy r n p i).shadow = s.shadow := rfl
@[simp] theorem State.incBy_held (s : State) (r : Row) (n p i : Nat) : (s.incBy r n p i).held = s.held := rfl
@[simp] theorem State.incBy_snaps (s : State) (r : Row) (n p i : Nat) : (s.incBy r n p i).snaps = s.snaps := rfl
@[simp] theorem State.incBy_latches (s : State) (r : Row) (n p i : Nat) : (s.incBy r n p i).latches = s.latches := rfl
@[simp] theorem State.incBy_mem (s : State) (r : Row) (n p i : Nat) : (s.incBy r n p i).mem = s.mem := rfl
@[simp] theorem State.incBy_irqHold (s : State) (r : Row) (n p i : Nat) : (s.incBy r n p i).irqHold = s.irqHold := rfl
@[simp] theorem State.incBy_outbox (s : State) (r : Row) (n p i : Nat) : (s.incBy r n p i).outbox = s.outbox := rfl
@[simp] theorem State.incBy_tx (s : State) (r : Row) (n p i : Nat) : (s.incBy r n p i).tx = s.tx := rfl
@[simp] theorem State.incBy_ptp (s : State) (r : Row) (n p i : Nat) : (s.incBy r n p i).ptp = s.ptp := rfl
@[simp] theorem State.incBy_slices (s : State) (r : Row) (n p i : Nat) : (s.incBy r n p i).slices = s.slices := rfl
@[simp] theorem State.incBy_timing (s : State) (r : Row) (n p i : Nat) : (s.incBy r n p i).timing = s.timing := rfl
@[simp] theorem State.incBy_capLines (s : State) (r : Row) (n p i : Nat) : (s.incBy r n p i).capLines = s.capLines := rfl
@[simp] theorem State.incBy_staggerQ (s : State) (r : Row) (n p i : Nat) : (s.incBy r n p i).staggerQ = s.staggerQ := rfl
@[simp] theorem State.incBy_domWait (s : State) (r : Row) (n p i : Nat) : (s.incBy r n p i).domWait = s.domWait := rfl
@[simp] theorem State.incBy_domFailed (s : State) (r : Row) (n p i : Nat) : (s.incBy r n p i).domFailed = s.domFailed := rfl
@[simp] theorem State.incBy_domStart (s : State) (r : Row) (n p i : Nat) : (s.incBy r n p i).domStart = s.domStart := rfl
@[simp] theorem State.incBy_runSlices (s : State) (r : Row) (n p i : Nat) : (s.incBy r n p i).runSlices = s.runSlices := rfl
@[simp] theorem State.incBy_runColour (s : State) (r : Row) (n p i : Nat) : (s.incBy r n p i).runColour = s.runColour := rfl
@[simp] theorem State.incBy_flt (s : State) (r : Row) (n p i : Nat) : (s.incBy r n p i).flt = s.flt := rfl
@[simp] theorem State.incBy_scrim (s : State) (r : Row) (n p i : Nat) : (s.incBy r n p i).scrim = s.scrim := rfl
@[simp] theorem State.incBy_plumb (s : State) (r : Row) (n p i : Nat) : (s.incBy r n p i).plumb = s.plumb := rfl
@[simp] theorem State.incBy_trk (s : State) (r : Row) (n p i : Nat) : (s.incBy r n p i).trk = s.trk := rfl
@[simp] theorem State.incBy_ins (s : State) (r : Row) (n p i : Nat) : (s.incBy r n p i).ins = s.ins := rfl
@[simp] theorem State.incBy_rol (s : State) (r : Row) (n p i : Nat) : (s.incBy r n p i).rol = s.rol := rfl
@[simp] theorem State.incBy_cap (s : State) (r : Row) (n p i : Nat) : (s.incBy r n p i).cap = s.cap := rfl
@[simp] theorem State.incBy_pageDue (s : State) (r : Row) (n p i : Nat) : (s.incBy r n p i).pageDue = s.pageDue := rfl
@[simp] theorem State.incBy_mc (s : State) (r : Row) (n p i : Nat) : (s.incBy r n p i).mc = s.mc := rfl
@[simp] theorem State.incBy_inPlace (s : State) (r : Row) (n p i : Nat) : (s.incBy r n p i).inPlace = s.inPlace := rfl
@[simp] theorem State.incBy_hod (s : State) (r : Row) (n p i : Nat) : (s.incBy r n p i).hod = s.hod := rfl
@[simp] theorem State.incBy_dma (s : State) (r : Row) (n p i : Nat) : (s.incBy r n p i).dma = s.dma := rfl
@[simp] theorem State.incBy_dmaBytes (s : State) (r : Row) (n p i : Nat) : (s.incBy r n p i).dmaBytes = s.dmaBytes := rfl
@[simp] theorem State.incBy_tyrex (s : State) (r : Row) (n p i : Nat) : (s.incBy r n p i).tyrex = s.tyrex := rfl
@[simp] theorem State.incBy_eth (s : State) (r : Row) (n p i : Nat) : (s.incBy r n p i).eth = s.eth := rfl
@[simp] theorem State.incBy_poe (s : State) (r : Row) (n p i : Nat) : (s.incBy r n p i).poe = s.poe := rfl
@[simp] theorem State.incBy_pd (s : State) (r : Row) (n p i : Nat) : (s.incBy r n p i).pd = s.pd := rfl
@[simp] theorem State.incBy_cal (s : State) (r : Row) (n p i : Nat) : (s.incBy r n p i).cal = s.cal := rfl
@[simp] theorem State.incBy_hk (s : State) (r : Row) (n p i : Nat) : (s.incBy r n p i).hk = s.hk := rfl
@[simp] theorem State.incBy_fil (s : State) (r : Row) (n p i : Nat) : (s.incBy r n p i).fil = s.fil := rfl
@[simp] theorem State.incBy_sec (s : State) (r : Row) (n p i : Nat) : (s.incBy r n p i).sec = s.sec := rfl
@[simp] theorem State.incBy_pwr (s : State) (r : Row) (n p i : Nat) : (s.incBy r n p i).pwr = s.pwr := rfl
@[simp] theorem State.incBy_staged (s : State) (r : Row) (n p i : Nat) : (s.incBy r n p i).staged = s.staged := rfl
@[simp] theorem State.incBy_modePend (s : State) (r : Row) (n p i : Nat) : (s.incBy r n p i).modePend = s.modePend := rfl
@[simp] theorem State.incBy_secPasses (s : State) (r : Row) (n p i : Nat) : (s.incBy r n p i).secPasses = s.secPasses := rfl

@[simp] theorem State.inc_pending (s : State) (r : Row) (p i : Nat) : (s.inc r p i).pending = s.pending := rfl
@[simp] theorem State.inc_variant (s : State) (r : Row) (p i : Nat) : (s.inc r p i).variant = s.variant := rfl
@[simp] theorem State.inc_now (s : State) (r : Row) (p i : Nat) : (s.inc r p i).now = s.now := rfl
@[simp] theorem State.inc_draws (s : State) (r : Row) (p i : Nat) : (s.inc r p i).draws = s.draws := rfl
@[simp] theorem State.inc_shadow (s : State) (r : Row) (p i : Nat) : (s.inc r p i).shadow = s.shadow := rfl
@[simp] theorem State.inc_held (s : State) (r : Row) (p i : Nat) : (s.inc r p i).held = s.held := rfl
@[simp] theorem State.inc_snaps (s : State) (r : Row) (p i : Nat) : (s.inc r p i).snaps = s.snaps := rfl
@[simp] theorem State.inc_latches (s : State) (r : Row) (p i : Nat) : (s.inc r p i).latches = s.latches := rfl
@[simp] theorem State.inc_mem (s : State) (r : Row) (p i : Nat) : (s.inc r p i).mem = s.mem := rfl
@[simp] theorem State.inc_irqHold (s : State) (r : Row) (p i : Nat) : (s.inc r p i).irqHold = s.irqHold := rfl
@[simp] theorem State.inc_outbox (s : State) (r : Row) (p i : Nat) : (s.inc r p i).outbox = s.outbox := rfl
@[simp] theorem State.inc_tx (s : State) (r : Row) (p i : Nat) : (s.inc r p i).tx = s.tx := rfl
@[simp] theorem State.inc_ptp (s : State) (r : Row) (p i : Nat) : (s.inc r p i).ptp = s.ptp := rfl
@[simp] theorem State.inc_slices (s : State) (r : Row) (p i : Nat) : (s.inc r p i).slices = s.slices := rfl
@[simp] theorem State.inc_timing (s : State) (r : Row) (p i : Nat) : (s.inc r p i).timing = s.timing := rfl
@[simp] theorem State.inc_capLines (s : State) (r : Row) (p i : Nat) : (s.inc r p i).capLines = s.capLines := rfl
@[simp] theorem State.inc_staggerQ (s : State) (r : Row) (p i : Nat) : (s.inc r p i).staggerQ = s.staggerQ := rfl
@[simp] theorem State.inc_domWait (s : State) (r : Row) (p i : Nat) : (s.inc r p i).domWait = s.domWait := rfl
@[simp] theorem State.inc_domFailed (s : State) (r : Row) (p i : Nat) : (s.inc r p i).domFailed = s.domFailed := rfl
@[simp] theorem State.inc_domStart (s : State) (r : Row) (p i : Nat) : (s.inc r p i).domStart = s.domStart := rfl
@[simp] theorem State.inc_runSlices (s : State) (r : Row) (p i : Nat) : (s.inc r p i).runSlices = s.runSlices := rfl
@[simp] theorem State.inc_runColour (s : State) (r : Row) (p i : Nat) : (s.inc r p i).runColour = s.runColour := rfl
@[simp] theorem State.inc_flt (s : State) (r : Row) (p i : Nat) : (s.inc r p i).flt = s.flt := rfl
@[simp] theorem State.inc_scrim (s : State) (r : Row) (p i : Nat) : (s.inc r p i).scrim = s.scrim := rfl
@[simp] theorem State.inc_plumb (s : State) (r : Row) (p i : Nat) : (s.inc r p i).plumb = s.plumb := rfl
@[simp] theorem State.inc_trk (s : State) (r : Row) (p i : Nat) : (s.inc r p i).trk = s.trk := rfl
@[simp] theorem State.inc_ins (s : State) (r : Row) (p i : Nat) : (s.inc r p i).ins = s.ins := rfl
@[simp] theorem State.inc_rol (s : State) (r : Row) (p i : Nat) : (s.inc r p i).rol = s.rol := rfl
@[simp] theorem State.inc_cap (s : State) (r : Row) (p i : Nat) : (s.inc r p i).cap = s.cap := rfl
@[simp] theorem State.inc_pageDue (s : State) (r : Row) (p i : Nat) : (s.inc r p i).pageDue = s.pageDue := rfl
@[simp] theorem State.inc_mc (s : State) (r : Row) (p i : Nat) : (s.inc r p i).mc = s.mc := rfl
@[simp] theorem State.inc_inPlace (s : State) (r : Row) (p i : Nat) : (s.inc r p i).inPlace = s.inPlace := rfl
@[simp] theorem State.inc_hod (s : State) (r : Row) (p i : Nat) : (s.inc r p i).hod = s.hod := rfl
@[simp] theorem State.inc_dma (s : State) (r : Row) (p i : Nat) : (s.inc r p i).dma = s.dma := rfl
@[simp] theorem State.inc_dmaBytes (s : State) (r : Row) (p i : Nat) : (s.inc r p i).dmaBytes = s.dmaBytes := rfl
@[simp] theorem State.inc_tyrex (s : State) (r : Row) (p i : Nat) : (s.inc r p i).tyrex = s.tyrex := rfl
@[simp] theorem State.inc_eth (s : State) (r : Row) (p i : Nat) : (s.inc r p i).eth = s.eth := rfl
@[simp] theorem State.inc_poe (s : State) (r : Row) (p i : Nat) : (s.inc r p i).poe = s.poe := rfl
@[simp] theorem State.inc_pd (s : State) (r : Row) (p i : Nat) : (s.inc r p i).pd = s.pd := rfl
@[simp] theorem State.inc_cal (s : State) (r : Row) (p i : Nat) : (s.inc r p i).cal = s.cal := rfl
@[simp] theorem State.inc_hk (s : State) (r : Row) (p i : Nat) : (s.inc r p i).hk = s.hk := rfl
@[simp] theorem State.inc_fil (s : State) (r : Row) (p i : Nat) : (s.inc r p i).fil = s.fil := rfl
@[simp] theorem State.inc_sec (s : State) (r : Row) (p i : Nat) : (s.inc r p i).sec = s.sec := rfl
@[simp] theorem State.inc_pwr (s : State) (r : Row) (p i : Nat) : (s.inc r p i).pwr = s.pwr := rfl
@[simp] theorem State.inc_staged (s : State) (r : Row) (p i : Nat) : (s.inc r p i).staged = s.staged := rfl
@[simp] theorem State.inc_modePend (s : State) (r : Row) (p i : Nat) : (s.inc r p i).modePend = s.modePend := rfl
@[simp] theorem State.inc_secPasses (s : State) (r : Row) (p i : Nat) : (s.inc r p i).secPasses = s.secPasses := rfl

@[simp] theorem State.unset_pending (s : State) (r : Row) (p i : Nat) : (s.unset r p i).pending = s.pending := rfl
@[simp] theorem State.unset_variant (s : State) (r : Row) (p i : Nat) : (s.unset r p i).variant = s.variant := rfl
@[simp] theorem State.unset_now (s : State) (r : Row) (p i : Nat) : (s.unset r p i).now = s.now := rfl
@[simp] theorem State.unset_draws (s : State) (r : Row) (p i : Nat) : (s.unset r p i).draws = s.draws := rfl
@[simp] theorem State.unset_shadow (s : State) (r : Row) (p i : Nat) : (s.unset r p i).shadow = s.shadow := rfl
@[simp] theorem State.unset_held (s : State) (r : Row) (p i : Nat) : (s.unset r p i).held = s.held := rfl
@[simp] theorem State.unset_snaps (s : State) (r : Row) (p i : Nat) : (s.unset r p i).snaps = s.snaps := rfl
@[simp] theorem State.unset_latches (s : State) (r : Row) (p i : Nat) : (s.unset r p i).latches = s.latches := rfl
@[simp] theorem State.unset_mem (s : State) (r : Row) (p i : Nat) : (s.unset r p i).mem = s.mem := rfl
@[simp] theorem State.unset_irqHold (s : State) (r : Row) (p i : Nat) : (s.unset r p i).irqHold = s.irqHold := rfl
@[simp] theorem State.unset_outbox (s : State) (r : Row) (p i : Nat) : (s.unset r p i).outbox = s.outbox := rfl
@[simp] theorem State.unset_tx (s : State) (r : Row) (p i : Nat) : (s.unset r p i).tx = s.tx := rfl
@[simp] theorem State.unset_ptp (s : State) (r : Row) (p i : Nat) : (s.unset r p i).ptp = s.ptp := rfl
@[simp] theorem State.unset_slices (s : State) (r : Row) (p i : Nat) : (s.unset r p i).slices = s.slices := rfl
@[simp] theorem State.unset_timing (s : State) (r : Row) (p i : Nat) : (s.unset r p i).timing = s.timing := rfl
@[simp] theorem State.unset_capLines (s : State) (r : Row) (p i : Nat) : (s.unset r p i).capLines = s.capLines := rfl
@[simp] theorem State.unset_staggerQ (s : State) (r : Row) (p i : Nat) : (s.unset r p i).staggerQ = s.staggerQ := rfl
@[simp] theorem State.unset_domWait (s : State) (r : Row) (p i : Nat) : (s.unset r p i).domWait = s.domWait := rfl
@[simp] theorem State.unset_domFailed (s : State) (r : Row) (p i : Nat) : (s.unset r p i).domFailed = s.domFailed := rfl
@[simp] theorem State.unset_domStart (s : State) (r : Row) (p i : Nat) : (s.unset r p i).domStart = s.domStart := rfl
@[simp] theorem State.unset_runSlices (s : State) (r : Row) (p i : Nat) : (s.unset r p i).runSlices = s.runSlices := rfl
@[simp] theorem State.unset_runColour (s : State) (r : Row) (p i : Nat) : (s.unset r p i).runColour = s.runColour := rfl
@[simp] theorem State.unset_flt (s : State) (r : Row) (p i : Nat) : (s.unset r p i).flt = s.flt := rfl
@[simp] theorem State.unset_scrim (s : State) (r : Row) (p i : Nat) : (s.unset r p i).scrim = s.scrim := rfl
@[simp] theorem State.unset_plumb (s : State) (r : Row) (p i : Nat) : (s.unset r p i).plumb = s.plumb := rfl
@[simp] theorem State.unset_trk (s : State) (r : Row) (p i : Nat) : (s.unset r p i).trk = s.trk := rfl
@[simp] theorem State.unset_ins (s : State) (r : Row) (p i : Nat) : (s.unset r p i).ins = s.ins := rfl
@[simp] theorem State.unset_rol (s : State) (r : Row) (p i : Nat) : (s.unset r p i).rol = s.rol := rfl
@[simp] theorem State.unset_cap (s : State) (r : Row) (p i : Nat) : (s.unset r p i).cap = s.cap := rfl
@[simp] theorem State.unset_pageDue (s : State) (r : Row) (p i : Nat) : (s.unset r p i).pageDue = s.pageDue := rfl
@[simp] theorem State.unset_mc (s : State) (r : Row) (p i : Nat) : (s.unset r p i).mc = s.mc := rfl
@[simp] theorem State.unset_inPlace (s : State) (r : Row) (p i : Nat) : (s.unset r p i).inPlace = s.inPlace := rfl
@[simp] theorem State.unset_hod (s : State) (r : Row) (p i : Nat) : (s.unset r p i).hod = s.hod := rfl
@[simp] theorem State.unset_dma (s : State) (r : Row) (p i : Nat) : (s.unset r p i).dma = s.dma := rfl
@[simp] theorem State.unset_dmaBytes (s : State) (r : Row) (p i : Nat) : (s.unset r p i).dmaBytes = s.dmaBytes := rfl
@[simp] theorem State.unset_tyrex (s : State) (r : Row) (p i : Nat) : (s.unset r p i).tyrex = s.tyrex := rfl
@[simp] theorem State.unset_eth (s : State) (r : Row) (p i : Nat) : (s.unset r p i).eth = s.eth := rfl
@[simp] theorem State.unset_poe (s : State) (r : Row) (p i : Nat) : (s.unset r p i).poe = s.poe := rfl
@[simp] theorem State.unset_pd (s : State) (r : Row) (p i : Nat) : (s.unset r p i).pd = s.pd := rfl
@[simp] theorem State.unset_cal (s : State) (r : Row) (p i : Nat) : (s.unset r p i).cal = s.cal := rfl
@[simp] theorem State.unset_hk (s : State) (r : Row) (p i : Nat) : (s.unset r p i).hk = s.hk := rfl
@[simp] theorem State.unset_fil (s : State) (r : Row) (p i : Nat) : (s.unset r p i).fil = s.fil := rfl
@[simp] theorem State.unset_sec (s : State) (r : Row) (p i : Nat) : (s.unset r p i).sec = s.sec := rfl
@[simp] theorem State.unset_pwr (s : State) (r : Row) (p i : Nat) : (s.unset r p i).pwr = s.pwr := rfl
@[simp] theorem State.unset_staged (s : State) (r : Row) (p i : Nat) : (s.unset r p i).staged = s.staged := rfl
@[simp] theorem State.unset_modePend (s : State) (r : Row) (p i : Nat) : (s.unset r p i).modePend = s.modePend := rfl
@[simp] theorem State.unset_secPasses (s : State) (r : Row) (p i : Nat) : (s.unset r p i).secPasses = s.secPasses := rfl

@[simp] theorem State.emit_pending (s : State) (cls prod kind : Nat) (bs : List (BitVec 8)) (item : Option Nat) : (s.emit cls prod kind bs item).pending = s.pending := rfl
@[simp] theorem State.emit_variant (s : State) (cls prod kind : Nat) (bs : List (BitVec 8)) (item : Option Nat) : (s.emit cls prod kind bs item).variant = s.variant := rfl
@[simp] theorem State.emit_now (s : State) (cls prod kind : Nat) (bs : List (BitVec 8)) (item : Option Nat) : (s.emit cls prod kind bs item).now = s.now := rfl
@[simp] theorem State.emit_draws (s : State) (cls prod kind : Nat) (bs : List (BitVec 8)) (item : Option Nat) : (s.emit cls prod kind bs item).draws = s.draws := rfl
@[simp] theorem State.emit_regs (s : State) (cls prod kind : Nat) (bs : List (BitVec 8)) (item : Option Nat) : (s.emit cls prod kind bs item).regs = s.regs := rfl
@[simp] theorem State.emit_shadow (s : State) (cls prod kind : Nat) (bs : List (BitVec 8)) (item : Option Nat) : (s.emit cls prod kind bs item).shadow = s.shadow := rfl
@[simp] theorem State.emit_held (s : State) (cls prod kind : Nat) (bs : List (BitVec 8)) (item : Option Nat) : (s.emit cls prod kind bs item).held = s.held := rfl
@[simp] theorem State.emit_snaps (s : State) (cls prod kind : Nat) (bs : List (BitVec 8)) (item : Option Nat) : (s.emit cls prod kind bs item).snaps = s.snaps := rfl
@[simp] theorem State.emit_latches (s : State) (cls prod kind : Nat) (bs : List (BitVec 8)) (item : Option Nat) : (s.emit cls prod kind bs item).latches = s.latches := rfl
@[simp] theorem State.emit_mem (s : State) (cls prod kind : Nat) (bs : List (BitVec 8)) (item : Option Nat) : (s.emit cls prod kind bs item).mem = s.mem := rfl
@[simp] theorem State.emit_irqHold (s : State) (cls prod kind : Nat) (bs : List (BitVec 8)) (item : Option Nat) : (s.emit cls prod kind bs item).irqHold = s.irqHold := rfl
@[simp] theorem State.emit_tx (s : State) (cls prod kind : Nat) (bs : List (BitVec 8)) (item : Option Nat) : (s.emit cls prod kind bs item).tx = s.tx := rfl
@[simp] theorem State.emit_ptp (s : State) (cls prod kind : Nat) (bs : List (BitVec 8)) (item : Option Nat) : (s.emit cls prod kind bs item).ptp = s.ptp := rfl
@[simp] theorem State.emit_slices (s : State) (cls prod kind : Nat) (bs : List (BitVec 8)) (item : Option Nat) : (s.emit cls prod kind bs item).slices = s.slices := rfl
@[simp] theorem State.emit_timing (s : State) (cls prod kind : Nat) (bs : List (BitVec 8)) (item : Option Nat) : (s.emit cls prod kind bs item).timing = s.timing := rfl
@[simp] theorem State.emit_capLines (s : State) (cls prod kind : Nat) (bs : List (BitVec 8)) (item : Option Nat) : (s.emit cls prod kind bs item).capLines = s.capLines := rfl
@[simp] theorem State.emit_staggerQ (s : State) (cls prod kind : Nat) (bs : List (BitVec 8)) (item : Option Nat) : (s.emit cls prod kind bs item).staggerQ = s.staggerQ := rfl
@[simp] theorem State.emit_domWait (s : State) (cls prod kind : Nat) (bs : List (BitVec 8)) (item : Option Nat) : (s.emit cls prod kind bs item).domWait = s.domWait := rfl
@[simp] theorem State.emit_domFailed (s : State) (cls prod kind : Nat) (bs : List (BitVec 8)) (item : Option Nat) : (s.emit cls prod kind bs item).domFailed = s.domFailed := rfl
@[simp] theorem State.emit_domStart (s : State) (cls prod kind : Nat) (bs : List (BitVec 8)) (item : Option Nat) : (s.emit cls prod kind bs item).domStart = s.domStart := rfl
@[simp] theorem State.emit_runSlices (s : State) (cls prod kind : Nat) (bs : List (BitVec 8)) (item : Option Nat) : (s.emit cls prod kind bs item).runSlices = s.runSlices := rfl
@[simp] theorem State.emit_runColour (s : State) (cls prod kind : Nat) (bs : List (BitVec 8)) (item : Option Nat) : (s.emit cls prod kind bs item).runColour = s.runColour := rfl
@[simp] theorem State.emit_flt (s : State) (cls prod kind : Nat) (bs : List (BitVec 8)) (item : Option Nat) : (s.emit cls prod kind bs item).flt = s.flt := rfl
@[simp] theorem State.emit_scrim (s : State) (cls prod kind : Nat) (bs : List (BitVec 8)) (item : Option Nat) : (s.emit cls prod kind bs item).scrim = s.scrim := rfl
@[simp] theorem State.emit_plumb (s : State) (cls prod kind : Nat) (bs : List (BitVec 8)) (item : Option Nat) : (s.emit cls prod kind bs item).plumb = s.plumb := rfl
@[simp] theorem State.emit_trk (s : State) (cls prod kind : Nat) (bs : List (BitVec 8)) (item : Option Nat) : (s.emit cls prod kind bs item).trk = s.trk := rfl
@[simp] theorem State.emit_ins (s : State) (cls prod kind : Nat) (bs : List (BitVec 8)) (item : Option Nat) : (s.emit cls prod kind bs item).ins = s.ins := rfl
@[simp] theorem State.emit_rol (s : State) (cls prod kind : Nat) (bs : List (BitVec 8)) (item : Option Nat) : (s.emit cls prod kind bs item).rol = s.rol := rfl
@[simp] theorem State.emit_cap (s : State) (cls prod kind : Nat) (bs : List (BitVec 8)) (item : Option Nat) : (s.emit cls prod kind bs item).cap = s.cap := rfl
@[simp] theorem State.emit_pageDue (s : State) (cls prod kind : Nat) (bs : List (BitVec 8)) (item : Option Nat) : (s.emit cls prod kind bs item).pageDue = s.pageDue := rfl
@[simp] theorem State.emit_mc (s : State) (cls prod kind : Nat) (bs : List (BitVec 8)) (item : Option Nat) : (s.emit cls prod kind bs item).mc = s.mc := rfl
@[simp] theorem State.emit_inPlace (s : State) (cls prod kind : Nat) (bs : List (BitVec 8)) (item : Option Nat) : (s.emit cls prod kind bs item).inPlace = s.inPlace := rfl
@[simp] theorem State.emit_hod (s : State) (cls prod kind : Nat) (bs : List (BitVec 8)) (item : Option Nat) : (s.emit cls prod kind bs item).hod = s.hod := rfl
@[simp] theorem State.emit_dma (s : State) (cls prod kind : Nat) (bs : List (BitVec 8)) (item : Option Nat) : (s.emit cls prod kind bs item).dma = s.dma := rfl
@[simp] theorem State.emit_dmaBytes (s : State) (cls prod kind : Nat) (bs : List (BitVec 8)) (item : Option Nat) : (s.emit cls prod kind bs item).dmaBytes = s.dmaBytes := rfl
@[simp] theorem State.emit_tyrex (s : State) (cls prod kind : Nat) (bs : List (BitVec 8)) (item : Option Nat) : (s.emit cls prod kind bs item).tyrex = s.tyrex := rfl
@[simp] theorem State.emit_eth (s : State) (cls prod kind : Nat) (bs : List (BitVec 8)) (item : Option Nat) : (s.emit cls prod kind bs item).eth = s.eth := rfl
@[simp] theorem State.emit_poe (s : State) (cls prod kind : Nat) (bs : List (BitVec 8)) (item : Option Nat) : (s.emit cls prod kind bs item).poe = s.poe := rfl
@[simp] theorem State.emit_pd (s : State) (cls prod kind : Nat) (bs : List (BitVec 8)) (item : Option Nat) : (s.emit cls prod kind bs item).pd = s.pd := rfl
@[simp] theorem State.emit_cal (s : State) (cls prod kind : Nat) (bs : List (BitVec 8)) (item : Option Nat) : (s.emit cls prod kind bs item).cal = s.cal := rfl
@[simp] theorem State.emit_hk (s : State) (cls prod kind : Nat) (bs : List (BitVec 8)) (item : Option Nat) : (s.emit cls prod kind bs item).hk = s.hk := rfl
@[simp] theorem State.emit_fil (s : State) (cls prod kind : Nat) (bs : List (BitVec 8)) (item : Option Nat) : (s.emit cls prod kind bs item).fil = s.fil := rfl
@[simp] theorem State.emit_sec (s : State) (cls prod kind : Nat) (bs : List (BitVec 8)) (item : Option Nat) : (s.emit cls prod kind bs item).sec = s.sec := rfl
@[simp] theorem State.emit_pwr (s : State) (cls prod kind : Nat) (bs : List (BitVec 8)) (item : Option Nat) : (s.emit cls prod kind bs item).pwr = s.pwr := rfl
@[simp] theorem State.emit_staged (s : State) (cls prod kind : Nat) (bs : List (BitVec 8)) (item : Option Nat) : (s.emit cls prod kind bs item).staged = s.staged := rfl
@[simp] theorem State.emit_modePend (s : State) (cls prod kind : Nat) (bs : List (BitVec 8)) (item : Option Nat) : (s.emit cls prod kind bs item).modePend = s.modePend := rfl
@[simp] theorem State.emit_secPasses (s : State) (cls prod kind : Nat) (bs : List (BitVec 8)) (item : Option Nat) : (s.emit cls prod kind bs item).secPasses = s.secPasses := rfl

@[simp] theorem State.send_pending (s : State) (x : Tx) : (s.send x).pending = s.pending := rfl
@[simp] theorem State.send_variant (s : State) (x : Tx) : (s.send x).variant = s.variant := rfl
@[simp] theorem State.send_now (s : State) (x : Tx) : (s.send x).now = s.now := rfl
@[simp] theorem State.send_draws (s : State) (x : Tx) : (s.send x).draws = s.draws := rfl
@[simp] theorem State.send_regs (s : State) (x : Tx) : (s.send x).regs = s.regs := rfl
@[simp] theorem State.send_shadow (s : State) (x : Tx) : (s.send x).shadow = s.shadow := rfl
@[simp] theorem State.send_held (s : State) (x : Tx) : (s.send x).held = s.held := rfl
@[simp] theorem State.send_snaps (s : State) (x : Tx) : (s.send x).snaps = s.snaps := rfl
@[simp] theorem State.send_latches (s : State) (x : Tx) : (s.send x).latches = s.latches := rfl
@[simp] theorem State.send_mem (s : State) (x : Tx) : (s.send x).mem = s.mem := rfl
@[simp] theorem State.send_irqHold (s : State) (x : Tx) : (s.send x).irqHold = s.irqHold := rfl
@[simp] theorem State.send_outbox (s : State) (x : Tx) : (s.send x).outbox = s.outbox := rfl
@[simp] theorem State.send_ptp (s : State) (x : Tx) : (s.send x).ptp = s.ptp := rfl
@[simp] theorem State.send_slices (s : State) (x : Tx) : (s.send x).slices = s.slices := rfl
@[simp] theorem State.send_timing (s : State) (x : Tx) : (s.send x).timing = s.timing := rfl
@[simp] theorem State.send_capLines (s : State) (x : Tx) : (s.send x).capLines = s.capLines := rfl
@[simp] theorem State.send_staggerQ (s : State) (x : Tx) : (s.send x).staggerQ = s.staggerQ := rfl
@[simp] theorem State.send_domWait (s : State) (x : Tx) : (s.send x).domWait = s.domWait := rfl
@[simp] theorem State.send_domFailed (s : State) (x : Tx) : (s.send x).domFailed = s.domFailed := rfl
@[simp] theorem State.send_domStart (s : State) (x : Tx) : (s.send x).domStart = s.domStart := rfl
@[simp] theorem State.send_runSlices (s : State) (x : Tx) : (s.send x).runSlices = s.runSlices := rfl
@[simp] theorem State.send_runColour (s : State) (x : Tx) : (s.send x).runColour = s.runColour := rfl
@[simp] theorem State.send_flt (s : State) (x : Tx) : (s.send x).flt = s.flt := rfl
@[simp] theorem State.send_scrim (s : State) (x : Tx) : (s.send x).scrim = s.scrim := rfl
@[simp] theorem State.send_plumb (s : State) (x : Tx) : (s.send x).plumb = s.plumb := rfl
@[simp] theorem State.send_trk (s : State) (x : Tx) : (s.send x).trk = s.trk := rfl
@[simp] theorem State.send_ins (s : State) (x : Tx) : (s.send x).ins = s.ins := rfl
@[simp] theorem State.send_rol (s : State) (x : Tx) : (s.send x).rol = s.rol := rfl
@[simp] theorem State.send_cap (s : State) (x : Tx) : (s.send x).cap = s.cap := rfl
@[simp] theorem State.send_pageDue (s : State) (x : Tx) : (s.send x).pageDue = s.pageDue := rfl
@[simp] theorem State.send_mc (s : State) (x : Tx) : (s.send x).mc = s.mc := rfl
@[simp] theorem State.send_inPlace (s : State) (x : Tx) : (s.send x).inPlace = s.inPlace := rfl
@[simp] theorem State.send_hod (s : State) (x : Tx) : (s.send x).hod = s.hod := rfl
@[simp] theorem State.send_dma (s : State) (x : Tx) : (s.send x).dma = s.dma := rfl
@[simp] theorem State.send_dmaBytes (s : State) (x : Tx) : (s.send x).dmaBytes = s.dmaBytes := rfl
@[simp] theorem State.send_tyrex (s : State) (x : Tx) : (s.send x).tyrex = s.tyrex := rfl
@[simp] theorem State.send_eth (s : State) (x : Tx) : (s.send x).eth = s.eth := rfl
@[simp] theorem State.send_poe (s : State) (x : Tx) : (s.send x).poe = s.poe := rfl
@[simp] theorem State.send_pd (s : State) (x : Tx) : (s.send x).pd = s.pd := rfl
@[simp] theorem State.send_cal (s : State) (x : Tx) : (s.send x).cal = s.cal := rfl
@[simp] theorem State.send_hk (s : State) (x : Tx) : (s.send x).hk = s.hk := rfl
@[simp] theorem State.send_fil (s : State) (x : Tx) : (s.send x).fil = s.fil := rfl
@[simp] theorem State.send_sec (s : State) (x : Tx) : (s.send x).sec = s.sec := rfl
@[simp] theorem State.send_pwr (s : State) (x : Tx) : (s.send x).pwr = s.pwr := rfl
@[simp] theorem State.send_staged (s : State) (x : Tx) : (s.send x).staged = s.staged := rfl
@[simp] theorem State.send_modePend (s : State) (x : Tx) : (s.send x).modePend = s.modePend := rfl
@[simp] theorem State.send_secPasses (s : State) (x : Tx) : (s.send x).secPasses = s.secPasses := rfl

@[simp] theorem State.modSlice_pending (s : State) (k : Nat) (f : Slice → Slice) : (s.modSlice k f).pending = s.pending := rfl
@[simp] theorem State.modSlice_variant (s : State) (k : Nat) (f : Slice → Slice) : (s.modSlice k f).variant = s.variant := rfl
@[simp] theorem State.modSlice_now (s : State) (k : Nat) (f : Slice → Slice) : (s.modSlice k f).now = s.now := rfl
@[simp] theorem State.modSlice_draws (s : State) (k : Nat) (f : Slice → Slice) : (s.modSlice k f).draws = s.draws := rfl
@[simp] theorem State.modSlice_regs (s : State) (k : Nat) (f : Slice → Slice) : (s.modSlice k f).regs = s.regs := rfl
@[simp] theorem State.modSlice_shadow (s : State) (k : Nat) (f : Slice → Slice) : (s.modSlice k f).shadow = s.shadow := rfl
@[simp] theorem State.modSlice_held (s : State) (k : Nat) (f : Slice → Slice) : (s.modSlice k f).held = s.held := rfl
@[simp] theorem State.modSlice_snaps (s : State) (k : Nat) (f : Slice → Slice) : (s.modSlice k f).snaps = s.snaps := rfl
@[simp] theorem State.modSlice_latches (s : State) (k : Nat) (f : Slice → Slice) : (s.modSlice k f).latches = s.latches := rfl
@[simp] theorem State.modSlice_mem (s : State) (k : Nat) (f : Slice → Slice) : (s.modSlice k f).mem = s.mem := rfl
@[simp] theorem State.modSlice_irqHold (s : State) (k : Nat) (f : Slice → Slice) : (s.modSlice k f).irqHold = s.irqHold := rfl
@[simp] theorem State.modSlice_outbox (s : State) (k : Nat) (f : Slice → Slice) : (s.modSlice k f).outbox = s.outbox := rfl
@[simp] theorem State.modSlice_tx (s : State) (k : Nat) (f : Slice → Slice) : (s.modSlice k f).tx = s.tx := rfl
@[simp] theorem State.modSlice_ptp (s : State) (k : Nat) (f : Slice → Slice) : (s.modSlice k f).ptp = s.ptp := rfl
@[simp] theorem State.modSlice_timing (s : State) (k : Nat) (f : Slice → Slice) : (s.modSlice k f).timing = s.timing := rfl
@[simp] theorem State.modSlice_capLines (s : State) (k : Nat) (f : Slice → Slice) : (s.modSlice k f).capLines = s.capLines := rfl
@[simp] theorem State.modSlice_staggerQ (s : State) (k : Nat) (f : Slice → Slice) : (s.modSlice k f).staggerQ = s.staggerQ := rfl
@[simp] theorem State.modSlice_domWait (s : State) (k : Nat) (f : Slice → Slice) : (s.modSlice k f).domWait = s.domWait := rfl
@[simp] theorem State.modSlice_domFailed (s : State) (k : Nat) (f : Slice → Slice) : (s.modSlice k f).domFailed = s.domFailed := rfl
@[simp] theorem State.modSlice_domStart (s : State) (k : Nat) (f : Slice → Slice) : (s.modSlice k f).domStart = s.domStart := rfl
@[simp] theorem State.modSlice_runSlices (s : State) (k : Nat) (f : Slice → Slice) : (s.modSlice k f).runSlices = s.runSlices := rfl
@[simp] theorem State.modSlice_runColour (s : State) (k : Nat) (f : Slice → Slice) : (s.modSlice k f).runColour = s.runColour := rfl
@[simp] theorem State.modSlice_flt (s : State) (k : Nat) (f : Slice → Slice) : (s.modSlice k f).flt = s.flt := rfl
@[simp] theorem State.modSlice_scrim (s : State) (k : Nat) (f : Slice → Slice) : (s.modSlice k f).scrim = s.scrim := rfl
@[simp] theorem State.modSlice_plumb (s : State) (k : Nat) (f : Slice → Slice) : (s.modSlice k f).plumb = s.plumb := rfl
@[simp] theorem State.modSlice_trk (s : State) (k : Nat) (f : Slice → Slice) : (s.modSlice k f).trk = s.trk := rfl
@[simp] theorem State.modSlice_ins (s : State) (k : Nat) (f : Slice → Slice) : (s.modSlice k f).ins = s.ins := rfl
@[simp] theorem State.modSlice_rol (s : State) (k : Nat) (f : Slice → Slice) : (s.modSlice k f).rol = s.rol := rfl
@[simp] theorem State.modSlice_cap (s : State) (k : Nat) (f : Slice → Slice) : (s.modSlice k f).cap = s.cap := rfl
@[simp] theorem State.modSlice_pageDue (s : State) (k : Nat) (f : Slice → Slice) : (s.modSlice k f).pageDue = s.pageDue := rfl
@[simp] theorem State.modSlice_mc (s : State) (k : Nat) (f : Slice → Slice) : (s.modSlice k f).mc = s.mc := rfl
@[simp] theorem State.modSlice_inPlace (s : State) (k : Nat) (f : Slice → Slice) : (s.modSlice k f).inPlace = s.inPlace := rfl
@[simp] theorem State.modSlice_hod (s : State) (k : Nat) (f : Slice → Slice) : (s.modSlice k f).hod = s.hod := rfl
@[simp] theorem State.modSlice_dma (s : State) (k : Nat) (f : Slice → Slice) : (s.modSlice k f).dma = s.dma := rfl
@[simp] theorem State.modSlice_dmaBytes (s : State) (k : Nat) (f : Slice → Slice) : (s.modSlice k f).dmaBytes = s.dmaBytes := rfl
@[simp] theorem State.modSlice_tyrex (s : State) (k : Nat) (f : Slice → Slice) : (s.modSlice k f).tyrex = s.tyrex := rfl
@[simp] theorem State.modSlice_eth (s : State) (k : Nat) (f : Slice → Slice) : (s.modSlice k f).eth = s.eth := rfl
@[simp] theorem State.modSlice_poe (s : State) (k : Nat) (f : Slice → Slice) : (s.modSlice k f).poe = s.poe := rfl
@[simp] theorem State.modSlice_pd (s : State) (k : Nat) (f : Slice → Slice) : (s.modSlice k f).pd = s.pd := rfl
@[simp] theorem State.modSlice_cal (s : State) (k : Nat) (f : Slice → Slice) : (s.modSlice k f).cal = s.cal := rfl
@[simp] theorem State.modSlice_hk (s : State) (k : Nat) (f : Slice → Slice) : (s.modSlice k f).hk = s.hk := rfl
@[simp] theorem State.modSlice_fil (s : State) (k : Nat) (f : Slice → Slice) : (s.modSlice k f).fil = s.fil := rfl
@[simp] theorem State.modSlice_sec (s : State) (k : Nat) (f : Slice → Slice) : (s.modSlice k f).sec = s.sec := rfl
@[simp] theorem State.modSlice_pwr (s : State) (k : Nat) (f : Slice → Slice) : (s.modSlice k f).pwr = s.pwr := rfl
@[simp] theorem State.modSlice_staged (s : State) (k : Nat) (f : Slice → Slice) : (s.modSlice k f).staged = s.staged := rfl
@[simp] theorem State.modSlice_modePend (s : State) (k : Nat) (f : Slice → Slice) : (s.modSlice k f).modePend = s.modePend := rfl
@[simp] theorem State.modSlice_secPasses (s : State) (k : Nat) (f : Slice → Slice) : (s.modSlice k f).secPasses = s.secPasses := rfl

@[simp] theorem State.shadowWrite_pending (s : State) (r : Row) (p i v : Nat) : (s.shadowWrite r p i v).pending = s.pending := rfl
@[simp] theorem State.shadowWrite_variant (s : State) (r : Row) (p i v : Nat) : (s.shadowWrite r p i v).variant = s.variant := rfl
@[simp] theorem State.shadowWrite_now (s : State) (r : Row) (p i v : Nat) : (s.shadowWrite r p i v).now = s.now := rfl
@[simp] theorem State.shadowWrite_draws (s : State) (r : Row) (p i v : Nat) : (s.shadowWrite r p i v).draws = s.draws := rfl
@[simp] theorem State.shadowWrite_regs (s : State) (r : Row) (p i v : Nat) : (s.shadowWrite r p i v).regs = s.regs := rfl
@[simp] theorem State.shadowWrite_held (s : State) (r : Row) (p i v : Nat) : (s.shadowWrite r p i v).held = s.held := rfl
@[simp] theorem State.shadowWrite_snaps (s : State) (r : Row) (p i v : Nat) : (s.shadowWrite r p i v).snaps = s.snaps := rfl
@[simp] theorem State.shadowWrite_latches (s : State) (r : Row) (p i v : Nat) : (s.shadowWrite r p i v).latches = s.latches := rfl
@[simp] theorem State.shadowWrite_mem (s : State) (r : Row) (p i v : Nat) : (s.shadowWrite r p i v).mem = s.mem := rfl
@[simp] theorem State.shadowWrite_irqHold (s : State) (r : Row) (p i v : Nat) : (s.shadowWrite r p i v).irqHold = s.irqHold := rfl
@[simp] theorem State.shadowWrite_outbox (s : State) (r : Row) (p i v : Nat) : (s.shadowWrite r p i v).outbox = s.outbox := rfl
@[simp] theorem State.shadowWrite_tx (s : State) (r : Row) (p i v : Nat) : (s.shadowWrite r p i v).tx = s.tx := rfl
@[simp] theorem State.shadowWrite_ptp (s : State) (r : Row) (p i v : Nat) : (s.shadowWrite r p i v).ptp = s.ptp := rfl
@[simp] theorem State.shadowWrite_slices (s : State) (r : Row) (p i v : Nat) : (s.shadowWrite r p i v).slices = s.slices := rfl
@[simp] theorem State.shadowWrite_timing (s : State) (r : Row) (p i v : Nat) : (s.shadowWrite r p i v).timing = s.timing := rfl
@[simp] theorem State.shadowWrite_capLines (s : State) (r : Row) (p i v : Nat) : (s.shadowWrite r p i v).capLines = s.capLines := rfl
@[simp] theorem State.shadowWrite_staggerQ (s : State) (r : Row) (p i v : Nat) : (s.shadowWrite r p i v).staggerQ = s.staggerQ := rfl
@[simp] theorem State.shadowWrite_domWait (s : State) (r : Row) (p i v : Nat) : (s.shadowWrite r p i v).domWait = s.domWait := rfl
@[simp] theorem State.shadowWrite_domFailed (s : State) (r : Row) (p i v : Nat) : (s.shadowWrite r p i v).domFailed = s.domFailed := rfl
@[simp] theorem State.shadowWrite_domStart (s : State) (r : Row) (p i v : Nat) : (s.shadowWrite r p i v).domStart = s.domStart := rfl
@[simp] theorem State.shadowWrite_runSlices (s : State) (r : Row) (p i v : Nat) : (s.shadowWrite r p i v).runSlices = s.runSlices := rfl
@[simp] theorem State.shadowWrite_runColour (s : State) (r : Row) (p i v : Nat) : (s.shadowWrite r p i v).runColour = s.runColour := rfl
@[simp] theorem State.shadowWrite_flt (s : State) (r : Row) (p i v : Nat) : (s.shadowWrite r p i v).flt = s.flt := rfl
@[simp] theorem State.shadowWrite_scrim (s : State) (r : Row) (p i v : Nat) : (s.shadowWrite r p i v).scrim = s.scrim := rfl
@[simp] theorem State.shadowWrite_plumb (s : State) (r : Row) (p i v : Nat) : (s.shadowWrite r p i v).plumb = s.plumb := rfl
@[simp] theorem State.shadowWrite_trk (s : State) (r : Row) (p i v : Nat) : (s.shadowWrite r p i v).trk = s.trk := rfl
@[simp] theorem State.shadowWrite_ins (s : State) (r : Row) (p i v : Nat) : (s.shadowWrite r p i v).ins = s.ins := rfl
@[simp] theorem State.shadowWrite_rol (s : State) (r : Row) (p i v : Nat) : (s.shadowWrite r p i v).rol = s.rol := rfl
@[simp] theorem State.shadowWrite_cap (s : State) (r : Row) (p i v : Nat) : (s.shadowWrite r p i v).cap = s.cap := rfl
@[simp] theorem State.shadowWrite_pageDue (s : State) (r : Row) (p i v : Nat) : (s.shadowWrite r p i v).pageDue = s.pageDue := rfl
@[simp] theorem State.shadowWrite_mc (s : State) (r : Row) (p i v : Nat) : (s.shadowWrite r p i v).mc = s.mc := rfl
@[simp] theorem State.shadowWrite_inPlace (s : State) (r : Row) (p i v : Nat) : (s.shadowWrite r p i v).inPlace = s.inPlace := rfl
@[simp] theorem State.shadowWrite_hod (s : State) (r : Row) (p i v : Nat) : (s.shadowWrite r p i v).hod = s.hod := rfl
@[simp] theorem State.shadowWrite_dma (s : State) (r : Row) (p i v : Nat) : (s.shadowWrite r p i v).dma = s.dma := rfl
@[simp] theorem State.shadowWrite_dmaBytes (s : State) (r : Row) (p i v : Nat) : (s.shadowWrite r p i v).dmaBytes = s.dmaBytes := rfl
@[simp] theorem State.shadowWrite_tyrex (s : State) (r : Row) (p i v : Nat) : (s.shadowWrite r p i v).tyrex = s.tyrex := rfl
@[simp] theorem State.shadowWrite_eth (s : State) (r : Row) (p i v : Nat) : (s.shadowWrite r p i v).eth = s.eth := rfl
@[simp] theorem State.shadowWrite_poe (s : State) (r : Row) (p i v : Nat) : (s.shadowWrite r p i v).poe = s.poe := rfl
@[simp] theorem State.shadowWrite_pd (s : State) (r : Row) (p i v : Nat) : (s.shadowWrite r p i v).pd = s.pd := rfl
@[simp] theorem State.shadowWrite_cal (s : State) (r : Row) (p i v : Nat) : (s.shadowWrite r p i v).cal = s.cal := rfl
@[simp] theorem State.shadowWrite_hk (s : State) (r : Row) (p i v : Nat) : (s.shadowWrite r p i v).hk = s.hk := rfl
@[simp] theorem State.shadowWrite_fil (s : State) (r : Row) (p i v : Nat) : (s.shadowWrite r p i v).fil = s.fil := rfl
@[simp] theorem State.shadowWrite_sec (s : State) (r : Row) (p i v : Nat) : (s.shadowWrite r p i v).sec = s.sec := rfl
@[simp] theorem State.shadowWrite_pwr (s : State) (r : Row) (p i v : Nat) : (s.shadowWrite r p i v).pwr = s.pwr := rfl
@[simp] theorem State.shadowWrite_staged (s : State) (r : Row) (p i v : Nat) : (s.shadowWrite r p i v).staged = s.staged := rfl
@[simp] theorem State.shadowWrite_modePend (s : State) (r : Row) (p i v : Nat) : (s.shadowWrite r p i v).modePend = s.modePend := rfl
@[simp] theorem State.shadowWrite_secPasses (s : State) (r : Row) (p i v : Nat) : (s.shadowWrite r p i v).secPasses = s.secPasses := rfl

@[simp] theorem State.unshadow_pending (s : State) (r : Row) (p i : Nat) : (s.unshadow r p i).pending = s.pending := rfl
@[simp] theorem State.unshadow_variant (s : State) (r : Row) (p i : Nat) : (s.unshadow r p i).variant = s.variant := rfl
@[simp] theorem State.unshadow_now (s : State) (r : Row) (p i : Nat) : (s.unshadow r p i).now = s.now := rfl
@[simp] theorem State.unshadow_draws (s : State) (r : Row) (p i : Nat) : (s.unshadow r p i).draws = s.draws := rfl
@[simp] theorem State.unshadow_regs (s : State) (r : Row) (p i : Nat) : (s.unshadow r p i).regs = s.regs := rfl
@[simp] theorem State.unshadow_held (s : State) (r : Row) (p i : Nat) : (s.unshadow r p i).held = s.held := rfl
@[simp] theorem State.unshadow_snaps (s : State) (r : Row) (p i : Nat) : (s.unshadow r p i).snaps = s.snaps := rfl
@[simp] theorem State.unshadow_latches (s : State) (r : Row) (p i : Nat) : (s.unshadow r p i).latches = s.latches := rfl
@[simp] theorem State.unshadow_mem (s : State) (r : Row) (p i : Nat) : (s.unshadow r p i).mem = s.mem := rfl
@[simp] theorem State.unshadow_irqHold (s : State) (r : Row) (p i : Nat) : (s.unshadow r p i).irqHold = s.irqHold := rfl
@[simp] theorem State.unshadow_outbox (s : State) (r : Row) (p i : Nat) : (s.unshadow r p i).outbox = s.outbox := rfl
@[simp] theorem State.unshadow_tx (s : State) (r : Row) (p i : Nat) : (s.unshadow r p i).tx = s.tx := rfl
@[simp] theorem State.unshadow_ptp (s : State) (r : Row) (p i : Nat) : (s.unshadow r p i).ptp = s.ptp := rfl
@[simp] theorem State.unshadow_slices (s : State) (r : Row) (p i : Nat) : (s.unshadow r p i).slices = s.slices := rfl
@[simp] theorem State.unshadow_timing (s : State) (r : Row) (p i : Nat) : (s.unshadow r p i).timing = s.timing := rfl
@[simp] theorem State.unshadow_capLines (s : State) (r : Row) (p i : Nat) : (s.unshadow r p i).capLines = s.capLines := rfl
@[simp] theorem State.unshadow_staggerQ (s : State) (r : Row) (p i : Nat) : (s.unshadow r p i).staggerQ = s.staggerQ := rfl
@[simp] theorem State.unshadow_domWait (s : State) (r : Row) (p i : Nat) : (s.unshadow r p i).domWait = s.domWait := rfl
@[simp] theorem State.unshadow_domFailed (s : State) (r : Row) (p i : Nat) : (s.unshadow r p i).domFailed = s.domFailed := rfl
@[simp] theorem State.unshadow_domStart (s : State) (r : Row) (p i : Nat) : (s.unshadow r p i).domStart = s.domStart := rfl
@[simp] theorem State.unshadow_runSlices (s : State) (r : Row) (p i : Nat) : (s.unshadow r p i).runSlices = s.runSlices := rfl
@[simp] theorem State.unshadow_runColour (s : State) (r : Row) (p i : Nat) : (s.unshadow r p i).runColour = s.runColour := rfl
@[simp] theorem State.unshadow_flt (s : State) (r : Row) (p i : Nat) : (s.unshadow r p i).flt = s.flt := rfl
@[simp] theorem State.unshadow_scrim (s : State) (r : Row) (p i : Nat) : (s.unshadow r p i).scrim = s.scrim := rfl
@[simp] theorem State.unshadow_plumb (s : State) (r : Row) (p i : Nat) : (s.unshadow r p i).plumb = s.plumb := rfl
@[simp] theorem State.unshadow_trk (s : State) (r : Row) (p i : Nat) : (s.unshadow r p i).trk = s.trk := rfl
@[simp] theorem State.unshadow_ins (s : State) (r : Row) (p i : Nat) : (s.unshadow r p i).ins = s.ins := rfl
@[simp] theorem State.unshadow_rol (s : State) (r : Row) (p i : Nat) : (s.unshadow r p i).rol = s.rol := rfl
@[simp] theorem State.unshadow_cap (s : State) (r : Row) (p i : Nat) : (s.unshadow r p i).cap = s.cap := rfl
@[simp] theorem State.unshadow_pageDue (s : State) (r : Row) (p i : Nat) : (s.unshadow r p i).pageDue = s.pageDue := rfl
@[simp] theorem State.unshadow_mc (s : State) (r : Row) (p i : Nat) : (s.unshadow r p i).mc = s.mc := rfl
@[simp] theorem State.unshadow_inPlace (s : State) (r : Row) (p i : Nat) : (s.unshadow r p i).inPlace = s.inPlace := rfl
@[simp] theorem State.unshadow_hod (s : State) (r : Row) (p i : Nat) : (s.unshadow r p i).hod = s.hod := rfl
@[simp] theorem State.unshadow_dma (s : State) (r : Row) (p i : Nat) : (s.unshadow r p i).dma = s.dma := rfl
@[simp] theorem State.unshadow_dmaBytes (s : State) (r : Row) (p i : Nat) : (s.unshadow r p i).dmaBytes = s.dmaBytes := rfl
@[simp] theorem State.unshadow_tyrex (s : State) (r : Row) (p i : Nat) : (s.unshadow r p i).tyrex = s.tyrex := rfl
@[simp] theorem State.unshadow_eth (s : State) (r : Row) (p i : Nat) : (s.unshadow r p i).eth = s.eth := rfl
@[simp] theorem State.unshadow_poe (s : State) (r : Row) (p i : Nat) : (s.unshadow r p i).poe = s.poe := rfl
@[simp] theorem State.unshadow_pd (s : State) (r : Row) (p i : Nat) : (s.unshadow r p i).pd = s.pd := rfl
@[simp] theorem State.unshadow_cal (s : State) (r : Row) (p i : Nat) : (s.unshadow r p i).cal = s.cal := rfl
@[simp] theorem State.unshadow_hk (s : State) (r : Row) (p i : Nat) : (s.unshadow r p i).hk = s.hk := rfl
@[simp] theorem State.unshadow_fil (s : State) (r : Row) (p i : Nat) : (s.unshadow r p i).fil = s.fil := rfl
@[simp] theorem State.unshadow_sec (s : State) (r : Row) (p i : Nat) : (s.unshadow r p i).sec = s.sec := rfl
@[simp] theorem State.unshadow_pwr (s : State) (r : Row) (p i : Nat) : (s.unshadow r p i).pwr = s.pwr := rfl
@[simp] theorem State.unshadow_staged (s : State) (r : Row) (p i : Nat) : (s.unshadow r p i).staged = s.staged := rfl
@[simp] theorem State.unshadow_modePend (s : State) (r : Row) (p i : Nat) : (s.unshadow r p i).modePend = s.modePend := rfl
@[simp] theorem State.unshadow_secPasses (s : State) (r : Row) (p i : Nat) : (s.unshadow r p i).secPasses = s.secPasses := rfl

end Sys2Proof.Machine
end

