-- ==== Sys2Proof/Laws/Ops.lean ====
section
/-! SUPPORT. The laws of the named operations: sparse maps, DRAM bytes and their canonical form, register fields. -/
namespace Sys2Proof.Machine
open Sys2Proof

/-! ## Sparse maps -/

/-- What was put is found. -/
@[simp] theorem smFind_smPut_self {α : Type} (m : List (Nat × α)) (k : Nat) (v : α) : smFind (smPut m k v) k = some v := by
  induction m with
  | nil => simp [smPut, smFind]
  | cons c m ih =>
    obtain ⟨a, x⟩ := c
    simp only [smPut]
    split
    · simp [smFind]
    · split
      · simp [smFind]
      · simp [smFind, *]

/-- Other keys are found as before. -/
theorem smFind_smPut_ne {α : Type} (m : List (Nat × α)) (k j : Nat) (v : α) (h : j ≠ k) : smFind (smPut m k v) j = smFind m j := by
  induction m with
  | nil => simp [smPut, smFind, h]
  | cons c m ih =>
    obtain ⟨a, x⟩ := c
    simp only [smPut]
    split
    · next e => subst e; simp [smFind, h]
    · split
      · next h1 h2 =>
        simp only [smFind, h, if_false]
        by_cases hjk : j < k
        · have h3 : j ≠ a := by omega
          have h4 : j < a := by omega
          simp [hjk, h3, h4]
        · simp [hjk]
      · simp [smFind, ih]

@[simp] theorem smGet_smPut_self {α : Type} (d : α) (m : List (Nat × α)) (k : Nat) (v : α) : smGet d (smPut m k v) k = v := by
  simp [smGet]

theorem smGet_smPut_ne {α : Type} (d : α) (m : List (Nat × α)) (k j : Nat) (v : α) (h : j ≠ k) :
    smGet d (smPut m k v) j = smGet d m j := by
  simp [smGet, smFind_smPut_ne m k j v h]

/-- A map bounded below finds nothing at or below its bound. -/
theorem smFind_below {α : Type} (m : List (Nat × α)) (b k : Nat) (h : smSortedFrom (some b) m = true) (hk : k ≤ b) :
    smFind m k = none := by
  cases m with
  | nil => rfl
  | cons c m =>
    obtain ⟨a, x⟩ := c
    simp [smSortedFrom] at h
    have h1 : k ≠ a := by omega
    have h2 : k < a := by omega
    simp [smFind, h1, h2]

theorem smSortedFrom_weaken {α : Type} (m : List (Nat × α)) (b c : Nat) (h : smSortedFrom (some b) m = true) (hc : c ≤ b) :
    smSortedFrom (some c) m = true := by
  cases m with
  | nil => rfl
  | cons e m => obtain ⟨a, x⟩ := e; simp [smSortedFrom] at *; exact ⟨by omega, h.2⟩

theorem smSorted_tail {α : Type} (a : Nat) (x : α) (m : List (Nat × α)) : smSorted ((a, x) :: m) = smSortedFrom (some a) m := rfl

/-- Putting keeps the keys rising. -/
theorem smSortedFrom_smPut {α : Type} (m : List (Nat × α)) (b k : Nat) (v : α) (h : smSortedFrom (some b) m = true) (hk : b < k) :
    smSortedFrom (some b) (smPut m k v) = true := by
  induction m generalizing b with
  | nil => simp [smPut, smSortedFrom, hk]
  | cons c m ih =>
    obtain ⟨a, x⟩ := c
    simp [smSortedFrom] at h
    simp only [smPut]
    split
    · next e => subst e; simp [smSortedFrom, hk, h.2]
    · split
      · next h1 h2 => simp [smSortedFrom, hk, h2, h.2]
      · next h1 h2 => simp [smSortedFrom, h.1]; exact ih a h.2 (by omega)

theorem smSorted_smPut {α : Type} (m : List (Nat × α)) (k : Nat) (v : α) (h : smSorted m = true) : smSorted (smPut m k v) = true := by
  cases m with
  | nil => rfl
  | cons c m =>
    obtain ⟨a, x⟩ := c
    rw [smSorted_tail] at h
    simp only [smPut]
    split
    · next e => subst e; exact h
    · split
      · next h1 h2 => simp [smSorted, smSortedFrom, h2, h]
      · next h1 h2 => exact smSortedFrom_smPut m a k v h (by omega)

/-- Deleting keeps the keys rising. -/
theorem smSortedFrom_smDel {α : Type} (m : List (Nat × α)) (b k : Nat) (h : smSortedFrom (some b) m = true) :
    smSortedFrom (some b) (smDel m k) = true := by
  induction m generalizing b with
  | nil => rfl
  | cons c m ih =>
    obtain ⟨a, x⟩ := c
    simp [smSortedFrom] at h
    simp only [smDel]
    split
    · exact smSortedFrom_weaken _ a b (ih a h.2) (by omega)
    · simp [smSortedFrom, h.1, ih a h.2]

theorem smSorted_smDel {α : Type} (m : List (Nat × α)) (k : Nat) (h : smSorted m = true) : smSorted (smDel m k) = true := by
  cases m with
  | nil => rfl
  | cons c m =>
    obtain ⟨a, x⟩ := c
    rw [smSorted_tail] at h
    have g := smSortedFrom_smDel m a k h
    simp only [smDel]
    split
    · revert g
      generalize smDel m k = d
      intro g
      cases d with
      | nil => rfl
      | cons e d => obtain ⟨b, y⟩ := e; simp [smSortedFrom] at g; exact g.2
    · exact g

/-- What was deleted is not found. -/
@[simp] theorem smFind_smDel_self {α : Type} (m : List (Nat × α)) (k : Nat) : smFind (smDel m k) k = none := by
  induction m with
  | nil => rfl
  | cons c m ih =>
    obtain ⟨a, x⟩ := c
    simp only [smDel]
    split
    · exact ih
    · next h => simp [smFind, h, ih]

/-- Deleting one key leaves the others. -/
theorem smFind_smDel_ne {α : Type} (m : List (Nat × α)) (k j : Nat) (h : smSorted m = true) (hj : j ≠ k) :
    smFind (smDel m k) j = smFind m j := by
  have go : ∀ (m : List (Nat × α)) (b : Nat), smSortedFrom (some b) m = true → smFind (smDel m k) j = smFind m j := by
    intro m
    induction m with
    | nil => intro b _; rfl
    | cons c m ih =>
      intro b hb
      obtain ⟨a, x⟩ := c
      simp [smSortedFrom] at hb
      simp only [smDel]
      split
      · next e =>
        subst e
        rw [ih k hb.2]
        simp only [smFind, hj, if_false]
        split
        · next h1 => exact smFind_below m k j hb.2 (by omega)
        · rfl
      · simp [smFind, ih a hb.2]
  cases m with
  | nil => rfl
  | cons c m =>
    obtain ⟨a, x⟩ := c
    rw [smSorted_tail] at h
    simp only [smDel]
    split
    · next e =>
      subst e
      rw [go m k h]
      simp only [smFind, hj, if_false]
      split
      · next h1 => exact smFind_below m k j h (by omega)
      · rfl
    · simp [smFind, go m a h]

/-! ## DRAM -/

theorem all_smPut {α : Type} (p : Nat × α → Bool) (m : List (Nat × α)) (k : Nat) (v : α) (h : m.all p = true) (hv : p (k, v) = true) :
    (smPut m k v).all p = true := by
  induction m with
  | nil => simp [smPut, hv]
  | cons c m ih =>
    obtain ⟨a, x⟩ := c
    simp only [List.all_cons, Bool.and_eq_true] at h
    simp only [smPut]
    split
    · simp [hv, h.2]
    · split
      · simp [hv, h.1, h.2]
      · simp only [List.all_cons, h.1, ih h.2, Bool.and_self]

theorem all_smDel {α : Type} (p : Nat × α → Bool) (m : List (Nat × α)) (k : Nat) (h : m.all p = true) : (smDel m k).all p = true := by
  induction m with
  | nil => rfl
  | cons c m ih =>
    obtain ⟨a, x⟩ := c
    simp only [List.all_cons, Bool.and_eq_true] at h
    simp only [smDel]
    split
    · exact ih h.2
    · simp [h.1, ih h.2]

/-- A write of one byte keeps the canonical form. -/
theorem Memory.wf_memPut (m : List Host.Cell) (a : Nat) (b : BitVec 8) (h : Memory.wf m = true) : Memory.wf (memPut m a b) = true := by
  simp only [Memory.wf, Bool.and_eq_true] at *
  unfold memPut
  split
  · exact h
  · split
    · exact ⟨smSorted_smDel m a h.1, all_smDel _ m a h.2⟩
    · next hb => exact ⟨smSorted_smPut m a b h.1, all_smPut _ m a b h.2 (by simp [hb])⟩

/-- A write of bytes keeps the canonical form. -/
theorem Memory.wf_memPutBytes (bs : List (BitVec 8)) (m : List Host.Cell) (a : Nat) (h : Memory.wf m = true) :
    Memory.wf (memPutBytes m a bs) = true := by
  induction bs generalizing m a with
  | nil => exact h
  | cons b bs ih => exact ih _ _ (Memory.wf_memPut m a b h)

/-- A write at an address that does not exist is dropped (R315). -/
theorem memPut_beyond (m : List Host.Cell) (a : Nat) (b : BitVec 8) (ha : dramEnd ≤ a) : memPut m a b = m := by
  simp [memPut, ha]

theorem memGet_memPut_self (m : List Host.Cell) (a : Nat) (b : BitVec 8) (ha : a < dramEnd) : memGet (memPut m a b) a = b := by
  unfold memPut memGet smGet
  rw [if_neg (by omega)]
  split
  · next hb => rw [smFind_smDel_self m a, hb]; rfl
  · simp

theorem memGet_memPut_ne (m : List Host.Cell) (a x : Nat) (b : BitVec 8) (h : Memory.wf m = true) (hx : x ≠ a) :
    memGet (memPut m a b) x = memGet m x := by
  simp only [Memory.wf, Bool.and_eq_true] at h
  unfold memPut memGet smGet
  split
  · rfl
  · split
    · rw [smFind_smDel_ne m a x h.1 hx]
    · rw [smFind_smPut_ne m a x b hx]

/-! ## Register fields -/

/-- A field reads what was last stored in it, modulo its width. -/
@[simp] theorem State.get_set_self (s : State) (r : Row) (v p i : Nat) : (s.set r v p i).get r p i = v % 2 ^ r.width := by
  simp [State.get, State.set]

/-- A store leaves every field that stands elsewhere. -/
theorem State.get_set_ne (s : State) (r q : Row) (v p i p' i' : Nat) (h : Row.code q p' i' ≠ Row.code r p i) :
    (s.set r v p i).get q p' i' = s.get q p' i' := by
  simp [State.get, State.set, smFind_smPut_ne _ _ _ _ h]

theorem State.get_of_regs (s t : State) (h : t.regs = s.regs) (hv : t.variant = s.variant) (r : Row) (p i : Nat) :
    t.get r p i = s.get r p i := by
  simp [State.get, h, hv]

@[simp] theorem State.get_emit (s : State) (c n k : Nat) (b : List (BitVec 8)) (x : Option Nat) (r : Row) (p i : Nat) :
    (s.emit c n k b x).get r p i = s.get r p i := rfl
@[simp] theorem State.get_send (s : State) (x : Tx) (r : Row) (p i : Nat) : (s.send x).get r p i = s.get r p i := rfl
@[simp] theorem State.get_modSlice (s : State) (k : Nat) (f : Slice → Slice) (r : Row) (p i : Nat) :
    (s.modSlice k f).get r p i = s.get r p i := rfl
@[simp] theorem State.get_shadowWrite (s : State) (q : Row) (p' i' v : Nat) (r : Row) (p i : Nat) :
    (s.shadowWrite q p' i' v).get r p i = s.get r p i := rfl

/-- The queue, the time and the variant are none of a command's effects. -/
@[simp] theorem ran_next (s t : State) :
    ran s t = .next { t with pending := s.pending, now := s.now, variant := s.variant } := rfl

theorem ranIf_true (m : String) (s t : State) : ranIf true m s t = ran s t := rfl

end Sys2Proof.Machine
end

