-- ==== Sys2Proof/Laws/Flags.lean ====
section
/-! SUPPORT. Flags and errors: what raising an interrupt flag or recording an error changes, and that it leaves the rest. -/
namespace Sys2Proof.Machine
open Sys2Proof

/-- A command whose new state keeps queue, time and variant answers exactly that state. -/
theorem ran_eq (s t : State) (hp : t.pending = s.pending) (hn : t.now = s.now) (hv : t.variant = s.variant) : ran s t = .next t := by
  cases t; simp_all [ran]

/-- The flags and the outbox are all that an IRQ event and its merging touch, with IRQ_EVT_MERGED. -/
theorem irqRise_cases (s : State) (page : Nat) :
    s.irqRise page = s ∨ s.irqRise page = s.irqEvent page ∨
    s.irqRise page = ({ s with irqHold := smPut s.irqHold page { rose := true } }).inc R.IRQ_EVT_MERGED := by
  unfold State.irqRise
  split
  · split
    · exact .inr (.inl rfl)
    · exact .inr (.inr rfl)
  · exact .inl rfl

theorem irqEvent_regs (s : State) (page : Nat) : (s.irqEvent page).regs = s.regs := by
  unfold State.irqEvent; split <;> rfl

theorem irqAfter_cases (s t : State) (page : Nat) : s.irqAfter t page = t ∨ s.irqAfter t page = t.irqRise page := by
  unfold State.irqAfter; split
  · exact .inr rfl
  · exact .inl rfl

/-- The IRQ page's counter of merged rises is the only register that a rise may change. -/
theorem irqRise_find (s : State) (page c : Nat) (h : c ≠ Row.code R.IRQ_EVT_MERGED 0 0) :
    smFind (s.irqRise page).regs c = smFind s.regs c := by
  rcases irqRise_cases s page with e | e | e
  · rw [e]
  · rw [e, irqEvent_regs]
  · rw [e]; exact smFind_smPut_ne _ _ _ _ h

theorem irqAfter_find (s t : State) (page c : Nat) (h : c ≠ Row.code R.IRQ_EVT_MERGED 0 0) :
    smFind (s.irqAfter t page).regs c = smFind t.regs c := by
  rcases irqAfter_cases s t page with e | e
  · rw [e]
  · rw [e, irqRise_find t page c h]

/-- Raising flags of a page changes only that page's IRQ_RAW and EVT_CNT, and IRQ_EVT_MERGED. -/
theorem raiseMask_find (s : State) (page mask c : Nat) (h : c ≠ Row.code R.IRQ_EVT_MERGED 0 0) (h1 : c ≠ Row.code R.IRQ_RAW page 0)
    (h2 : c ≠ Row.code R.EVT_CNT page 0) : smFind (s.raiseMask page mask).regs c = smFind s.regs c := by
  rw [State.raiseMask, irqAfter_find _ _ _ _ h]
  rw [State.incBy, State.set, smFind_smPut_ne _ _ _ _ h2, State.set, smFind_smPut_ne _ _ _ _ h1]


@[simp] theorem irqRise_pending (s : State) (page : Nat) : (s.irqRise page).pending = s.pending := by
  unfold State.irqRise State.irqEvent; repeat' split
  all_goals rfl
@[simp] theorem raiseMask_pending (s : State) (page mask : Nat) : (s.raiseMask page mask).pending = s.pending := by
  unfold State.raiseMask State.irqAfter; split <;> simp
@[simp] theorem raise_pending (s : State) (page b : Nat) : (s.raise page b).pending = s.pending := raiseMask_pending s page (2 ^ b)
@[simp] theorem irqRise_variant (s : State) (page : Nat) : (s.irqRise page).variant = s.variant := by
  unfold State.irqRise State.irqEvent; repeat' split
  all_goals rfl
@[simp] theorem raiseMask_variant (s : State) (page mask : Nat) : (s.raiseMask page mask).variant = s.variant := by
  unfold State.raiseMask State.irqAfter; split <;> simp
@[simp] theorem raise_variant (s : State) (page b : Nat) : (s.raise page b).variant = s.variant := raiseMask_variant s page (2 ^ b)
@[simp] theorem irqRise_now (s : State) (page : Nat) : (s.irqRise page).now = s.now := by
  unfold State.irqRise State.irqEvent; repeat' split
  all_goals rfl
@[simp] theorem raiseMask_now (s : State) (page mask : Nat) : (s.raiseMask page mask).now = s.now := by
  unfold State.raiseMask State.irqAfter; split <;> simp
@[simp] theorem raise_now (s : State) (page b : Nat) : (s.raise page b).now = s.now := raiseMask_now s page (2 ^ b)
@[simp] theorem irqRise_draws (s : State) (page : Nat) : (s.irqRise page).draws = s.draws := by
  unfold State.irqRise State.irqEvent; repeat' split
  all_goals rfl
@[simp] theorem raiseMask_draws (s : State) (page mask : Nat) : (s.raiseMask page mask).draws = s.draws := by
  unfold State.raiseMask State.irqAfter; split <;> simp
@[simp] theorem raise_draws (s : State) (page b : Nat) : (s.raise page b).draws = s.draws := raiseMask_draws s page (2 ^ b)
@[simp] theorem irqRise_shadow (s : State) (page : Nat) : (s.irqRise page).shadow = s.shadow := by
  unfold State.irqRise State.irqEvent; repeat' split
  all_goals rfl
@[simp] theorem raiseMask_shadow (s : State) (page mask : Nat) : (s.raiseMask page mask).shadow = s.shadow := by
  unfold State.raiseMask State.irqAfter; split <;> simp
@[simp] theorem raise_shadow (s : State) (page b : Nat) : (s.raise page b).shadow = s.shadow := raiseMask_shadow s page (2 ^ b)
@[simp] theorem irqRise_held (s : State) (page : Nat) : (s.irqRise page).held = s.held := by
  unfold State.irqRise State.irqEvent; repeat' split
  all_goals rfl
@[simp] theorem raiseMask_held (s : State) (page mask : Nat) : (s.raiseMask page mask).held = s.held := by
  unfold State.raiseMask State.irqAfter; split <;> simp
@[simp] theorem raise_held (s : State) (page b : Nat) : (s.raise page b).held = s.held := raiseMask_held s page (2 ^ b)
@[simp] theorem irqRise_snaps (s : State) (page : Nat) : (s.irqRise page).snaps = s.snaps := by
  unfold State.irqRise State.irqEvent; repeat' split
  all_goals rfl
@[simp] theorem raiseMask_snaps (s : State) (page mask : Nat) : (s.raiseMask page mask).snaps = s.snaps := by
  unfold State.raiseMask State.irqAfter; split <;> simp
@[simp] theorem raise_snaps (s : State) (page b : Nat) : (s.raise page b).snaps = s.snaps := raiseMask_snaps s page (2 ^ b)
@[simp] theorem irqRise_latches (s : State) (page : Nat) : (s.irqRise page).latches = s.latches := by
  unfold State.irqRise State.irqEvent; repeat' split
  all_goals rfl
@[simp] theorem raiseMask_latches (s : State) (page mask : Nat) : (s.raiseMask page mask).latches = s.latches := by
  unfold State.raiseMask State.irqAfter; split <;> simp
@[simp] theorem raise_latches (s : State) (page b : Nat) : (s.raise page b).latches = s.latches := raiseMask_latches s page (2 ^ b)
@[simp] theorem irqRise_mem (s : State) (page : Nat) : (s.irqRise page).mem = s.mem := by
  unfold State.irqRise State.irqEvent; repeat' split
  all_goals rfl
@[simp] theorem raiseMask_mem (s : State) (page mask : Nat) : (s.raiseMask page mask).mem = s.mem := by
  unfold State.raiseMask State.irqAfter; split <;> simp
@[simp] theorem raise_mem (s : State) (page b : Nat) : (s.raise page b).mem = s.mem := raiseMask_mem s page (2 ^ b)
@[simp] theorem irqRise_tx (s : State) (page : Nat) : (s.irqRise page).tx = s.tx := by
  unfold State.irqRise State.irqEvent; repeat' split
  all_goals rfl
@[simp] theorem raiseMask_tx (s : State) (page mask : Nat) : (s.raiseMask page mask).tx = s.tx := by
  unfold State.raiseMask State.irqAfter; split <;> simp
@[simp] theorem raise_tx (s : State) (page b : Nat) : (s.raise page b).tx = s.tx := raiseMask_tx s page (2 ^ b)
@[simp] theorem irqRise_ptp (s : State) (page : Nat) : (s.irqRise page).ptp = s.ptp := by
  unfold State.irqRise State.irqEvent; repeat' split
  all_goals rfl
@[simp] theorem raiseMask_ptp (s : State) (page mask : Nat) : (s.raiseMask page mask).ptp = s.ptp := by
  unfold State.raiseMask State.irqAfter; split <;> simp
@[simp] theorem raise_ptp (s : State) (page b : Nat) : (s.raise page b).ptp = s.ptp := raiseMask_ptp s page (2 ^ b)
@[simp] theorem irqRise_slices (s : State) (page : Nat) : (s.irqRise page).slices = s.slices := by
  unfold State.irqRise State.irqEvent; repeat' split
  all_goals rfl
@[simp] theorem raiseMask_slices (s : State) (page mask : Nat) : (s.raiseMask page mask).slices = s.slices := by
  unfold State.raiseMask State.irqAfter; split <;> simp
@[simp] theorem raise_slices (s : State) (page b : Nat) : (s.raise page b).slices = s.slices := raiseMask_slices s page (2 ^ b)
@[simp] theorem irqRise_timing (s : State) (page : Nat) : (s.irqRise page).timing = s.timing := by
  unfold State.irqRise State.irqEvent; repeat' split
  all_goals rfl
@[simp] theorem raiseMask_timing (s : State) (page mask : Nat) : (s.raiseMask page mask).timing = s.timing := by
  unfold State.raiseMask State.irqAfter; split <;> simp
@[simp] theorem raise_timing (s : State) (page b : Nat) : (s.raise page b).timing = s.timing := raiseMask_timing s page (2 ^ b)
@[simp] theorem irqRise_capLines (s : State) (page : Nat) : (s.irqRise page).capLines = s.capLines := by
  unfold State.irqRise State.irqEvent; repeat' split
  all_goals rfl
@[simp] theorem raiseMask_capLines (s : State) (page mask : Nat) : (s.raiseMask page mask).capLines = s.capLines := by
  unfold State.raiseMask State.irqAfter; split <;> simp
@[simp] theorem raise_capLines (s : State) (page b : Nat) : (s.raise page b).capLines = s.capLines := raiseMask_capLines s page (2 ^ b)
@[simp] theorem irqRise_staggerQ (s : State) (page : Nat) : (s.irqRise page).staggerQ = s.staggerQ := by
  unfold State.irqRise State.irqEvent; repeat' split
  all_goals rfl
@[simp] theorem raiseMask_staggerQ (s : State) (page mask : Nat) : (s.raiseMask page mask).staggerQ = s.staggerQ := by
  unfold State.raiseMask State.irqAfter; split <;> simp
@[simp] theorem raise_staggerQ (s : State) (page b : Nat) : (s.raise page b).staggerQ = s.staggerQ := raiseMask_staggerQ s page (2 ^ b)
@[simp] theorem irqRise_domWait (s : State) (page : Nat) : (s.irqRise page).domWait = s.domWait := by
  unfold State.irqRise State.irqEvent; repeat' split
  all_goals rfl
@[simp] theorem raiseMask_domWait (s : State) (page mask : Nat) : (s.raiseMask page mask).domWait = s.domWait := by
  unfold State.raiseMask State.irqAfter; split <;> simp
@[simp] theorem raise_domWait (s : State) (page b : Nat) : (s.raise page b).domWait = s.domWait := raiseMask_domWait s page (2 ^ b)
@[simp] theorem irqRise_domFailed (s : State) (page : Nat) : (s.irqRise page).domFailed = s.domFailed := by
  unfold State.irqRise State.irqEvent; repeat' split
  all_goals rfl
@[simp] theorem raiseMask_domFailed (s : State) (page mask : Nat) : (s.raiseMask page mask).domFailed = s.domFailed := by
  unfold State.raiseMask State.irqAfter; split <;> simp
@[simp] theorem raise_domFailed (s : State) (page b : Nat) : (s.raise page b).domFailed = s.domFailed := raiseMask_domFailed s page (2 ^ b)
@[simp] theorem irqRise_domStart (s : State) (page : Nat) : (s.irqRise page).domStart = s.domStart := by
  unfold State.irqRise State.irqEvent; repeat' split
  all_goals rfl
@[simp] theorem raiseMask_domStart (s : State) (page mask : Nat) : (s.raiseMask page mask).domStart = s.domStart := by
  unfold State.raiseMask State.irqAfter; split <;> simp
@[simp] theorem raise_domStart (s : State) (page b : Nat) : (s.raise page b).domStart = s.domStart := raiseMask_domStart s page (2 ^ b)
@[simp] theorem irqRise_runSlices (s : State) (page : Nat) : (s.irqRise page).runSlices = s.runSlices := by
  unfold State.irqRise State.irqEvent; repeat' split
  all_goals rfl
@[simp] theorem raiseMask_runSlices (s : State) (page mask : Nat) : (s.raiseMask page mask).runSlices = s.runSlices := by
  unfold State.raiseMask State.irqAfter; split <;> simp
@[simp] theorem raise_runSlices (s : State) (page b : Nat) : (s.raise page b).runSlices = s.runSlices := raiseMask_runSlices s page (2 ^ b)
@[simp] theorem irqRise_runColour (s : State) (page : Nat) : (s.irqRise page).runColour = s.runColour := by
  unfold State.irqRise State.irqEvent; repeat' split
  all_goals rfl
@[simp] theorem raiseMask_runColour (s : State) (page mask : Nat) : (s.raiseMask page mask).runColour = s.runColour := by
  unfold State.raiseMask State.irqAfter; split <;> simp
@[simp] theorem raise_runColour (s : State) (page b : Nat) : (s.raise page b).runColour = s.runColour := raiseMask_runColour s page (2 ^ b)
@[simp] theorem irqRise_flt (s : State) (page : Nat) : (s.irqRise page).flt = s.flt := by
  unfold State.irqRise State.irqEvent; repeat' split
  all_goals rfl
@[simp] theorem raiseMask_flt (s : State) (page mask : Nat) : (s.raiseMask page mask).flt = s.flt := by
  unfold State.raiseMask State.irqAfter; split <;> simp
@[simp] theorem raise_flt (s : State) (page b : Nat) : (s.raise page b).flt = s.flt := raiseMask_flt s page (2 ^ b)
@[simp] theorem irqRise_scrim (s : State) (page : Nat) : (s.irqRise page).scrim = s.scrim := by
  unfold State.irqRise State.irqEvent; repeat' split
  all_goals rfl
@[simp] theorem raiseMask_scrim (s : State) (page mask : Nat) : (s.raiseMask page mask).scrim = s.scrim := by
  unfold State.raiseMask State.irqAfter; split <;> simp
@[simp] theorem raise_scrim (s : State) (page b : Nat) : (s.raise page b).scrim = s.scrim := raiseMask_scrim s page (2 ^ b)
@[simp] theorem irqRise_plumb (s : State) (page : Nat) : (s.irqRise page).plumb = s.plumb := by
  unfold State.irqRise State.irqEvent; repeat' split
  all_goals rfl
@[simp] theorem raiseMask_plumb (s : State) (page mask : Nat) : (s.raiseMask page mask).plumb = s.plumb := by
  unfold State.raiseMask State.irqAfter; split <;> simp
@[simp] theorem raise_plumb (s : State) (page b : Nat) : (s.raise page b).plumb = s.plumb := raiseMask_plumb s page (2 ^ b)
@[simp] theorem irqRise_trk (s : State) (page : Nat) : (s.irqRise page).trk = s.trk := by
  unfold State.irqRise State.irqEvent; repeat' split
  all_goals rfl
@[simp] theorem raiseMask_trk (s : State) (page mask : Nat) : (s.raiseMask page mask).trk = s.trk := by
  unfold State.raiseMask State.irqAfter; split <;> simp
@[simp] theorem raise_trk (s : State) (page b : Nat) : (s.raise page b).trk = s.trk := raiseMask_trk s page (2 ^ b)
@[simp] theorem irqRise_ins (s : State) (page : Nat) : (s.irqRise page).ins = s.ins := by
  unfold State.irqRise State.irqEvent; repeat' split
  all_goals rfl
@[simp] theorem raiseMask_ins (s : State) (page mask : Nat) : (s.raiseMask page mask).ins = s.ins := by
  unfold State.raiseMask State.irqAfter; split <;> simp
@[simp] theorem raise_ins (s : State) (page b : Nat) : (s.raise page b).ins = s.ins := raiseMask_ins s page (2 ^ b)
@[simp] theorem irqRise_rol (s : State) (page : Nat) : (s.irqRise page).rol = s.rol := by
  unfold State.irqRise State.irqEvent; repeat' split
  all_goals rfl
@[simp] theorem raiseMask_rol (s : State) (page mask : Nat) : (s.raiseMask page mask).rol = s.rol := by
  unfold State.raiseMask State.irqAfter; split <;> simp
@[simp] theorem raise_rol (s : State) (page b : Nat) : (s.raise page b).rol = s.rol := raiseMask_rol s page (2 ^ b)
@[simp] theorem irqRise_cap (s : State) (page : Nat) : (s.irqRise page).cap = s.cap := by
  unfold State.irqRise State.irqEvent; repeat' split
  all_goals rfl
@[simp] theorem raiseMask_cap (s : State) (page mask : Nat) : (s.raiseMask page mask).cap = s.cap := by
  unfold State.raiseMask State.irqAfter; split <;> simp
@[simp] theorem raise_cap (s : State) (page b : Nat) : (s.raise page b).cap = s.cap := raiseMask_cap s page (2 ^ b)
@[simp] theorem irqRise_pageDue (s : State) (page : Nat) : (s.irqRise page).pageDue = s.pageDue := by
  unfold State.irqRise State.irqEvent; repeat' split
  all_goals rfl
@[simp] theorem raiseMask_pageDue (s : State) (page mask : Nat) : (s.raiseMask page mask).pageDue = s.pageDue := by
  unfold State.raiseMask State.irqAfter; split <;> simp
@[simp] theorem raise_pageDue (s : State) (page b : Nat) : (s.raise page b).pageDue = s.pageDue := raiseMask_pageDue s page (2 ^ b)
@[simp] theorem irqRise_mc (s : State) (page : Nat) : (s.irqRise page).mc = s.mc := by
  unfold State.irqRise State.irqEvent; repeat' split
  all_goals rfl
@[simp] theorem raiseMask_mc (s : State) (page mask : Nat) : (s.raiseMask page mask).mc = s.mc := by
  unfold State.raiseMask State.irqAfter; split <;> simp
@[simp] theorem raise_mc (s : State) (page b : Nat) : (s.raise page b).mc = s.mc := raiseMask_mc s page (2 ^ b)
@[simp] theorem irqRise_inPlace (s : State) (page : Nat) : (s.irqRise page).inPlace = s.inPlace := by
  unfold State.irqRise State.irqEvent; repeat' split
  all_goals rfl
@[simp] theorem raiseMask_inPlace (s : State) (page mask : Nat) : (s.raiseMask page mask).inPlace = s.inPlace := by
  unfold State.raiseMask State.irqAfter; split <;> simp
@[simp] theorem raise_inPlace (s : State) (page b : Nat) : (s.raise page b).inPlace = s.inPlace := raiseMask_inPlace s page (2 ^ b)
@[simp] theorem irqRise_hod (s : State) (page : Nat) : (s.irqRise page).hod = s.hod := by
  unfold State.irqRise State.irqEvent; repeat' split
  all_goals rfl
@[simp] theorem raiseMask_hod (s : State) (page mask : Nat) : (s.raiseMask page mask).hod = s.hod := by
  unfold State.raiseMask State.irqAfter; split <;> simp
@[simp] theorem raise_hod (s : State) (page b : Nat) : (s.raise page b).hod = s.hod := raiseMask_hod s page (2 ^ b)
@[simp] theorem irqRise_dma (s : State) (page : Nat) : (s.irqRise page).dma = s.dma := by
  unfold State.irqRise State.irqEvent; repeat' split
  all_goals rfl
@[simp] theorem raiseMask_dma (s : State) (page mask : Nat) : (s.raiseMask page mask).dma = s.dma := by
  unfold State.raiseMask State.irqAfter; split <;> simp
@[simp] theorem raise_dma (s : State) (page b : Nat) : (s.raise page b).dma = s.dma := raiseMask_dma s page (2 ^ b)
@[simp] theorem irqRise_dmaBytes (s : State) (page : Nat) : (s.irqRise page).dmaBytes = s.dmaBytes := by
  unfold State.irqRise State.irqEvent; repeat' split
  all_goals rfl
@[simp] theorem raiseMask_dmaBytes (s : State) (page mask : Nat) : (s.raiseMask page mask).dmaBytes = s.dmaBytes := by
  unfold State.raiseMask State.irqAfter; split <;> simp
@[simp] theorem raise_dmaBytes (s : State) (page b : Nat) : (s.raise page b).dmaBytes = s.dmaBytes := raiseMask_dmaBytes s page (2 ^ b)
@[simp] theorem irqRise_tyrex (s : State) (page : Nat) : (s.irqRise page).tyrex = s.tyrex := by
  unfold State.irqRise State.irqEvent; repeat' split
  all_goals rfl
@[simp] theorem raiseMask_tyrex (s : State) (page mask : Nat) : (s.raiseMask page mask).tyrex = s.tyrex := by
  unfold State.raiseMask State.irqAfter; split <;> simp
@[simp] theorem raise_tyrex (s : State) (page b : Nat) : (s.raise page b).tyrex = s.tyrex := raiseMask_tyrex s page (2 ^ b)
@[simp] theorem irqRise_eth (s : State) (page : Nat) : (s.irqRise page).eth = s.eth := by
  unfold State.irqRise State.irqEvent; repeat' split
  all_goals rfl
@[simp] theorem raiseMask_eth (s : State) (page mask : Nat) : (s.raiseMask page mask).eth = s.eth := by
  unfold State.raiseMask State.irqAfter; split <;> simp
@[simp] theorem raise_eth (s : State) (page b : Nat) : (s.raise page b).eth = s.eth := raiseMask_eth s page (2 ^ b)
@[simp] theorem irqRise_poe (s : State) (page : Nat) : (s.irqRise page).poe = s.poe := by
  unfold State.irqRise State.irqEvent; repeat' split
  all_goals rfl
@[simp] theorem raiseMask_poe (s : State) (page mask : Nat) : (s.raiseMask page mask).poe = s.poe := by
  unfold State.raiseMask State.irqAfter; split <;> simp
@[simp] theorem raise_poe (s : State) (page b : Nat) : (s.raise page b).poe = s.poe := raiseMask_poe s page (2 ^ b)
@[simp] theorem irqRise_pd (s : State) (page : Nat) : (s.irqRise page).pd = s.pd := by
  unfold State.irqRise State.irqEvent; repeat' split
  all_goals rfl
@[simp] theorem raiseMask_pd (s : State) (page mask : Nat) : (s.raiseMask page mask).pd = s.pd := by
  unfold State.raiseMask State.irqAfter; split <;> simp
@[simp] theorem raise_pd (s : State) (page b : Nat) : (s.raise page b).pd = s.pd := raiseMask_pd s page (2 ^ b)
@[simp] theorem irqRise_cal (s : State) (page : Nat) : (s.irqRise page).cal = s.cal := by
  unfold State.irqRise State.irqEvent; repeat' split
  all_goals rfl
@[simp] theorem raiseMask_cal (s : State) (page mask : Nat) : (s.raiseMask page mask).cal = s.cal := by
  unfold State.raiseMask State.irqAfter; split <;> simp
@[simp] theorem raise_cal (s : State) (page b : Nat) : (s.raise page b).cal = s.cal := raiseMask_cal s page (2 ^ b)
@[simp] theorem irqRise_hk (s : State) (page : Nat) : (s.irqRise page).hk = s.hk := by
  unfold State.irqRise State.irqEvent; repeat' split
  all_goals rfl
@[simp] theorem raiseMask_hk (s : State) (page mask : Nat) : (s.raiseMask page mask).hk = s.hk := by
  unfold State.raiseMask State.irqAfter; split <;> simp
@[simp] theorem raise_hk (s : State) (page b : Nat) : (s.raise page b).hk = s.hk := raiseMask_hk s page (2 ^ b)
@[simp] theorem irqRise_fil (s : State) (page : Nat) : (s.irqRise page).fil = s.fil := by
  unfold State.irqRise State.irqEvent; repeat' split
  all_goals rfl
@[simp] theorem raiseMask_fil (s : State) (page mask : Nat) : (s.raiseMask page mask).fil = s.fil := by
  unfold State.raiseMask State.irqAfter; split <;> simp
@[simp] theorem raise_fil (s : State) (page b : Nat) : (s.raise page b).fil = s.fil := raiseMask_fil s page (2 ^ b)
@[simp] theorem irqRise_sec (s : State) (page : Nat) : (s.irqRise page).sec = s.sec := by
  unfold State.irqRise State.irqEvent; repeat' split
  all_goals rfl
@[simp] theorem raiseMask_sec (s : State) (page mask : Nat) : (s.raiseMask page mask).sec = s.sec := by
  unfold State.raiseMask State.irqAfter; split <;> simp
@[simp] theorem raise_sec (s : State) (page b : Nat) : (s.raise page b).sec = s.sec := raiseMask_sec s page (2 ^ b)
@[simp] theorem irqRise_pwr (s : State) (page : Nat) : (s.irqRise page).pwr = s.pwr := by
  unfold State.irqRise State.irqEvent; repeat' split
  all_goals rfl
@[simp] theorem raiseMask_pwr (s : State) (page mask : Nat) : (s.raiseMask page mask).pwr = s.pwr := by
  unfold State.raiseMask State.irqAfter; split <;> simp
@[simp] theorem raise_pwr (s : State) (page b : Nat) : (s.raise page b).pwr = s.pwr := raiseMask_pwr s page (2 ^ b)
@[simp] theorem irqRise_staged (s : State) (page : Nat) : (s.irqRise page).staged = s.staged := by
  unfold State.irqRise State.irqEvent; repeat' split
  all_goals rfl
@[simp] theorem raiseMask_staged (s : State) (page mask : Nat) : (s.raiseMask page mask).staged = s.staged := by
  unfold State.raiseMask State.irqAfter; split <;> simp
@[simp] theorem raise_staged (s : State) (page b : Nat) : (s.raise page b).staged = s.staged := raiseMask_staged s page (2 ^ b)
@[simp] theorem irqRise_modePend (s : State) (page : Nat) : (s.irqRise page).modePend = s.modePend := by
  unfold State.irqRise State.irqEvent; repeat' split
  all_goals rfl
@[simp] theorem raiseMask_modePend (s : State) (page mask : Nat) : (s.raiseMask page mask).modePend = s.modePend := by
  unfold State.raiseMask State.irqAfter; split <;> simp
@[simp] theorem raise_modePend (s : State) (page b : Nat) : (s.raise page b).modePend = s.modePend := raiseMask_modePend s page (2 ^ b)
@[simp] theorem irqRise_secPasses (s : State) (page : Nat) : (s.irqRise page).secPasses = s.secPasses := by
  unfold State.irqRise State.irqEvent; repeat' split
  all_goals rfl
@[simp] theorem raiseMask_secPasses (s : State) (page mask : Nat) : (s.raiseMask page mask).secPasses = s.secPasses := by
  unfold State.raiseMask State.irqAfter; split <;> simp
@[simp] theorem raise_secPasses (s : State) (page b : Nat) : (s.raise page b).secPasses = s.secPasses := raiseMask_secPasses s page (2 ^ b)
@[simp] theorem err_pending (s : State) (page code info : Nat) : (s.err page code info).pending = s.pending := by
  unfold State.err; split <;> rfl
@[simp] theorem err_variant (s : State) (page code info : Nat) : (s.err page code info).variant = s.variant := by
  unfold State.err; split <;> rfl
@[simp] theorem err_now (s : State) (page code info : Nat) : (s.err page code info).now = s.now := by
  unfold State.err; split <;> rfl
@[simp] theorem err_draws (s : State) (page code info : Nat) : (s.err page code info).draws = s.draws := by
  unfold State.err; split <;> rfl
@[simp] theorem err_shadow (s : State) (page code info : Nat) : (s.err page code info).shadow = s.shadow := by
  unfold State.err; split <;> rfl
@[simp] theorem err_held (s : State) (page code info : Nat) : (s.err page code info).held = s.held := by
  unfold State.err; split <;> rfl
@[simp] theorem err_snaps (s : State) (page code info : Nat) : (s.err page code info).snaps = s.snaps := by
  unfold State.err; split <;> rfl
@[simp] theorem err_latches (s : State) (page code info : Nat) : (s.err page code info).latches = s.latches := by
  unfold State.err; split <;> rfl
@[simp] theorem err_mem (s : State) (page code info : Nat) : (s.err page code info).mem = s.mem := by
  unfold State.err; split <;> rfl
@[simp] theorem err_irqHold (s : State) (page code info : Nat) : (s.err page code info).irqHold = s.irqHold := by
  unfold State.err; split <;> rfl
@[simp] theorem err_outbox (s : State) (page code info : Nat) : (s.err page code info).outbox = s.outbox := by
  unfold State.err; split <;> rfl
@[simp] theorem err_tx (s : State) (page code info : Nat) : (s.err page code info).tx = s.tx := by
  unfold State.err; split <;> rfl
@[simp] theorem err_ptp (s : State) (page code info : Nat) : (s.err page code info).ptp = s.ptp := by
  unfold State.err; split <;> rfl
@[simp] theorem err_slices (s : State) (page code info : Nat) : (s.err page code info).slices = s.slices := by
  unfold State.err; split <;> rfl
@[simp] theorem err_timing (s : State) (page code info : Nat) : (s.err page code info).timing = s.timing := by
  unfold State.err; split <;> rfl
@[simp] theorem err_capLines (s : State) (page code info : Nat) : (s.err page code info).capLines = s.capLines := by
  unfold State.err; split <;> rfl
@[simp] theorem err_staggerQ (s : State) (page code info : Nat) : (s.err page code info).staggerQ = s.staggerQ := by
  unfold State.err; split <;> rfl
@[simp] theorem err_domWait (s : State) (page code info : Nat) : (s.err page code info).domWait = s.domWait := by
  unfold State.err; split <;> rfl
@[simp] theorem err_domFailed (s : State) (page code info : Nat) : (s.err page code info).domFailed = s.domFailed := by
  unfold State.err; split <;> rfl
@[simp] theorem err_domStart (s : State) (page code info : Nat) : (s.err page code info).domStart = s.domStart := by
  unfold State.err; split <;> rfl
@[simp] theorem err_runSlices (s : State) (page code info : Nat) : (s.err page code info).runSlices = s.runSlices := by
  unfold State.err; split <;> rfl
@[simp] theorem err_runColour (s : State) (page code info : Nat) : (s.err page code info).runColour = s.runColour := by
  unfold State.err; split <;> rfl
@[simp] theorem err_flt (s : State) (page code info : Nat) : (s.err page code info).flt = s.flt := by
  unfold State.err; split <;> rfl
@[simp] theorem err_scrim (s : State) (page code info : Nat) : (s.err page code info).scrim = s.scrim := by
  unfold State.err; split <;> rfl
@[simp] theorem err_plumb (s : State) (page code info : Nat) : (s.err page code info).plumb = s.plumb := by
  unfold State.err; split <;> rfl
@[simp] theorem err_trk (s : State) (page code info : Nat) : (s.err page code info).trk = s.trk := by
  unfold State.err; split <;> rfl
@[simp] theorem err_ins (s : State) (page code info : Nat) : (s.err page code info).ins = s.ins := by
  unfold State.err; split <;> rfl
@[simp] theorem err_rol (s : State) (page code info : Nat) : (s.err page code info).rol = s.rol := by
  unfold State.err; split <;> rfl
@[simp] theorem err_cap (s : State) (page code info : Nat) : (s.err page code info).cap = s.cap := by
  unfold State.err; split <;> rfl
@[simp] theorem err_pageDue (s : State) (page code info : Nat) : (s.err page code info).pageDue = s.pageDue := by
  unfold State.err; split <;> rfl
@[simp] theorem err_mc (s : State) (page code info : Nat) : (s.err page code info).mc = s.mc := by
  unfold State.err; split <;> rfl
@[simp] theorem err_inPlace (s : State) (page code info : Nat) : (s.err page code info).inPlace = s.inPlace := by
  unfold State.err; split <;> rfl
@[simp] theorem err_hod (s : State) (page code info : Nat) : (s.err page code info).hod = s.hod := by
  unfold State.err; split <;> rfl
@[simp] theorem err_dma (s : State) (page code info : Nat) : (s.err page code info).dma = s.dma := by
  unfold State.err; split <;> rfl
@[simp] theorem err_dmaBytes (s : State) (page code info : Nat) : (s.err page code info).dmaBytes = s.dmaBytes := by
  unfold State.err; split <;> rfl
@[simp] theorem err_tyrex (s : State) (page code info : Nat) : (s.err page code info).tyrex = s.tyrex := by
  unfold State.err; split <;> rfl
@[simp] theorem err_eth (s : State) (page code info : Nat) : (s.err page code info).eth = s.eth := by
  unfold State.err; split <;> rfl
@[simp] theorem err_poe (s : State) (page code info : Nat) : (s.err page code info).poe = s.poe := by
  unfold State.err; split <;> rfl
@[simp] theorem err_pd (s : State) (page code info : Nat) : (s.err page code info).pd = s.pd := by
  unfold State.err; split <;> rfl
@[simp] theorem err_cal (s : State) (page code info : Nat) : (s.err page code info).cal = s.cal := by
  unfold State.err; split <;> rfl
@[simp] theorem err_hk (s : State) (page code info : Nat) : (s.err page code info).hk = s.hk := by
  unfold State.err; split <;> rfl
@[simp] theorem err_fil (s : State) (page code info : Nat) : (s.err page code info).fil = s.fil := by
  unfold State.err; split <;> rfl
@[simp] theorem err_sec (s : State) (page code info : Nat) : (s.err page code info).sec = s.sec := by
  unfold State.err; split <;> rfl
@[simp] theorem err_pwr (s : State) (page code info : Nat) : (s.err page code info).pwr = s.pwr := by
  unfold State.err; split <;> rfl
@[simp] theorem err_staged (s : State) (page code info : Nat) : (s.err page code info).staged = s.staged := by
  unfold State.err; split <;> rfl
@[simp] theorem err_modePend (s : State) (page code info : Nat) : (s.err page code info).modePend = s.modePend := by
  unfold State.err; split <;> rfl
@[simp] theorem err_secPasses (s : State) (page code info : Nat) : (s.err page code info).secPasses = s.secPasses := by
  unfold State.err; split <;> rfl

theorem raiseMask_get (s : State) (page mask : Nat) (r : Row) (p i : Nat) (h : Row.code r p i ≠ Row.code R.IRQ_EVT_MERGED 0 0)
    (h1 : Row.code r p i ≠ Row.code R.IRQ_RAW page 0) (h2 : Row.code r p i ≠ Row.code R.EVT_CNT page 0) :
    (s.raiseMask page mask).get r p i = s.get r p i := by
  simp [State.get, raiseMask_find _ _ _ _ h h1 h2]

theorem err_find (s : State) (page code info c : Nat) (h : c ≠ Row.code R.ERR_CODE page 0) (h1 : c ≠ Row.code R.ERR_INFO page 0)
    (h2 : c ≠ Row.code R.BLK_STAT_ERR_OVW page 0) : smFind (s.err page code info).regs c = smFind s.regs c := by
  unfold State.err
  split <;> simp only [State.set, smFind_smPut_ne _ _ _ _ h, smFind_smPut_ne _ _ _ _ h1, smFind_smPut_ne _ _ _ _ h2]

theorem err_get (s : State) (page code info : Nat) (r : Row) (p i : Nat) (h : Row.code r p i ≠ Row.code R.ERR_CODE page 0)
    (h1 : Row.code r p i ≠ Row.code R.ERR_INFO page 0) (h2 : Row.code r p i ≠ Row.code R.BLK_STAT_ERR_OVW page 0) :
    (s.err page code info).get r p i = s.get r p i := by
  simp [State.get, err_find _ _ _ _ _ h h1 h2]

/-- After a refusal the page's ERR_CODE and ERR_INFO read what it recorded. -/
theorem err_code (s : State) (page code info : Nat) : (s.err page code info).get R.ERR_CODE page = code % 2 ^ 32 := by
  unfold State.err
  rw [State.get_set_ne _ _ _ _ _ _ _ _ (by simp only [Row.code, R.ERR_CODE, R.ERR_INFO]; omega), State.get_set_self]
  rfl

theorem err_info (s : State) (page code info : Nat) : (s.err page code info).get R.ERR_INFO page = info % 2 ^ 32 := by
  unfold State.err
  rw [State.get_set_self]; rfl

/-- Raised flags read 1, beside those that did. -/
theorem raiseMask_raw (s : State) (page mask : Nat) :
    (s.raiseMask page mask).get R.IRQ_RAW page = (s.get R.IRQ_RAW page ||| mask) % 2 ^ 32 := by
  have h : Row.code R.IRQ_RAW page 0 ≠ Row.code R.IRQ_EVT_MERGED 0 0 := by
    simp only [Row.code, R.IRQ_RAW, R.IRQ_EVT_MERGED]; omega
  have h2 : Row.code R.IRQ_RAW page 0 ≠ Row.code R.EVT_CNT page 0 := by
    simp only [Row.code, R.IRQ_RAW, R.EVT_CNT, ne_eq]; omega
  rw [State.raiseMask]
  unfold State.get
  rw [irqAfter_find _ _ _ _ h]
  rw [State.incBy, State.set, smFind_smPut_ne _ _ _ _ h2, State.set, smFind_smPut_self]
  rfl

/-- EVT_CNT counts each raised flag (R508). -/
theorem raiseMask_cnt (s : State) (page mask : Nat) :
    (s.raiseMask page mask).get R.EVT_CNT page = min (s.get R.EVT_CNT page + popcount mask 32) (2 ^ 32 - 1) % 2 ^ 32 := by
  have h : Row.code R.EVT_CNT page 0 ≠ Row.code R.IRQ_EVT_MERGED 0 0 := by
    simp only [Row.code, R.EVT_CNT, R.IRQ_EVT_MERGED]; omega
  have h2 : Row.code R.EVT_CNT page 0 ≠ Row.code R.IRQ_RAW page 0 := by
    simp only [Row.code, R.IRQ_RAW, R.EVT_CNT, ne_eq]; omega
  rw [State.raiseMask]
  unfold State.get
  rw [irqAfter_find _ _ _ _ h]
  rw [State.incBy, State.set, smFind_smPut_self, State.get_set_ne _ _ _ _ _ _ _ _ h2]
  rfl

end Sys2Proof.Machine
end

