-- ==== Sys2Proof/Laws/Calm.lean ====
section
/-! SUPPORT. What a gate does with an access that is taken, held or not reached, and that nothing follows a command in a calm state. -/
namespace Sys2Proof.Machine
open Sys2Proof

theorem gateWord_takes (s : State) (ag : Agent) (page off w : Nat) (f : State → State) (h : s.takes ag page off = true) :
    gateWord s ag page off w f = f s := by
  simp only [State.takes, Bool.and_eq_true, Bool.not_eq_true'] at h
  simp [gateWord, h.1.1, h.1.2, h.2]

theorem gate_takes (s : State) (ag : Agent) (page off v : Nat) (f : State → State) (h : s.takes ag page off = true) :
    gate s ag page off v f = f s := gateWord_takes s ag page off _ f h

/-- A register that HOLD does not concern. -/
theorem gateNow_takes (s : State) (ag : Agent) (page off : Nat) (f : State → State) (h : s.takes ag page off = true) :
    gateNow s ag page off f = f s := by
  simp only [State.takes, Bool.and_eq_true, Bool.not_eq_true'] at h
  simp [gateNow, h.1.1, h.1.2]

theorem gateNow_reaches (s : State) (ag : Agent) (page off : Nat) (f : State → State) (h : reaches s ag page off = true)
    (hm : mayWrite ag page off = true) : gateNow s ag page off f = f s := by
  simp [gateNow, h, hm]

/-- An access that finds no register changes nothing. -/
theorem gateWord_unreached (s : State) (ag : Agent) (page off w : Nat) (f : State → State) (h : reaches s ag page off = false) :
    gateWord s ag page off w f = s := by
  simp [gateWord, h]

theorem gate_unreached (s : State) (ag : Agent) (page off v : Nat) (f : State → State) (h : reaches s ag page off = false) :
    gate s ag page off v f = s := gateWord_unreached s ag page off _ f h

theorem gateNow_unreached (s : State) (ag : Agent) (page off : Nat) (f : State → State) (h : reaches s ag page off = false) :
    gateNow s ag page off f = s := by
  simp [gateNow, h]

theorem rephaseDue_noneDue (s : State) (h : s.noneDue = true) : rephaseDue s = s := by
  have key : ∀ l : List Nat, (∀ a ∈ l, (s.axis a).due = false) →
      s.each l (fun t a => if (t.axis a).due && !((t.axis a).flt) && !(axisBusy t a) then rephaseStart t a else t) = s := by
    intro l
    induction l with
    | nil => intro _; rfl
    | cons a l ih =>
      intro hl
      have ha : (s.axis a).due = false := hl a (by simp)
      simp only [State.each, List.foldl_cons, ha, Bool.false_and, Bool.false_eq_true, if_false]
      exact ih (fun b hb => hl b (by simp [hb]))
  unfold rephaseDue
  split
  · apply key
    intro a ha
    simp only [State.noneDue, List.all_eq_true, Bool.not_eq_true'] at h
    exact h a (List.mem_filter.mp ha).1
  · rfl

/-- In a calm state nothing follows a command. -/
theorem after_calm (s : State) (h : s.calm = true) : after s = s := by
  simp only [State.calm, Bool.and_eq_true, Bool.not_eq_true', decide_eq_true_eq, Option.isNone_iff_eq_none, List.isEmpty_iff] at h
  obtain ⟨⟨⟨⟨⟨⟨⟨h1, h2⟩, h3⟩, h4⟩, h5⟩, h6⟩, h7⟩, h8⟩ := h
  have a : capHooks s = s := by simp [capHooks, h1, h2]
  have b : calAxes s = s := by simp [calAxes, h3, h4]
  have c : calGapWatch s = s := by simp [calGapWatch, h5]
  have d : calGapOpen s = s := by simp [calGapOpen, h6]
  have e : bootAdvance s = s := by simp [bootAdvance, h7]
  simp [after, a, b, c, d, rephaseDue_noneDue s h8, e]

/-- A store elsewhere than in the two gap bits keeps a state calm. -/
theorem calm_set (s : State) (r : Row) (v p i : Nat) (h1 : Row.code R.CAL_STAT_GAP 0 0 ≠ Row.code r p i)
    (h2 : Row.code R.CAL_CTRL_GAP_EN 0 0 ≠ Row.code r p i) : (s.set r v p i).calm = s.calm := by
  simp only [State.calm, State.bit, State.get_set_ne _ _ _ _ _ _ _ _ h1, State.get_set_ne _ _ _ _ _ _ _ _ h2]
  rfl

theorem calm_raiseMask (s : State) (page mask : Nat) : (s.raiseMask page mask).calm = s.calm := by
  have g : ∀ r ∈ [R.CAL_STAT_GAP, R.CAL_CTRL_GAP_EN], (s.raiseMask page mask).get r = s.get r := by
    intro r hr
    apply raiseMask_get <;> simp only [List.mem_cons, List.not_mem_nil, or_false] at hr <;> rcases hr with rfl | rfl <;>
      simp only [Row.code, R.CAL_STAT_GAP, R.CAL_CTRL_GAP_EN, R.IRQ_EVT_MERGED, R.IRQ_RAW, R.EVT_CNT, ne_eq] <;> omega
  simp [State.calm, State.noneDue, State.axis, State.bit, g]

theorem calm_raise (s : State) (page b : Nat) : (s.raise page b).calm = s.calm := calm_raiseMask s page (2 ^ b)

theorem calm_err (s : State) (page code info : Nat) : (s.err page code info).calm = s.calm := by
  have g : ∀ r ∈ [R.CAL_STAT_GAP, R.CAL_CTRL_GAP_EN], (s.err page code info).get r = s.get r := by
    intro r hr
    apply err_get <;> simp only [List.mem_cons, List.not_mem_nil, or_false] at hr <;> rcases hr with rfl | rfl <;>
      simp only [Row.code, R.CAL_STAT_GAP, R.CAL_CTRL_GAP_EN, R.ERR_CODE, R.ERR_INFO, R.BLK_STAT_ERR_OVW, ne_eq] <;> omega
  simp [State.calm, State.noneDue, State.axis, State.bit, g]

@[simp] theorem calm_emit (s : State) (c n k : Nat) (b : List (BitVec 8)) (x : Option Nat) : (s.emit c n k b x).calm = s.calm := rfl
@[simp] theorem calm_send (s : State) (x : Tx) : (s.send x).calm = s.calm := rfl
@[simp] theorem calm_modSlice (s : State) (k : Nat) (f : Slice → Slice) : (s.modSlice k f).calm = s.calm := rfl

end Sys2Proof.Machine
end

