-- ==== Sys2Proof/Laws/Keccak.lean ====
section
/-! SUPPORT. The sizes that the Keccak core gives: its state keeps 25 lanes, and a digest or a tag has as many bytes as were asked for. -/
namespace Sys2Proof.Machine

@[simp] theorem leBytes_length (n v : Nat) : (leBytes n v).length = n := by
  induction n generalizing v with
  | zero => rfl
  | succ n ih => simp [leBytes, ih]

@[simp] theorem lanes_length (f : Nat → Nat → BitVec 64) : (lanes f).length = 25 := by simp [lanes]

/-- A round leaves 25 lanes, whatever it began with, and so does the permutation. -/
theorem keccakF_length (a : List (BitVec 64)) : (keccakF a).length = 25 := by
  have round (t : List (BitVec 64)) (rc : BitVec 64) :
      (match keccakChi (keccakRhoPi (keccakTheta t)) with | [] => [] | l :: r => (l ^^^ rc) :: r).length = 25 := by
    have h : (keccakChi (keccakRhoPi (keccakTheta t))).length = 25 := lanes_length _
    split <;> simp_all
  have fold (l : List (BitVec 64)) (b : List (BitVec 64)) (hb : b.length = 25) :
      (l.foldl (fun t rc => match keccakChi (keccakRhoPi (keccakTheta t)) with | [] => [] | x :: r => (x ^^^ rc) :: r) b).length = 25 := by
    induction l generalizing b with
    | nil => exact hb
    | cons rc l ih => exact ih _ (round b rc)
  have h : keccakRC ≠ [] := by simp [keccakRC]
  unfold keccakF
  match keccakRC, h with
  | rc :: l, _ => exact fold l _ (round a rc)

theorem keccakOut_length (a : List (BitVec 64)) (h : 17 ≤ a.length) : (keccakOut a).length = 136 := by
  have flat (l : List (BitVec 64)) : (l.flatMap (fun (x : BitVec 64) => leBytes 8 x.toNat)).length = 8 * l.length := by
    induction l with
    | nil => rfl
    | cons x l ih => simp [ih]; omega
  simp only [keccakOut, flat, List.length_take]
  omega

theorem keccakSqueeze_length (n : Nat) (a : List (BitVec 64)) (h : 17 ≤ a.length) : (keccakSqueeze n a).length = 136 * n := by
  induction n generalizing a with
  | zero => rfl
  | succ n ih =>
    have hk : 17 ≤ (keccakF a).length := by rw [keccakF_length]; omega
    rw [keccakSqueeze, List.length_append, keccakOut_length a h, ih _ hk]
    omega

theorem keccak_length (suffix : BitVec 8) (n : Nat) (m : List (BitVec 8)) : (keccak suffix n m).length = n := by
  have kept (p : List (BitVec 8)) (l : List Nat) (b : List (BitVec 64)) (hb : b.length = 25) :
      (l.foldl (fun t i => keccakBlock t ((p.drop (136 * i)).take 136)) b).length = 25 := by
    induction l generalizing b with
    | nil => exact hb
    | cons i l ih => exact ih _ (keccakF_length _)
  simp only [keccak, List.length_take]
  rw [keccakSqueeze_length _ _ (by rw [kept _ _ _ (by simp)]; omega)]
  omega

/-- A digest has the length asked for. -/
@[simp] theorem shake256_length (n : Nat) (m : List (BitVec 8)) : (shake256 n m).length = n := keccak_length _ n m

/-- A tag has the length asked for. -/
@[simp] theorem kmac256_length (key : List (BitVec 8)) (custom : String) (n : Nat) (m : List (BitVec 8)) :
    (kmac256 key custom n m).length = n := keccak_length _ n _

end Sys2Proof.Machine
end

