-- ==== Sys2Proof/Tests/Slice0.lean ====
section
/-! SUPPORT. Tests. Each list of Booleans shows, for one statement of Certificates/Slice0/Obligations.lean (named before it), states and operands
that meet the hypotheses of each of its clauses, with values at the ends of their ranges, and what the command then does; `illFormed` and `words` hold the
terms that `Instr.wf` refuses and the words that spell no command. Expected values come from the rules that the statements cite. A clause whose
hypothesis the value of a free constant of Config decides has no witness that Lean could evaluate (a signature that verifies: log 6). -/
namespace Sys2Proof.Tests
open Sys2Proof Sys2Proof.Machine

-- one theorem at a time: many at once would each take a thread's stack
set_option Elab.async false

/-- The outcome is a next state of which `p` holds. -/
def yes (o : Host.Outcome State Fault Refusal) (p : State → Bool) : Bool :=
  match o with
  | .next t => p t
  | .fault _ => false
  | .refused _ => false

/-- The outcome is the next state `t`. -/
def isTo (o : Host.Outcome State Fault Refusal) (t : State) : Bool := yes o (fun u => decide (u = t))

def refusedAs (o : Host.Outcome State Fault Refusal) (m : String) : Bool :=
  match o with
  | .next _ => false
  | .fault _ => false
  | .refused r => decide (r = .illFormed m)

/-- Start-up done, with an image that runs, and else as after reset. -/
def up : State := { State.reset with pwr := { State.reset.pwr with boot := .done }, sec := { State.reset.sec with entry := some (0, 0) } }

def at_ (page off : Nat) : RegAddr := BitVec.ofNat 24 (page * 0x1000 + off)

def inMode (s : State) (n : Nat) : State := s.set R.SYS_MODE_CUR n

def setAll (s : State) : List (Row × Nat × Nat × Nat) → State
  | [] => s
  | (r, v, p, i) :: l => setAll (s.set r v p i) l

/-- Power, Hod classes and a pattern book with a line period, as a job needs them. -/
def fed : State :=
  setAll up [(R.POE_BUDGET_MW, 71000, 0, 0), (R.HOD_Cn_PAGES, 256, 0, 0), (R.HOD_Cn_PAGES, 256, 0, 1), (R.HOD_Cn_PAGES, 256, 0, 2),
    (R.HOD_Cn_PAGES, 1048576, 0, 3), (R.TIMING_PB_BANK0, 1024, 0, 0), (R.TIMING_PB_BANK0, 65536, 0, 1), (R.MOT_FEED_SCALE, 50800000, 0, 0)]

/-- A ladder of one rung: period 1,024, one line averaged, table 0, entry 0. -/
def ladder : List (BitVec 8) := [1, 0] ++ List.replicate 14 0 ++ [0, 4, 1, 0, 0, 0] ++ List.replicate 122 0

/-- Ramp table 0 of one entry of 150, and a ladder on it. -/
def geared : State :=
  { fed with rol := { fed.rol with ramps := [(0, { ver := 0, ents := [(150, 0, true)] })] }, cap := { fed.cap with ladder := some ladder } }

/-- A host move of FEED over one segment, at rest at its start. -/
def hostMove : Move :=
  { what := .host, neg := false, velocity := true, budget := none, commit := 0, committed := false, stopping := false,
    segs := [{ tbl := 0, play := 0, ent := 0, keep := false, term := 0, inp := 0, edge := false, latch := false, opd := 10, fixed := none, upTo := none }], idx := 0, play := none,
    at_ := none, steps := 0, segSteps := 0, enc0 := [], p0 := 0, hit := false, sel := none, tabs := geared.rol.ramps, used := [0], clip := false,
    followers := [], dirs := [], den := 0, nums := [], rev := false }

/-- FEED makes that move. -/
def moving (s : State) : State := { s with rol := { s.rol with axes := [(0, { (s.axis 0) with move := some hostMove })] } }

/-- The words of a pattern book: period 1,024, CLAMP, TONE, SAMPLE, and MARK with TRK. -/
def book (r : Row) : List (Row × Nat × Nat × Nat) :=
  [(r, 1024, 0, 0), (r, 65536, 0, 1), (r, 16 * 65536, 0, 2), (r, 4, 0, 3), (r, 48 * 65536 + 16, 0, 4), (r, 8, 0, 5),
    (r, 256 * 65536 + 128, 0, 6), (r, 16, 0, 7), (r, 10 * 65536 + 400, 0, 8), (r, 0x60, 0, 9)]

/-- A segment of one row and one tap: 64 pixels after 16 dummies, on input 0; supply 24 V within 23 to 25 V. -/
def entry : Entry :=
  leBytes 4 3 ++ leBytes 2 64 ++ leBytes 2 16 ++ List.replicate 92 0 ++ leBytes 2 24000 ++ leBytes 2 23000 ++ leBytes 2 25000 ++
    List.replicate 150 0

/-- The state with slice `k` changed by `f`, its entry in force. -/
def withSlice (s : State) (k : Nat) (f : Slice → Slice) : State := { s with slices := [(k, f { s.slice k with entry := some entry })] }

def pixLocked : State := setAll up [(R.CLK_PIX_KHZ, 25000, 0, 0), (R.CLK_LOCKED, 2047, 0, 0)]

/-- INSPECT with slice 0 contributing. -/
def inspecting : State := withSlice (inMode pixLocked 1) 0 (fun x => { x with bring := .ready, contributing := true })

/-- A new pixel frequency is in force and not yet locked to. -/
def relock : State := up.set R.TIMING_PCLK_KHZ 24000

/-- Ramp table 0 loaded; FEED's list holds one segment, and its moves are velocity moves. -/
def ready : State := setAll geared [(R.MOT_AXa_MOVE_VELOCITY, 1, 0, 0), (R.MOT_AXa_SEGs_LO, 3 * 64, 0, 1)]

/-- CAPTURE in a state of the pacing. -/
def capturing (st : Nat) : State := (inMode geared 2).set R.CAP_STATE st

/-- The link is up and session 5 is open in epoch 0 with host 9. -/
def linked : State :=
  let s := setAll fed [(R.LINK_STAT_UP, 1, 0, 0), (R.TYREX_SESS_STATE, 1, 0, 0), (R.TYREX_SESS_ID, 5, 0, 0), (R.TYREX_EPOCH, 3, 0, 0), (R.HOD_STAT_FALLBACK, 0, 0, 0)]
  { s with tyrex := { s.tyrex with host := 9 } }

def hdr (session seq : Nat) : Hdr :=
  { version := 1, session := BitVec.ofNat 32 session, seq := BitVec.ofNat 32 seq, epoch := 3, unordered := false, tag := none, lengthOk := true,
    total := 64, src := 9, port := 47100 }

/-- A packet held in a class. -/
def pkt (n : Nat) (sent : Bool) : Pkt :=
  { seq := n, typ := 0x102, gap := false, bank := none, fb := false, payload := [1, 2, 3, 4], sent := sent, acked := false, sentEpoch := sent,
    readFails := 0, fragPos := 0, again := false, pos := none }

/-- StepRunsFrontCommand, IdleStepLetsTimePass. -/

def stepWitness : List Bool :=
  [ up.pending == [], yes (step up) (fun t => t.now == 1 && t.pending == []),
    isTo (step { up with pending := [.wearSave, .linkDown] }) { up with pending := [.linkDown], fil := { up.fil with saved := up.fil.wear } } ]

theorem test_stepWitness : stepWitness.all id = true := by decide +kernel

/-- RegisterWriteByAccessCode. -/

def registerWrites : List Bool :=
  [ !(reaches up .cpu0 0xFFF 0xFFC) && isTo (exec (.registerWrite .cpu0 (at_ 0xFFF 0xFFC) 5) up) up,
    up.takes .cpu0 pgIRQ 0x040 && decide (fieldsAt pgIRQ 0x040 = [(R.IRQ_SUMw, 0, 0)]) &&
      isTo (exec (.registerWrite .cpu0 (at_ pgIRQ 0x040) 5) up) up,
    up.takes .host pgPWR 0x074 && decide (fieldsAt pgPWR 0x074 = [(R.PWR_SEG_STAGGER_MS, 0, 0)]) &&
      isTo (exec (.registerWrite .host (at_ pgPWR 0x074) 255) up) (up.shadowWrite R.PWR_SEG_STAGGER_MS 0 0 255),
    up.takes .host 0x145 0x010 && decide (fieldsAt 0x145 0x010 = [(R.IRQ_RAW, 0x145, 0)]) &&
      isTo (exec (.registerWrite .host (at_ 0x145 0x010) 5) (up.set R.IRQ_RAW 7 0x145)) (up.set R.IRQ_RAW 2 0x145),
    up.takes .cpu0 pgIRQ 0x05C && decide (fieldsAt pgIRQ 0x05C = [(R.IRQ_PIN_ENw, 0, 3)]) &&
      isTo (exec (.registerWrite .cpu0 (at_ pgIRQ 0x05C) 0xFFFFFFFF) up) (up.set R.IRQ_PIN_ENw 0xFFFFFFFF 0 3) ]

theorem test_registerWrites : registerWrites.all id = true := by decide +kernel

/-- HoldKeepsWritesUntilCommit. -/

def holdWitness : List Bool :=
  let q : HeldWrite := { off := 0x050, value := 9, agent := .spi }
  let hold := up.setB R.SHADOW_CTRL_HOLD true pgIRQ
  let full := { hold with held := smPut hold.held pgIRQ (List.replicate 64 q) }
  let one := { hold with held := smPut hold.held pgIRQ [q] }
  [ pagePresent up 0x145 && isTo (exec (.shadowCtrlHold 0x145 true) up) (up.setB R.SHADOW_CTRL_HOLD true 0x145),
    reaches hold .spi pgIRQ 0x050 && isTo (exec (.registerWrite .spi (at_ pgIRQ 0x050) 9) hold) one,
    reaches full .spi pgIRQ 0x050 &&
      isTo (exec (.registerWrite .spi (at_ pgIRQ 0x050) 9) full) ((full.set R.SHADOW_STAT_OVERFLOW 1 pgIRQ).err pgIRQ 3 0x050),
    decide (one.heldOf pgIRQ = [q]) && accepts { one with held := smDel one.held pgIRQ } R.IRQ_PIN_ENw 0 0 9 9 &&
      isTo (exec (.shadowCtrlCommit pgIRQ) one) ({ one with held := smDel one.held pgIRQ }.set R.IRQ_PIN_ENw 9 0 0),
    pagePresent full pgIRQ && yes (exec (.shadowCtrlDiscard pgIRQ) full) (fun t => decide (t.heldOf pgIRQ = [] ∧ t.regs = full.regs)) ]

theorem test_holdWitness : holdWitness.all id = true := by decide +kernel

/-- HeaderCommands. -/

def headerWitness : List Bool :=
  let hold := { up.set R.IRQ_EN 4 pgTRK with irqHold := smPut up.irqHold pgTRK { rose := true } }
  [ up.takes .cpu0 pgTRK 0x008 && isTo (exec (.blkCntClear .cpu0 pgTRK) (up.set R.EVT_CNT 3 pgTRK)) (up.set R.EVT_CNT 0 pgTRK),
    isTo (exec (.blkErrClear .cpu0 pgTRK) (up.err pgTRK 3)) (((up.set R.ERR_CODE 0 pgTRK).set R.ERR_INFO 0 pgTRK).set R.BLK_STAT_ERR_OVW 0 pgTRK),
    up.takes .cpu0 pgTRK 0x01C && isTo (exec (.irqSet .cpu0 pgTRK 0xFFFFFFFF) up) (up.err pgTRK 2 0xFFFFFFFF),
    (inMode up 4).takes .cpu0 pgTRK 0x01C && yes (exec (.irqSet .cpu0 pgTRK 0xFFFFFFFF) (inMode up 4))
      (fun t => decide (t.get R.IRQ_RAW pgTRK = irqMask pgTRK ∧ t.get R.EVT_CNT pgTRK = 5)),
    isTo (exec (.irqRawClear pgTRK 5 0) (up.set R.IRQ_RAW 7 pgTRK)) (up.set R.IRQ_RAW 2 pgTRK),
    yes (exec (.irqRawClear pgTRK 0x10 0x10) up) (fun t => bitOf (t.get R.IRQ_RAW pgTRK) 4 && decide (t.get R.EVT_CNT pgTRK = 1)),
    decide ((hold.set R.IRQ_RAW 4 pgTRK).irqStat pgTRK ≠ 0) &&
      yes (exec (.irqEvtHoldoffEnd pgTRK) (hold.set R.IRQ_RAW 4 pgTRK)) (fun t => decide (t.outbox.length = 1)),
    isTo (exec (.irqEvtHoldoffEnd pgTRK) { up with irqHold := smPut up.irqHold pgTRK { rose := false } }) up ]

theorem test_headerWitness : headerWitness.all id = true := by decide +kernel

/-- LockResults. -/

def lockWitness : List Bool :=
  let by_ (o n : Nat) := up.set R.LOCK_STAT_n_OWNER o 0 n
  [ reaches up .host pgLOCK (0x40 + 4 * 24) && isTo (exec (.lockAcquire .host 24) up) (up.send (.word .host 0)),
    reaches up .cpu0 pgLOCK (0x40 + 4 * 31) && isTo (exec (.lockAcquire .cpu0 31) up)
      ((((up.set R.LOCK_STAT_n_OWNER 2 0 31).set R.LOCK_STAT_n_BROKEN 0 0 31).set R.LOCK_STAT_n_GEN 1 0 31).send (.word .cpu0 (1 + 16 * 2 + 65536))),
    yes (exec (.lockAcquire .host 0) (up.set R.LOCK_STAT_n_BROKEN 1 0 0)) (fun t => decide (t.tx = [.word .host (3 + 16 + 65536)])),
    isTo (exec (.lockAcquire .host 23) (by_ 1 23)) ((by_ 1 23).send (.word .host (2 + 16))),
    isTo (exec (.lockAcquire .host 23) (by_ 3 23)) ((by_ 3 23).send (.word .host (16 * 3))),
    isTo (exec (.lockRelease .cpu1 23 2) (by_ 3 23)) (by_ 3 23),
    isTo (exec (.lockRelease .cpu1 23 1) (by_ 3 23)) (((by_ 3 23).set R.LOCK_STAT_n_OWNER 0 0 23).set R.LOCK_STAT_n_BROKEN 0 0 23),
    isTo (exec (.lockRelease .host 23 1) (by_ 3 23)) ((by_ 3 23).err pgLOCK 0xE01) ]

theorem test_lockWitness : lockWitness.all id = true := by decide +kernel

/-- ReadsLatchTheirHighWord. -/

def portReads : List Bool :=
  let lat := { up with latches := smPut up.latches (latchKey .spi (pgPTP * 0x1000 + 0x05C)) 77 }
  [ reaches up .cpu0 pgPTP 0x058 && isLo pgPTP 0x058 && yes (exec (.loRegisterRead .cpu0 (at_ pgPTP 0x058)) up) (fun t => decide (t.tx.length = 1 ∧ t.latches.length = 1)),
    reaches lat .spi pgPTP 0x05C && isHi pgPTP 0x05C && isTo (exec (.loRegisterRead .spi (at_ pgPTP 0x05C)) lat) (up.send (.word .spi 77)),
    isTo (exec (.mgmtSpiFrame { cmd := 0x04, addr := at_ pgSYS 0x040, words := [], readWords := 1 }) up) (up.inc R.SYS_MGMT_BAD_CNT),
    isTo (exec (.mgmtSpiFrame { cmd := 0x03, addr := at_ pgSYS 0x040, words := [], readWords := 0 }) up) (up.send (.miso [])),
    reaches up .spi pgSYS 0x040 && !(isLo pgSYS 0x040) && !(isHi pgSYS 0x040) &&
      isTo (exec (.mgmtSpiFrame { cmd := 0x03, addr := at_ pgSYS 0x040, words := [], readWords := 1 }) up) (up.send (.miso [wordShown up pgSYS 0x040])),
    isTo (exec (.jtagScan .idcode) up) (up.send (.tdo 0x17260B47)) ]

theorem test_portReads : portReads.all id = true := by decide +kernel

/-- RequestsThatWait. -/

def waitingRequests : List Bool :=
  let ins := inMode up 1
  [ reaches up .host pgSYS 0x044 && isTo (exec (.modeReqInvalid .host 2) up) (up.err pgSYS 0x23),
    reaches ins .host pgSYS 0x044 && ins.calm && decide (ins.mode = .inspect) && decide (ins.modePend = none) &&
      isTo (exec (.modeReqIdle .host) ins) ((((ins.set R.SYS_MODE_REQ 0).setB R.SYS_MODE_FEED_OWNER false).set R.SYS_MODE_PENDING 1).setPend (some .idle)),
    yes (exec (.modeReqService .host) ins) (fun t => decide (t.modePend = some .service)),
    ins.takes .cpu1 pgSYS 0x074 && isTo (exec (.sysSectionCmd .cpu1) ins) { ins with pageDue := true },
    isTo (exec .idleRequestStillTimeout { up with modePend := some .idle }) { up with modePend := some .idleLine } ]

theorem test_waitingRequests : waitingRequests.all id = true := by decide +kernel

/-- RequestsEnterTheirMode. -/

def modeRequests : List Bool :=
  let cal := fed.set R.CAL_REQ 4
  let small := { fed with variant := .sq7212 }
  [ reaches fed .host pgSYS 0x044 && fed.calm && decide (fed.mode = .idle) && decide (modeRefusal (modeWritten fed 1 true) .inspect true = none) &&
      yes (exec (.modeReqInspect .host true) fed) (fun t => decide (t.mode = .inspect) && t.bit R.SYS_MODE_CUR_FO),
    reaches geared .host pgSYS 0x044 && geared.calm && decide (modeRefusal (modeWritten geared 2 false) .capture false = none) &&
      yes (exec (.modeReqCapture .host) geared) (fun t => decide (t.mode = .capture)),
    reaches cal .cpu0 pgSYS 0x044 && cal.calm && decide (modeRefusal (modeWritten cal 3 false) .calibrate false = none) &&
      yes (exec (.modeReqCalibrate .cpu0) cal) (fun t => decide (t.mode = .calibrate)),
    reaches up .host pgSYS 0x044 && up.calm && yes (exec (.modeReqService .host) up) (fun t => decide (t.mode = .service)),
    (inMode up 2).calm && reaches (inMode up 2) .host pgSYS 0x044 &&
      isTo (exec (.modeReqInspect .host false) (inMode up 2)) ((modeWritten (inMode up 2) 1 false).err pgSYS 0x22),
    isTo (exec (.modeReqInspect .host false) small) ((modeWritten small 1 false).err pgSYS 0x21) ]

theorem test_modeRequests : modeRequests.all id = true := by decide +kernel

/-- ServiceEntryCompletes. -/

def serviceEntry : List Bool :=
  let job := { inMode up 1 with modePend := some .stopping }
  let off := { up with modePend := some .stopping }
  let move := moving job
  [ job.calm && allAtRest job && job.inJob && yes (exec .serviceEntryComplete job)
      (fun t => decide (t.mode = .service) && t.bit R.SYS_MODE_ABORTED && decide (1 ≤ t.outbox.length)),
    off.calm && allAtRest off && yes (exec .serviceEntryComplete off) (fun t => decide (t.mode = .service) && !(t.bit R.SYS_MODE_ABORTED)),
    yes (exec .serviceEntryComplete { inMode up 3 with modePend := some .stopping }) (fun t => decide (t.mode = .service) && t.bit R.SYS_MODE_ABORTED),
    move.calm && !(allAtRest move) && isTo (exec .serviceEntryComplete move) move ]

theorem test_serviceEntry : serviceEntry.all id = true := by decide +kernel

/-- ResetsAndFreezes. -/

def resetsFreezes : List Bool :=
  let x := up.set R.BLK_STAT_RESETTING 1 pgMOT
  let r := x.set R.CLK_LOCKED 8
  let f := up.setB R.BLK_CTRL_FREEZE true pgTRK
  [ up.takes .host pgCAP 0x008 && up.calm && yes (exec (.blkSoftReset .host pgCAP) up) (fun t => decide (t.get R.BLK_STAT_RESETTING pgCAP = 1)),
    (inMode up 1).takes .host pgTRK 0x008 && (inMode up 1).calm &&
      isTo (exec (.blkSoftReset .host pgTRK) (inMode up 1)) ((inMode up 1).err pgTRK 1 1),
    r.calm && pagePresent r pgMOT && (resetClocks pgMOT).all (clockRuns r) && isTo (exec (.softResetDone pgMOT) r) (r.set R.BLK_STAT_RESETTING 0 pgMOT),
    x.calm && !((resetClocks pgMOT).all (clockRuns x)) && isTo (exec (.softResetDone pgMOT) x) x,
    up.takes .host pgTRK 0x008 && yes (exec (.blkFreeze .host pgTRK true) up) (fun t => (smFind t.snaps pgTRK).isSome),
    f.takes .host pgTRK 0x008 && yes (exec (.blkFreeze .host pgTRK false) f) (fun t => (smFind t.snaps pgTRK).isNone) ]

theorem test_resetsFreezes : resetsFreezes.all id = true := by decide +kernel

/-- TableCommands. -/

def tableCommands : List Bool :=
  let h : List (BitVec 8) := [0, 0, 0, 0, 4] ++ List.replicate 3 0 ++ [64] ++ List.replicate 55 0
  let mem := memPutBytes up.mem 0x100 h
  let s := { up.set R.SYS_TBL_ADDR_LO 0x100 with mem := mem }
  let g : List (BitVec 8) := [0x54, 0x42, 0x4C, 0x49, 4, 1, 0, 0, 1, 0, 0, 0, 0x70, 0, 5, 0]
  let good : TableImage := { hdr := g ++ leBytes 4 (crc32c (g ++ [7])) ++ List.replicate 44 0, dest := 0x140, total := 65, got := 65, local_ := false }
  let full := { up with mem := memPutBytes up.mem 0x140 [7], tyrex := { up.tyrex with image := some good } }
  let busy := { s with tyrex := { s.tyrex with image := some { hdr := h, dest := 0x140, total := 128, got := 128, local_ := true } } }
  [ s.takes .host pgSYS 0x068 && decide (s.tyrex.image = none) && decide (leNat ((memBytes s.mem 0x100 64).drop 4 |>.take 1) = 4) &&
      decide (tableRegion s 4 0x140 64 = none) && yes (exec (.sysTblCmd .host) s) (fun t => t.tyrex.image.isSome && decide (t.get R.TYREX_TABLE_STAT = 2)),
    busy.takes .host pgSYS 0x068 && isTo (exec (.sysTblCmd .host) busy) (busy.err pgSYS 0x2D),
    up.calm && isTo (exec .tableCheckDone up) up,
    busy.calm && (imageCheck { busy with tyrex := { busy.tyrex with image := none } } { hdr := h, dest := 0x140, total := 128, got := 128, local_ := true }).isSome &&
      yes (exec .tableCheckDone busy) (fun t => decide (t.get R.TYREX_TABLE_STAT = 4) && t.tyrex.image.isNone),
    full.calm && decide (imageCheck { full with tyrex := { full.tyrex with image := none } } good = none) &&
      yes (exec .tableCheckDone full) (fun t => decide (t.get R.TYREX_TABLE_STAT = 3) && t.tyrex.image.isNone) ]

theorem test_tableCommands : tableCommands.all id = true := by decide +kernel

/-- PatternBookCommands. -/

def patternBook : List Bool :=
  let live := up.setB R.TIMING_PB_LIVE_EDIT true
  let bank := setAll up (book R.TIMING_PB_BANK1)
  let svc := inMode live 4
  let run := setAll pixLocked (book R.TIMING_PB_BANK0)
  [ entry.length == 256 && reaches live .host pgTIMING R.TIMING_PB_COMMIT.off && isTo (exec (.timingPbCommit .host) live) live,
    isTo (exec (.timingPbCommit .host) (up.set R.TIMING_PB_STAT_PENDING 1)) (up.set R.TIMING_PB_STAT_PENDING 1),
    reaches up .host pgTIMING R.TIMING_PB_COMMIT.off && decide (pbCheck (bankSlots up (1 - liveBank up)) (sampleNeed up) = some 0x201) &&
      isTo (exec (.timingPbCommit .host) up) ((up.set R.TIMING_PB_REFUSED 1).err pgTIMING 0x201),
    reaches bank .host pgTIMING R.TIMING_PB_COMMIT.off && decide (pbCheck (bankSlots bank (1 - liveBank bank)) (sampleNeed bank) = none) &&
      isTo (exec (.timingPbCommit .host) bank) ((bank.set R.TIMING_PB_STAT_PENDING 1).set R.TIMING_PB_STAT_DIRTY 0),
    svc.takes .host pgTIMING (0x400 + 8 * 63) && decide (svc.mode = .service) && isTo (exec (.pbLiveEditWrite .host 63 false 5 65535) svc)
      { svc.set R.TIMING_PB_STAT_DIRTY 1 with timing := { svc.timing with pbHeld := smPut svc.timing.pbHeld 63 5 } },
    svc.takes .host pgTIMING (0x400 + 8 * 63 + 4) && yes (exec (.pbLiveEditWrite .host 63 true 6 0) svc) (fun t => decide (bankWord t 0 127 = 6)),
    decide ((liveSlots run)[0]? = some { start := 1024, len := 0, mask := 0, flags := 1 }) && isTo (exec (.patternSlotStart 0) run) run,
    decide ((liveSlots run)[4]? = some { start := 400, len := 10, mask := 0x60, flags := 0 }) && !(relocking run) &&
      yes (exec (.patternSlotStart 4) run) (fun t => t.timing.mark.isSome && t.timing.trk.isSome),
    relocking relock && isTo (exec (.patternSlotStart 63) relock) relock ]

theorem test_patternBook : patternBook.all id = true := by decide +kernel

/-- SyncRequestsWait. -/

def syncRequests : List Bool :=
  [ reaches up .host pgTIMING R.TIMING_SEG_SYNC.off && isTo (exec (.timingSegSync .host 0xFFFFFF false) up) (up.set R.TIMING_SEG_SYNC 0xFFFFFF),
    isTo (exec (.timingSegSync .host 1 true) up) { up with timing := { up.timing with segLate := 1 } },
    reaches up .cpu1 pgTIMING R.TIMING_SHD_SYNC.off && isTo (exec (.timingShdSync .cpu1 0x800000 false) up) (up.set R.TIMING_SHD_SYNC 0x800000),
    isTo (exec (.timingShdSync .cpu1 1 true) up) { up with timing := { up.timing with shdLate := 1 } } ]

theorem test_syncRequests : syncRequests.all id = true := by decide +kernel

/-- LineBoundaryCounts. -/

def lineBoundaries : List Bool :=
  let pend := (setAll pixLocked (book R.TIMING_PB_BANK1)).set R.TIMING_PB_STAT_PENDING 1
  let last := pixLocked.set R.TIMING_LINE_CNT 0xFFFFFFFF
  [ relocking relock && isTo (exec .lineBoundary relock) relock,
    !(relocking last) && last.calm && decide (last.modePend = none ∧ last.shadow = []) &&
      yes (exec .lineBoundary last) (fun t => decide (t.get R.TIMING_LINE_CNT = 0 ∧ t.get R.TIMING_LINE_PERIOD = 65536)),
    !(relocking pend) && pend.calm && yes (exec .lineBoundary pend)
      (fun t => decide (t.get R.TIMING_LINE_CNT = 1 ∧ liveBank t = 1 ∧ t.get R.TIMING_PB_STAT_PENDING = 0 ∧ t.get R.TIMING_LINE_PERIOD = 1024)) ]

theorem test_lineBoundaries : lineBoundaries.all id = true := by decide +kernel

/-- JudgingReleasesALine. -/

def judging : List Bool :=
  let empty := inMode pixLocked 1
  [ tapsOk [] && lanesOk [{ slice := 23, row := 4, block := 47, check := true }] && relocking relock && isTo (exec (.lineJudged false [] {}) relock) relock,
    !(relocking empty) && empty.calm && decide (empty.mode = .inspect) && yes (exec (.lineJudged true [] {}) empty)
      (fun t => decide (t.capLines.map (fun (x : CapLine) => (x.line, x.pos)) = [(0xFFFFFFFF, none)])) ]

theorem test_judging : judging.all id = true := by decide +kernel

/-- InputStatesResolve. -/

def inputStates : List Bool :=
  let ch (st z n : Nat) := ((withSlice up 0 (fun x => { x with chans := [(0, { Chan.init with groups := n, passes := List.replicate n true })] })).set
    R.AFE_CHc_STATE st 0 0).set R.AFE_CHc_ZEST z 0 0
  [ decide (((ch 1 0 63).slice 0).entry = some entry ∧ segInput? entry 0 = some (0, 0)) && (ch 1 0 63).calm &&
      isTo (exec (.suspectResolve 0 0) (ch 1 0 63)) (ch 1 0 63) && isTo (exec (.openShortReexam 0 0) (ch 2 0 63)) (ch 2 0 63),
    (ch 1 65535 64).calm && yes (exec (.suspectResolve 0 0) (ch 1 65535 64)) (fun t => decide (t.get R.AFE_CHc_STATE 0 0 = chOPEN)),
    yes (exec (.suspectResolve 0 0) (ch 1 0 64)) (fun t => decide (t.get R.AFE_CHc_STATE 0 0 = chSHORT)),
    yes (exec (.suspectResolve 0 0) (ch 1 100 64)) (fun t => decide (t.get R.AFE_CHc_STATE 0 0 = chOK)),
    yes (exec (.openShortReexam 0 0) (ch 2 100 64)) (fun t => decide (t.get R.AFE_CHc_STATE 0 0 = chOK)),
    yes (exec (.openShortReexam 0 0) (ch 3 0 64)) (fun t => decide (t.get R.AFE_CHc_STATE 0 0 = chSHORT)) ]

theorem test_inputStates : inputStates.all id = true := by decide +kernel

/-- SpareVisitKeepsItsFit. -/

def spareVisits : List Bool :=
  let sp (n : Nat) := withSlice up 0 (fun x => { x with spares := [(0, { SpareAdc.init with lines := n, len := 256 })] })
  [ inRotation (sp 255) 0 0 && decide (segInput? entry ((sp 255).get (spVisitRow 0) 0) = some (0, 0)) &&
      isTo (exec (.shadowVisitEnd 0 0 (-32768) 0) (sp 255)) (sp 255),
    inRotation (sp 256) 0 0 && decide (smFind ((sp 256).slice 0).fits 0 = none) && yes (exec (.shadowVisitEnd 0 0 65535 3) (sp 256))
      (fun t => decide (smFind (t.slice 0).fits 0 = some { gain := 65535, ofs := 3, base := some (65535, 3), turn := 0 })) ]

theorem test_spareVisits : spareVisits.all id = true := by decide +kernel

/-- LinesPassFloatAndScrim. -/

def linesPass : List Bool :=
  let cl : CapLine := { line := 7, slices := [], plumb := [], pos := none, lost := [], cont := inspecting.contentNow }
  let at1 : CapLine := { cl with pos := some { p := 0, src := 0, conf := 0, yaw := [] } }
  let wait := { inMode pixLocked 1 with capLines := [cl], timing := { up.timing with lineLatch := [(7, (1000, [0, 0], 0))] } }
  let placed := { inspecting with capLines := [at1] }
  let stop := { placed with modePend := some .stopping }
  let row : FloatRow := { at_ := none, mid := false, on := true, since := none, px := 64, ofs := 0, stagger := 0, bins := [], next := 1, base := 0, pend := none }
  let closed := { inspecting with flt := { inspecting.flt with rows := [(0, row)] } }
  [ wait.calm && decide (lineUnplaced wait = some cl) && yes (exec .trkLineResult wait) (fun t => t.capLines.all (fun (x : CapLine) => x.pos.isSome)),
    decide (lineUnplaced up = none) && isTo (exec .trkLineResult up) up,
    isTo (exec .floatCaptureLine wait) wait,
    isTo (exec .floatCaptureLine stop) { stop with capLines := [] },
    !(linesTaken (inMode placed 0)) && isTo (exec .floatCaptureLine (inMode placed 0)) (inMode placed 0),
    placed.calm && yes (exec .floatCaptureLine placed) (fun t => decide (t.capLines = []) && t.flt.started),
    !(lineClosed up 0) && isTo (exec .scrimLineRead up) up,
    lineClosed closed 0 && closed.calm && decide (closed.modePend = none ∧ closed.shadow = []) && !closed.pageDue &&
      yes (exec .scrimLineRead closed) (fun t => decide (t.flt.scrimNext = 1)),
    up.flt.held.all (fun w => !(decide (w.k = 23) && slotFree up w.n)) && isTo (exec (.ringWritePlace 23) up) up ]

theorem test_linesPass : linesPass.all id = true := by decide +kernel

/-- DropFeedInput. -/

def feedInput : List Bool :=
  let news := { up with plumb := { up.plumb with dfRaw := true } }
  let job := { inspecting.setB R.LAP_CTRL_DFIN_EN true with plumb := { inspecting.plumb with dfRaw := true } }
  [ decide (up.get R.LAP_DFIN_DEB ≠ 0) && isTo (exec (.dfInRawEdge true) up) news,
    isTo (exec (.dfInQualify true) up) up, isTo (exec (.dfInQualify false) up) up,
    news.calm && !(news.bit R.LAP_CTRL_DFIN_EN) && isTo (exec (.dfInQualify true) news) { news with plumb := { news.plumb with dfQual := true } },
    job.calm && job.bit R.LAP_CTRL_DFIN_EN && decide (job.plumb.sheet = none) && (true == !(job.bit R.LAP_CTRL_DFIN_POL)) &&
      yes (exec (.dfInQualify true) job) (fun t => decide (t.get R.LAP_STAT_DF = 1 ∧ t.get R.LAP_DF_CNT = 1)) ]

theorem test_feedInput : feedInput.all id = true := by decide +kernel

/-- StraightedgeReports. -/

def straightedge : List Bool :=
  let e : InsEvt := { code := 1, flags := 0, mag := 0, pos := none, lines := 1, x0 := 0, x1 := 0, src := 0, conf := 0, a := 0, b := 0, c := 0 }
  let w (st n : Nat) : InsWait := { e := e, y := 0, x := 0, size := 0, st := st, seq := n }
  let s := { up with ins := { up.ins with waits := [w 0 1, w 2 2, w 3 3] } }
  let held := { up with ins := { up.ins with rate := [(5, (0, 1))] } }
  [ decide (s.ins.waits.find? (fun x => decide (2 ≤ x.st)) = some (w 2 2)) && yes (exec .insEventSend s)
      (fun t => decide (t.ins.waits = [w 0 1, w 3 3] ∧ t.ins.evtNum = 1 ∧ t.outbox.map (fun (p : OutPkt) => (p.cls, p.prod, p.kind)) = [(0, 6, 1)])),
    isTo (exec .insRateSecondEnd up) up,
    yes (exec .insRateSecondEnd held) (fun t => decide (t.ins.rate = [] ∧ (t.outbox.map (fun (p : OutPkt) => (p.cls, p.prod))).take 1 = [(0, 6)])),
    up.takes .host pgINS 0x040 ]

theorem test_straightedge : straightedge.all id = true := by decide +kernel

/-- SegmentBringUpSteps. -/

def bringUpSteps : List Bool :=
  let at_ (b : BringUp) (f : Slice → Slice) : State := withSlice up 23 (fun x => f { x with bring := b })
  let stag : State := { at_ .stagger id with staggerQ := [23] }
  let sup (mv : Nat) := (at_ .supply id).set R.AFE_SUP_MV mv 23
  let chk := at_ .supply (fun x => { x with supChecks := true })
  let run := (withSlice up 0 (fun x => { x with bring := .ready, entry := some (leBytes 1 1 ++ entry.drop 1) })).set R.AFE_SUP_MV 24000 0
  let again := (run.set R.POE_BUDGET_MW 71000).modSlice 0 (fun x => { x with bring := .offDelay })
  [ decide ((stag.slice 23).bring = .stagger) && yes (exec .segEnStagger stag) (fun t => decide ((t.slice 23).bring = .supply ∧ t.staggerQ = [])),
    (sup 23000).calm && decide (((sup 23000).slice 23).bring = .supply) && yes (exec (.segSupplyWindow 23) (sup 23000)) (fun t => (t.slice 23).supChecks),
    yes (exec (.segSupplyWindow 23) (sup 25000)) (fun t => (t.slice 23).supChecks),
    yes (exec (.segSupplyWindow 23) (sup 25001)) (fun t => decide ((t.slice 23).bring = .off ∧ t.get R.AFE_SUP_SHUTDOWN 23 = 1)),
    !(linkFailed chk 23) && decide ((chk.slice 23).cur = none) && yes (exec (.segPingStart 23) chk) (fun t => decide (t.tx = [.seg 23 (linkFrame 0 0 0 [])])),
    isTo (exec (.segPingStart 23) (at_ .ping id)) (at_ .ping id),
    (at_ .led id).calm && yes (exec (.segLedStable 23) (at_ .led id)) (fun t => decide ((t.slice 23).bring = .ready)),
    isTo (exec (.segLedStable 23) (at_ .ready id)) (at_ .ready id),
    yes (exec (.segEnDeassertDelay 23) (at_ .offDelay id)) (fun t => decide ((t.slice 23).bring = .off)),
    segEn again 0 && yes (exec (.segEnDeassertDelay 0) again) (fun t => decide ((t.slice 0).bring = .stagger ∨ (t.slice 0).bring = .supply)),
    isTo (exec (.segEnDeassertDelay 23) (at_ .offWrite id)) (at_ .offWrite id),
    run.takes .host (pgSLC 0) 0x044 && decide (run.mode = .idle) && (run.slice 0).powered && segEn run 0 && !(linkFailed run 0) &&
      yes (exec (.slcLinkRerun .host 0) run) (fun t => decide ((t.slice 0).bring = .link ∧ t.tx.length = 1)) ]

theorem test_bringUpSteps : bringUpSteps.all id = true := by decide +kernel

/-- SegmentLinkExchange. -/

def linkExchange : List Bool :=
  let txn (p : LinkPurpose) : LinkTxn := { purpose := p, op := 1, addr := 0x300, data := [2] }
  let at_ (b : BringUp) (c : LinkCur) := withSlice up 0 (fun x => { x with bring := b, cur := some c })
  let c (p : LinkPurpose) (n : Nat) (w : LinkWait) : LinkCur := { txn := txn p, tag := 15, attempts := n, wait := w }
  let frame (body : List (BitVec 8)) : List (BitVec 8) := [0x5A] ++ body ++ [BitVec.ofNat 8 (crc16 body / 256), BitVec.ofNat 8 (crc16 body % 256)]
  let temp := at_ .ready (c .temp 1 .answer)
  let ping := at_ .link (c .ping 1 .answer)
  [ temp.calm && decide ((temp.slice 0).queue = []) && !(linkFailed temp 0) && yes (exec (.segLinkResponse 0 (frame [15, 2, 0x34, 0x12])) temp)
      (fun t => decide (t.get R.SLC_LED_TEMP 0 = 0x1234 ∧ t.get R.SLC_LED_TEMP_VALID 0 = 1 ∧ (t.slice 0).cur = none)),
    ping.calm && !(linkFailed ping 0) && yes (exec (.segLinkResponse 0 (frame [15, 0])) ping)
      (fun t => decide (t.get R.SLC_SEG_STAT_LINK_UP 0 = 1 ∧ t.tx = [.seg 0 (linkFrame 7 0 0 [])])),
    isTo (exec (.segLinkTimeout 0) (at_ .ready (c .temp 1 .resend))) (at_ .ready (c .temp 1 .resend)),
    yes (exec (.segLinkTimeout 0) (at_ .ready (c .temp 3 .answer))) (fun t => decide ((t.slice 0).cur = some (c .temp 3 .resend))),
    yes (exec (.segLinkTimeout 0) (at_ .ready (c .temp 4 .answer))) (fun t => decide (t.get R.SLC_SEG_STAT_LINK_FAILED 0 = 1)),
    yes (exec (.segLinkTimeout 0) (at_ .offWrite (c .illumOff 4 .answer)))
      (fun t => decide (t.get R.SLC_SEG_STAT_LINK_FAILED 0 = 1 ∧ t.get R.SLC_SEG_STAT_READY 0 = 0)),
    yes (exec (.segLinkResend 0) (at_ .ready (c .temp 1 .resend)))
      (fun t => decide (t.tx = [.seg 0 (linkFrame 1 0x300 15 [2])] ∧ t.get R.SLC_LINK_RETRIES 0 = 1)),
    isTo (exec (.segLinkFrameDiscard 0) temp) temp ]

theorem test_linkExchange : linkExchange.all id = true := by decide +kernel

/-- SegmentLinkStarts. -/

def linkStarts : List Bool :=
  let c : LinkCur := { txn := { purpose := .illum, op := 2, addr := 0x200, data := [1, 0] }, tag := 0, attempts := 1, wait := .room }
  let room := (withSlice up 23 (fun x => { x with bring := .ready, cur := some c })).set R.TIMING_LINE_CNT 0xFFFFFFFF
  let idle (f : Nat) := ((withSlice up 23 (fun x => { x with bring := .ready })).set R.SLC_SEG_STAT_LINK_FAILED f 23).set R.SLC_SEG_STAT_LINK_UP 1 23
  let off := (idle 0).set R.SLC_LINK_TEMP_POLL 0 23
  [ yes (exec (.segIllumWriteStart 23 2) room) (fun t => decide ((t.slice 23).spLine = some 1 ∧ t.tx.length = 1)),
    linkFailed (idle 1) 23 && ((idle 1).slice 23).powered && yes (exec (.segLinkPingPoll 23) (idle 1)) (fun t => decide (t.tx = [.seg 23 (linkFrame 0 0 0 [])])),
    !(linkFailed (idle 0) 23) && isTo (exec (.segLinkPingPoll 23) (idle 0)) (idle 0),
    decide ((idle 0).get R.SLC_LINK_TEMP_POLL 23 ≠ 0) && yes (exec (.segLedTempPoll 23) (idle 0)) (fun t => decide (t.tx = [.seg 23 (linkFrame 1 0x300 0 [2])])),
    decide (off.get R.SLC_LINK_TEMP_POLL 23 = 0) && isTo (exec (.segLedTempPoll 23) off) off ]

theorem test_linkStarts : linkStarts.all id = true := by decide +kernel

/-- SupplySenseAndHold. -/

def supplySense : List Bool :=
  let s (c : Bool) (n : Nat) := withSlice up 23 (fun x => { x with bring := .supply, supChecks := c, loRun := n })
  let mv (l : List Nat) := min 65535 (sumN l * up.get R.AFE_SNS_RATIO 23 / (8 * 4096 * 1000))
  [ (s false 0).calm && ((s false 0).slice 23).powered && isTo (exec (.supSenseAverage 23 [8000000]) (s false 0))
      (((s false 0).set R.AFE_SUP_MV (mv [8000000]) 23).setI R.AFE_SUP_DEV ((mv [8000000] : Int) - 24000) 23),
    decide (25000 < mv [99999999]) && yes (exec (.supSenseAverage 23 [99999999]) (s true 0)) (fun t => decide ((t.slice 23).bring = .off)),
    isTo (exec (.supLoHoldExpire 23) (s true 0)) (s true 0),
    yes (exec (.supLoHoldExpire 23) (s true 1)) (fun t => decide ((t.slice 23).bring = .off ∧ t.get R.AFE_SUP_SHUTDOWN 23 = 1)) ]

theorem test_supplySense : supplySense.all id = true := by decide +kernel

/-- HostAxisCommands. -/

def axisCommands : List Bool :=
  let cmd (a : Nat) := ready.takes .host (pgAXIS a) 0x040
  let far := inMode ready 1
  let run := moving ready
  let home := { ready with rol := { ready.rol with lims := [] } }
  let astray := ready.setB R.MOT_AXa_STAT_PHASE_LOST true 3
  [ cmd 5 && far.takes .host (pgAXIS 0) 0x040 && far.calm && !(hostMay far 0 1) && !(hostMay far 0 4) && !(hostMay far 0 7) && isTo (exec (.axisCmdStart .host 0) far) (far.err (pgAXIS 0) 0x510) &&
      isTo (exec (.axisCmdHome .host 0) far) (far.err (pgAXIS 0) 0x510) && isTo (exec (.axisCmdSetPos .host 0) far) (far.err (pgAXIS 0) 0x510),
    cmd 0 && ready.calm && hostMay ready 0 1 && decide (startRefused ready 0 false (usedSegs ready 0) (listBad ready 0 (usedSegs ready 0)) = none) &&
      yes (exec (.axisCmdStart .host 0) ready) (fun t => decide (t.get R.MOT_AXa_STAT_BUSY 0 = 1) && (t.axis 0).move.isSome),
    decide (startRefused run 0 false (usedSegs run 0) (listBad run 0 (usedSegs run 0)) = some 0x513) && run.calm && hostMay run 0 1 && hostMay run 0 3 &&
      isTo (exec (.axisCmdStart .host 0) run) (run.err (pgAXIS 0) 0x513),
    loaded run.rol.ramps 0 && loaded hostMove.tabs 0 && yes (exec (.axisCmdStop .host 0 (some 0)) run)
      (fun t => (t.axis 0).move.any (fun m => m.stopping && decide (m.segs = [stopSeg 0] ∧ m.steps = 0)) && decide (t.regs = run.regs)),
    yes (exec (.axisCmdHalt .host 0) run) (fun t => (t.axis 0).move.isNone && decide (t.get R.MOT_AXa_STAT_HALTED 0 = 1 ∧ t.get R.MOT_AXa_STAT_BUSY 0 = 0)),
    !(axisBusy home 3) && hostMay home 3 4 && loaded home.rol.ramps (home.get R.MOT_AXa_HOME_TBL 3) && home.bit R.MOT_AXa_EN 3 && !(estopActive home) &&
      !(limitAhead home 3 (limActive home (home.get R.MOT_AXa_HOME_IN 3) != home.bit R.MOT_AXa_HOME_DIR 3) (some (home.get R.MOT_AXa_HOME_IN 3))) &&
      yes (exec (.axisCmdHome .host 3) home) (fun t => (t.axis 3).move.any (fun m => decide (m.what = .home 2))),
    hostMay run 0 2 && yes (exec (.axisCmdHalt .host 0) (ready.modAxis 0 (fun x => { x with rephase := some (4, true) })))
      (fun t => (t.axis 0).rephase.isNone && decide (t.get R.MOT_AXa_STAT_HALTED 0 = 1)),
    yes (exec (.axisCmdHome .host 0) (ready.set R.MOT_AXa_HOME_CFG_ADOPT 1 0)) (fun t => (t.axis 0).move.isNone && (t.axis 0).disarmed.isNone),
    isTo (exec (.axisCmdRearm .host 5) (ready.set R.MOT_AXa_SHADOW 7 5)) ((ready.set R.MOT_AXa_SHADOW 7 5).modAxis 5 (fun x => { x with disarmed := none })),
    yes (exec (.axisCmdRephase .host 0) (ready.set R.MOT_AXa_DRV_HOME_IDX 512 0)) (fun t => (t.axis 0).rephase.any (fun x => decide (x.1 = 512))),
    yes (exec (.axisCmdSetPos .host 0) (ready.set R.MOT_AXa_SETPOS_HI 0x8000 0)) (fun t => decide (axPos t 0 = -140737488355328)),
    hostMay astray 3 2 && hostMay astray 3 3 && isTo (exec (.axisCmdStop .host 3 (some 63)) astray) (astray.err (pgAXIS 3) 0x511) &&
      isTo (exec (.axisCmdHalt .host 3) astray) (astray.err (pgAXIS 3) 0x511) ]

theorem test_axisCommands : axisCommands.all id = true := by decide +kernel

/-- VelocityAndGroups. -/

def velocityGroups : List Bool :=
  let run := moving ready
  let grp := setAll ready [(R.MOT_GRPg_MEMBERS, 0x3F, 0, 1), (R.MOT_GRPg_LEAD, 0, 0, 1), (R.MOT_GRPg_DDA_DEN, 7, 0, 1), (R.MOT_AXa_SHADOW, 7, 4, 0),
    (R.MOT_AXa_SHADOW, 7, 5, 0)]
  let fs := (maskList 0x3F 6).filter (fun f => f != 0 && Variant.hasAxis grp.variant f)
  let ending := ready.modAxis 0 (fun x => { x with move := some { hostMove with stopping := true } })
  let top := { ready with rol := { ready.rol with ramps := [(63, { ver := 0, ents := [(150, 0, true)] })] } }
  [ ready.takes .host (pgAXIS 0) 0x050 && hostMay ready 0 0 && isTo (exec (.axisVelSel .host 0 0x3FF3F) top)
      ((top.set R.MOT_AXa_VEL_SEL_TBL 63 0).set R.MOT_AXa_VEL_SEL_ENT 0x3FF 0),
    run.takes .host (pgAXIS 0) 0x050 && run.calm && loaded hostMove.tabs 0 && yes (exec (.axisVelSel .host 0 0x100) run)
      (fun t => (t.axis 0).move.any (fun m => decide (m.sel = some (0, 1)))),
    !(loaded ready.rol.ramps 1) && isTo (exec (.axisVelSel .host 0 1) ready) (ready.err (pgAXIS 0) 0x517),
    yes (exec (.axisVelSel .host 0 0x100) ending) (fun t => decide (t.get R.MOT_AXa_SEL_LOST 0 = 1 ∧ t.rol.axes = ending.rol.axes)),
    grp.takes .host pgMOT 0x110 && grp.calm && Variant.hasAxis grp.variant 0 && decide (fs.length ≠ 0) && (0 :: fs).all (fun b => hostMay grp b 1) &&
      decide (startRefused grp 0 (grp.bit R.MOT_AXa_MOVE_DIR 0) (usedSegs grp 0) (listBad grp 0 (usedSegs grp 0)) = none) &&
      fs.all (fun f => decide (startRefused grp f (grp.bit R.MOT_AXa_MOVE_DIR f) [] false = none)) && !(grp.bit R.MOT_AXa_MOVE_BUDGET_EN 0) &&
      yes (exec (.grpStart .host 1) grp) (fun t => (t.axis 0).move.any (fun m => decide (m.followers = fs.map (fun f => (f, 3))))) ]

theorem test_velocityGroups : velocityGroups.all id = true := by decide +kernel

/-- StepsEncodersAndLimits. -/

def stepsAndInputs : List Bool :=
  let run := moving ready
  let re := ready.modAxis 5 (fun x => { x with rephase := some (1, true) })
  let dis := { ready.modAxis 5 (fun x => { x with disarmed := some 7 }) with rol := { (ready.modAxis 5 (fun x => { x with disarmed := some 7 })).rol with lims := [] } }
  let raw := ready.modRol (fun r => { r with lims := [(7, { raw := true, qual := false, latch := none })] })
  let lim (role : Nat) := raw.set R.MOT_LIMi_ROLE role 0 7
  [ ready.calm && isTo (exec (.axisStep 5 false) ready) ready,
    yes (exec (.axisStep 5 true) re) (fun t => decide ((t.axis 5).rephase = some (0, true) ∧ t.regs = re.regs)),
    yes (exec (.axisStep 5 false) (re.modAxis 5 (fun x => { x with ballBad := 1 })))
      (fun t => (t.axis 5).rephase.isNone && decide (t.get R.MOT_AXa_STAT_BALL_FAULT 5 = 1)),
    yes (exec (.axisStep 5 true) (ready.modAxis 5 (fun x => { x with lead := some 0, ballBad := 1 }))) (fun t => decide ((t.axis 5).ballBad = 0)),
    run.calm && decide (hostMove.segs[hostMove.idx]?.isSome) && yes (exec (.axisStep 0 true) run) (fun t => decide (axPos t 0 = 1)),
    yes (exec (.encEdge 0 true false) ready) (fun t => decide ((encCount t 0).natAbs = 1 ∧ t.get R.MOT_ENC0_ERR = 0)),
    yes (exec (.encEdge 1 true true) ready) (fun t => decide (encCount t 1 = 0 ∧ t.get R.MOT_ENC1_ERR = 1)),
    dis.calm && decide (disarmedBy dis 7 = some 5) && decide ((dis.lim 7).raw = false) && yes (exec (.limRawEdge 7 true 255) dis)
      (fun t => decide (t.get R.MOT_AXa_CHATTER 5 = 1) && bitOf (t.get R.MOT_LIM_RAW) 7),
    decide (disarmedBy ready 0 = none) && decide (ready.get R.MOT_LIMi_DEB 0 0 ≠ 0) && yes (exec (.limRawEdge 0 true 0) ready)
      (fun t => (t.lim 0).raw && !(t.lim 0).qual),
    raw.calm && isTo (exec (.limQualify 7 false) raw) raw,
    decide (disarmedBy (lim 1) 7 = none) && yes (exec (.limQualify 7 true) (lim 1)) (fun t => bitOf (t.get R.MOT_LIM_QUAL) 7 && bitOf (t.get R.MOT_LIM_TRIP) 7),
    (lim 4).calm && yes (exec (.limQualify 7 true) (lim 4)) (fun t => decide (t.get R.MOT_STAT_ESTOP = 1)) ]

theorem test_stepsAndInputs : stepsAndInputs.all id = true := by decide +kernel

/-- DriversAndGenerators. -/

def driversGenerators : List Bool :=
  let low := ready.modAxis 5 (fun x => { x with aonLow := true })
  let run := moving ready
  let lost := ready.set R.MOT_AXa_STAT_DRV_LOST 1 2
  let sett := lost.modAxis 2 (fun x => { x with rephase := some (0, false) })
  [ yes (exec (.aonDrvLostSample 5 true) low) (fun t => decide (t.get R.MOT_AXa_STAT_DRV_LOST 5 = 1)),
    yes (exec (.aonDrvLostSample 5 true) low) (fun t => (t.axis 5).rephase.isSome),
    isTo (exec (.aonDrvLostSample 5 true) ready) low, yes (exec (.aonDrvLostSample 5 false) low) (fun t => !(t.axis 5).aonLow),
    ready.calm && decide (ready.rol.run = none) && yes (exec (.drvFault 0) ready) (fun t => (t.axis 0).flt),
    yes (exec (.drvFault 0) run) (fun t => decide (t.get R.MOT_AXa_STAT_DRV_FAULT 0 = 1 ∧ t.get R.MOT_AXa_STAT_HALTED 0 = 1)),
    !(axisBusy ready 2) && yes (exec (.drvReturn 2) low) (fun t => !(t.axis 2).flt),
    yes (exec (.drvReturn 2) lost) (fun t => (t.axis 2).rephase.isSome),
    yes (exec (.rephaseSettle 2) sett) (fun t => decide (t.get R.MOT_AXa_STAT_DRV_LOST 2 = 0)),
    decide (shadowOf ready 0 = some 4) && !(ready.axis 4).genBad && !(ready.bit R.MOT_AXa_STAT_SUBSTITUTING 4) &&
      yes (exec (.genParityError 0 { active := true, shadow := false, differ := true }) ready)
        (fun t => decide (t.get R.MOT_AXa_STAT_SPARED 0 = 1 ∧ t.get R.MOT_AXa_STAT_SUBSTITUTING 4 = 1)),
    yes (exec (.genParityError 0 { active := true, shadow := false, differ := true }) ((ready.setB R.MOT_AXa_STAT_SPARED true 0).setB R.MOT_AXa_STAT_SUBSTITUTING true 4))
        (fun t => decide (t.get R.MOT_AXa_STAT_SPARED 0 = 0 ∧ t.get R.MOT_AXa_STAT_SUBSTITUTING 4 = 0) && (t.axis 4).genBad),
    decide (shadowOf ready 3 = none) && yes (exec (.genParityError 3 { active := true, shadow := false, differ := true }) ready)
        (fun t => decide (t.get R.MOT_AXa_STAT_GEN_FAULT 3 = 1)) ]

theorem test_driversGenerators : driversGenerators.all id = true := by decide +kernel

/-- AdvanceQueueAndRecords. -/

def advances : List Bool :=
  let fo := (inMode geared 1).setB R.SYS_MODE_CUR_FO true
  let q : AdvReq := { id := 1, len := 100, creep := 50000, deadline := 9 }
  let a : Adv :=
    { req := q, num := 0, t0 := 0, base := 0, trim := 0, target := 100, s16 := 0, unchained := true, basePos := 0, first := false, phase := 2,
      fast := 0, creep := 0, cMin := 0, left := none, late := false, overrun := false, clipped := false, fromLine := 0, need := 2,
      lines := [(0, 1), (0, 1)], us := 0 }
  let full := fo.modRol (fun r => { r with queue := [q, q, q, q] })
  let good := fo.set R.MOT_ADV_LEN 1
  let slow := { good with rol := { good.rol with ramps := [(0, { ver := 0, ents := [(10000, 0, true)] })] } }
  let wait := (slow.set R.MOT_CTRL_ADV_CHAIN 0).modRol (fun r => { r with queue := [q], swath := true })
  let run := fo.modRol (fun r => { r with run := some a })
  let rec_ := fo.modRol (fun r => { r with collect := [a] })
  [ ready.takes .host pgMOT 0x0D0 && !(feedOwner ready) && isTo (exec (.motAdvPush .host) ready) (ready.err pgMOT 0x510),
    feedOwner full && full.takes .host pgMOT 0x0D0 && isTo (exec (.motAdvPush .host) full) (full.err pgMOT 0x515),
    isTo (exec (.motAdvPush .host) fo) (fo.err pgMOT 0x516),
    !(loaded good.rol.ramps 1) && isTo (exec (.motAdvPush .host) (good.set R.MOT_ADV_ACC_TBL 1)) ((good.set R.MOT_ADV_ACC_TBL 1).err pgMOT 0x517),
    feedOwner slow && decide (slow.get R.MOT_ADV_LEN ≠ 0 ∧ 10000 ≤ slow.get R.MOT_ADV_CREEP ∧ slow.get R.MOT_FEED_SCALE ≠ 0) &&
      loaded slow.rol.ramps (slow.get R.MOT_ADV_DEC_TBL) && decide (slow.get R.MOT_AXa_SS_INT 0 ≤ (rampAt (rampEnts slow.rol.ramps 0) 0).1) &&
      yes (exec (.motAdvPush .host) slow) (fun t => decide (t.get R.MOT_ADV_QUEUED = 1)),
    yes (exec (.motAdvFlush .host) full) (fun t => decide (t.rol.queue = [] ∧ t.get R.MOT_ADV_QUEUED = 0)),
    wait.calm && !(wait.bit R.MOT_CTRL_ADV_TRIG && !wait.rol.swath) && !(axisBusy wait 0) && !(limitAhead wait 0 false none) && wait.bit R.MOT_AXa_EN 0 &&
      !(wait.bit R.MOT_CTRL_ADV_CHAIN) && loaded wait.rol.ramps (wait.get R.MOT_ADV_ACC_TBL) && !(estopActive wait) &&
      yes (exec .advTrigger wait) (fun t => t.rol.run.any (fun x => decide (x.target = 100)) && decide (t.rol.queue = [] ∧ t.rol.advNum = 1)),
    run.calm && decide (run.shadow = []) && yes (exec .advSettleDone run) (fun t => t.rol.run.isNone && t.rol.ready && decide (t.get R.MOT_PASS_CNT = 1)),
    yes (exec .advSettleDone (up.modRol (fun r => { r with run := some a }))) (fun t => t.rol.run.isNone && !t.rol.ready && decide (t.get R.MOT_PASS_CNT = 0)),
    yes (exec .advDeadlineMiss run) (fun t => decide (t.get R.MOT_ADV_LATE_CNT = 1)),
    isTo (exec .advDeadlineMiss (fo.modRol (fun r => { r with run := some { a with late := true } }))) (fo.modRol (fun r => { r with run := some { a with late := true } })),
    isTo (exec .advSettleDone (fo.modRol (fun r => { r with run := some { a with phase := 1 } }))) (fo.modRol (fun r => { r with run := some { a with phase := 1 } })),
    isTo (exec .advRecord (fo.modRol (fun r => { r with collect := [{ a with need := 3 }] }))) (fo.modRol (fun r => { r with collect := [{ a with need := 3 }] })),
    yes (exec .advRecord rec_) (fun t => decide ((t.outbox.map (fun (p : OutPkt) => (p.cls, p.prod, p.kind))).take 1 = [(1, 7, 0x10)])) ]

theorem test_advances : advances.all id = true := by decide +kernel

/-- PassHandshake. -/

def passSync : List Bool :=
  let fo := ((inMode up 1).setB R.SYS_MODE_CUR_FO true).modRol (fun r => { r with psRaw := true, ready := true, psTs := some 5 })
  let ins := (inMode up 1).modRol (fun r => { r with psRaw := true })
  let act := up.modRol (fun r => { r with psQual := true })
  [ up.calm && isTo (exec (.passSyncRawEdge false) up) up,
    decide (up.get R.MOT_PASS_SYNC_DEB ≠ 0) && yes (exec (.passSyncRawEdge true) up) (fun t => t.rol.psRaw && t.rol.psTs.isSome),
    !(passActive up) && isTo (exec .passSyncRise up) up, passActive ins && isTo (exec .passSyncFall ins) ins,
    fo.calm && passActive fo && feedOwner fo && !(fo.bit R.MOT_HOLD_OUT) && yes (exec .passSyncRise fo)
      (fun t => !t.rol.ready && decide (t.get64 R.PTP_PASS_RISE_TS_LO R.PTP_PASS_RISE_TS_HI = 5)),
    ins.calm && !(feedOwner ins) && decide (ins.shadow = []) && yes (exec .passSyncRise ins) (fun t => decide (t.get R.MOT_PASS_CNT = 1)),
    act.calm && !(passActive act) && yes (exec .passSyncFall act) (fun t => !t.rol.psQual) ]

theorem test_passSync : passSync.all id = true := by decide +kernel

/-- CapturePagesAndPauses. -/

def capturePages : List Bool :=
  let pg : CapPage :=
    { num := 1, first := 0, last := 5, count := 6, pauses := 0, leadShort := false, df := false, seamFb := false, reMax := 0, reUnk := false,
      re := false, prevLines := 0, prev := [] }
  let run := capturing 0
  let open_ := run.modCap (fun c => { c with page := some pg })
  let host (st : Nat) := (capturing st).set R.CAP_PAUSE_CAUSE 2
  [ run.takes .host pgCAP 0x05C && run.calm && decide (run.mode = .capture) && !(run.bit R.CAP_CTRL_PAGE_MODE) && decide (run.cap.page = none) &&
      isTo (exec (.capPageStart .host) run) (run.modCap (fun c => { c with arm := true })),
    isTo (exec (.capPageEnd .host) run) (run.modCap (fun c => { c with arm := false })),
    open_.calm && decide (open_.cap.held = none) && !(open_.bit R.CAP_CTRL_STOP_AT_END) && yes (exec (.capPageEnd .host) open_)
      (fun t => t.cap.page.isNone && t.pageDue && decide (t.get R.CAP_PAGE_CNT = 1 ∧ (t.outbox.map (fun (p : OutPkt) => (p.cls, p.prod, p.kind))).take 1 = [(1, 8, 0x10)])),
    yes (exec (.capPauseCmd .host) run) (fun t => decide (t.get R.CAP_STATE = 1 ∧ t.get R.CAP_PAUSE_CNT = 1)),
    yes (exec (.capPauseCmd .host) (capturing 6)) (fun t => decide (t.get R.CAP_STATE = 1)),
    isTo (exec (.capPauseCmd .host) (capturing 1)) (capCauseSet (capturing 1) 1 true),
    (host 4).takes .host pgCAP 0x05C && yes (exec (.capResume .host) (host 4)) (fun t => decide (t.get R.CAP_STATE = 5 ∧ t.get R.CAP_PAUSE_CAUSE = 0)),
    (host 3).feedFree false && (List.range 9).all (fun r => loaded (host 3).rol.ramps (rungAt (host 3) r).tbl) &&
      yes (exec (.capResume .host) (host 3)) (fun t => decide (t.get R.CAP_STATE = 0) && t.cap.start && (t.axis 0).move.any (fun m => m.velocity && !m.neg)),
    (host 5).feedFree false && yes (exec (.capResumeForce .host) (host 5)) (fun t => decide (t.get R.CAP_STATE = 0) && t.cap.start) ]

theorem test_capturePages : capturePages.all id = true := by decide +kernel

/-- PacingChoosesTheRung. -/

def pacing : List Bool :=
  let two : List (BitVec 8) := [2, 0] ++ List.replicate 14 0 ++ [0, 8, 1, 0, 0, 0] ++ List.replicate 10 0 ++ [0, 4, 1, 0, 0, 0] ++ List.replicate 106 0
  let run : State := { (capturing 0).modCap (fun c => { c with ladder := some two, since := some 0, grants := [1, 1] }) with now := 10000000000 }
  let up_ := run.set R.CAP_TOP_RUNG 1
  let high := (up_.set R.CAP_RUNG 1).set R.CAP_WM_HIGH 0
  [ yes (exec .pacingUpdate up) (fun t => decide (t.get R.CAP_RUNG = 0 ∧ t.cap.grants = [0])),
    decide (1000000 * up_.get R.CAP_RUNG_HOLD ≤ (up_.now : Nat)) && decide (up_.get R.CAP_RUNG < topRung up_) &&
      decide (capFill up_ < up_.get R.CAP_WM_HIGH) && drainCarries up_ (drainEst up_) 1 && yes (exec .pacingUpdate up_)
      (fun t => decide (t.get R.CAP_RUNG = 1 ∧ t.cap.want = some 1 ∧ t.cap.grants = [0, 1, 1])),
    decide (high.get R.CAP_WM_HIGH ≤ capFill high) && yes (exec .rungHighHold high) (fun t => decide (t.get R.CAP_RUNG = 0 ∧ t.cap.want = some 0)),
    isTo (exec .rungHighHold up) up, isTo (exec .rungHighHold (up_.set R.CAP_RUNG 1)) (up_.set R.CAP_RUNG 1) ]

theorem test_pacing : pacing.all id = true := by decide +kernel

/-- PausesRunTheirCourse. -/

def pauseCourse : List Bool :=
  let rest := ((capturing 1).set R.CAP_PAUSE_CAUSE 2).set R.TRK_CTRL_FB_SRC 0
  let flat := rest.set R.CAP_BACKUP_NM 0
  let back := (capturing 2).set R.CAP_PAUSE_CAUSE 2
  let lit := (capturing 3).modCap (fun c => { c with ledTimer := true, tabs := [(3, 3)] })
  let stab := (capturing 5).set R.CAP_PAUSE_CAUSE 0
  let off := (stab.set R.CAP_TAB_W 16).modCap (fun c => { c with tabRec := [(100, 100)], tabs := [(200, 200)] })
  [ flat.calm && decide (flat.mode = .capture ∧ (flat.axis 0).move = none) && yes (exec .capFeedAtRest flat)
      (fun t => decide (t.get R.CAP_STATE = 3) && t.cap.ledTimer && !t.cap.admits),
    decide (capScale rest ≠ 0) && rest.feedFree true && loaded rest.rol.ramps (rest.get R.CAP_BACKUP_TBL) && yes (exec .capFeedAtRest rest)
      (fun t => decide (t.get R.CAP_STATE = 2) && (t.axis 0).move.any (fun m => m.neg && m.budget.isSome)),
    isTo (exec .capFeedAtRest stab) stab,
    back.calm && yes (exec .capBackupDone back) (fun t => decide (t.get R.CAP_STATE = 3)), isTo (exec .capBackupDone stab) stab,
    lit.calm && yes (exec .capLedStandby lit) (fun t => decide (t.get R.CAP_STATE = 4 ∧ t.cap.tabRec = [(3, 3)])), isTo (exec .capLedStandby stab) stab,
    decide (stab.get R.CAP_PAUSE_CAUSE = 0) && (tabsOk stab).1 && stab.feedFree false && yes (exec .capStabiliseCheck stab) (fun t => decide (t.get R.CAP_STATE = 0)),
    off.calm && !(tabsOk off).1 && isTo (exec .capStabiliseCheck off) off,
    yes (exec .capStabMax off) (fun t => decide (t.get R.CAP_STAT_LED_UNSTABLE = 1 ∧ t.get R.CAP_STATE = 5)), isTo (exec .capStabMax stab) stab,
    yes (exec .capStall stab) (fun t => decide (t.get R.CAP_STAT_STALL = 1 ∧ t.get R.CAP_STATE = 5)),
    isTo (exec .capStall (stab.set R.CAP_STALL_TO 0)) (stab.set R.CAP_STALL_TO 0) ]

theorem test_pauseCourse : pauseCourse.all id = true := by decide +kernel

/-- HighestRankWinsTheRound. -/

def rounds : List Bool :=
  let r (i : Nat) : ArbReq := { input := i, write := false, addr := 0x1000, bytes := 64, waitNs := 0 }
  let tr := (up.setB R.MC_STAT_TRAINED true).set R.ARB_AGE_i 15 0 0
  let g : Grant := { input := 4, write := false, addr := 0, bytes := 64, ch := 0 }
  let busy := { tr with mc := { tr.mc with grant := some g } }
  [ reqsOk [r 0, r 12, r 13] && isTo (exec (.arbRound [r 0]) busy) busy, isTo (exec (.arbRound []) tr) tr,
    arbEligible tr (r 0) && arbEligible tr (r 12) && yes (exec (.arbRound [r 12, r 0]) tr)
      (fun t => decide (t.mc.grant.map (fun (x : Grant) => x.input) = some 0 ∧ t.get R.ARB_AGE_i 0 0 = 0 ∧ t.get R.ARB_AGE_i 0 12 = 1 ∧ t.get R.ARB_AGE_i 0 5 = 0)),
    yes (exec (.arbRound [r 12, r 0]) (tr.set R.ARB_AGE_i 12 0 0))
      (fun t => decide (t.mc.grant.map (fun (x : Grant) => x.input) = some 12 ∧ t.get R.ARB_AGE_i 0 0 = 13)) ]

theorem test_rounds : rounds.all id = true := by decide +kernel

/-- PortUpkeep. -/

def portUpkeep : List Bool :=
  let g : Grant := { input := 12, write := false, addr := 0, bytes := 64, ch := 0 }
  let busy (n : Nat) : State := { up with mc := { up.mc with grant := some g, postponed := n } }
  let act := up.setB R.MC_STAT_RETRAIN_ACTIVE true
  let die := { up with mc := { up.mc with trainT := [(1, 2500)] } }
  [ isTo (exec .refreshDue up) up, yes (exec .refreshDue (busy 6)) (fun t => decide (t.mc.postponed = 7)),
    yes (exec .refreshDue (busy 7)) (fun t => decide (t.mc.postponed = 0 ∧ t.get R.ARB_PREEMPT_REF = 1)),
    isTo (exec .arbWindowStart up) { up with mc := { up.mc with left := windowQuotas up, window := 1 } } && up.calm && isTo (exec (.arbWatchdog 0) up) up,
    (busy 0).calm && yes (exec (.arbWatchdog 64) (busy 0)) (fun t => decide (t.mc.grant = none ∧ t.get R.ARB_WDOG_CNT = 1 ∧ t.get R.ARB_WDOG_LAST = 12)),
    isTo (exec .retrainDone up) up,
    act.calm && yes (exec .retrainDone act) (fun t => decide (t.get R.MC_STAT_RETRAIN_ACTIVE = 0 ∧ t.get R.MC_RETRAIN_CNT = 1)),
    isTo (exec (.dqsDrift 5 5) up) up, yes (exec (.dqsDrift 6 5) up) (fun t => decide (t.get R.MC_STAT_RETRAIN_DUE = 1)),
    yes (exec (.dramDieTemperature 1 8501) die) (fun t => decide (t.get R.MC_STAT_HOT = 1 ∧ t.get R.MC_STAT_RETRAIN_DUE = 1)),
    yes (exec (.dramDieTemperature 1 1500) die) (fun t => decide (t.get R.MC_STAT_RETRAIN_DUE = 0)) ]

theorem test_portUpkeep : portUpkeep.all id = true := by decide +kernel

/-- DramErrorsScrubAndMigration. -/

def dramUpkeep : List Bool :=
  let g (w : Bool) : Grant := { input := 4, write := w, addr := 0xFFC0, bytes := 64, ch := 0 }
  let busy (w : Bool) : State := { up with mc := { up.mc with grant := some (g w) } }
  let scrub (a : Nat) := (up.setB R.MC_SCRUB_EN true).set64 R.MC_SCRUB_ADDR_LO R.MC_SCRUB_ADDR_HI a
  let mig (ch : Nat) : State := { up with mc := { up.mc with migration := some { sect := 3, spare := 100, chunk := ch }, locked := some ch } }
  let dbg (w : Bool) : State := { (inMode up 4).setB R.DBG_STAT_BUSY true with mc := { up.mc with dbg := some (w, 0x40, List.replicate 64 9) } }
  [ eccOk 64 [⟨63, true⟩] && isTo (exec (.dramTransactionDone [⟨63, true⟩]) (busy true)) up,
    yes (exec (.dramTransactionDone [⟨0, false⟩, ⟨1, false⟩]) (busy false))
      (fun t => decide (t.mc.grant = none ∧ t.get R.MC_ECC_CE_CNT = 2 ∧ t.get R.MC_ECC_LAST_ADDR_LO = 0xFFE0)),
    yes (exec (.dramTransactionDone []) { up with mc := { up.mc with grant := some { g true with input := 1 } } }) (fun t => decide (t.mc.telNext = 1)),
    yes (exec (.dramTransactionDone []) { up with mc := { up.mc with grant := some { g true with input := 9 } } }) (fun t => decide (t.mc.grant = none ∧ memGet t.mem 0xFFBF = memGet up.mem 0xFFBF ∧ memGet t.mem 0x10000 = memGet up.mem 0x10000)),
    (busy false).calm && yes (exec (.dramTransactionDone [⟨1, true⟩]) (busy false)) (fun t => decide (t.get R.MC_ECC_UE_CNT = 1 ∧ t.get R.MC_ECC_LAST_UE = 1)),
    isTo (exec (.dramTransactionDone []) up) up,
    isTo (exec (.scrubRead [⟨0, false⟩] true) (up.setB R.MC_SCRUB_EN false)) (up.setB R.MC_SCRUB_EN false),
    isTo (exec (.scrubRead [] false) (scrub (dramEnd - 128))) ({ scrub (dramEnd - 128) with mc := { up.mc with passStart := some 0 } } |>.set64 R.MC_SCRUB_ADDR_LO R.MC_SCRUB_ADDR_HI (dramEnd - 64)),
    yes (exec (.scrubRead [] false) (scrub (dramEnd - 64))) (fun t => decide (t.get64 R.MC_SCRUB_ADDR_LO R.MC_SCRUB_ADDR_HI = 0 ∧ t.get R.MC_SCRUB_PASSES = 1)),
    yes (exec .migrationChunk (mig 32766)) (fun t => decide (t.mc.locked = none ∧ t.mc.migration = some { sect := 3, spare := 100, chunk := 32767 })),
    isTo (exec .migrationChunk ((mig 0).setB R.MC_STAT_RETRAIN_ACTIVE true)) ((mig 0).setB R.MC_STAT_RETRAIN_ACTIVE true),
    yes (exec .migrationChunk (mig 32767)) (fun t => decide (smFind t.mc.remap 3 = some 100 ∧ t.get R.MC_SECT_RETIRED = 1)),
    decide ((dbg true).mode = .service) && yes (exec (.debugAccessDone []) (dbg true)) (fun t => decide (t.mem = memPutBytes [] 0x40 (List.replicate 64 9) ∧ t.get R.DBG_STAT_BUSY = 0)),
    yes (exec (.debugAccessDone []) { dbg false with mem := memPutBytes [] 0x7C [1, 2] }) (fun t => decide (t.get R.DBG_DATA_w 0 15 % 65536 = 0x201)) ]

theorem test_dramUpkeep : dramUpkeep.all id = true := by decide +kernel

/-- DmaChannelSteps. -/

def dmaSteps : List Bool :=
  let st (c n : Nat) (x : DmaCh) : State := dmaPut (up.set R.DMA_CHc_STATE n c) c x
  let d : List (BitVec 8) := leBytes 8 0x2000 ++ leBytes 8 0x3000 ++ [1, 0, 0, 0, 1, 0, 1, 0] ++ List.replicate 40 0
  let fetch : State := { st 15 1 { DmaCh.init with desc := 0x80 } with mem := memPutBytes [] 0x80 d }
  let one : DmaCh := { DmaCh.init with c0 := 1, c1 := 1, c2 := 1, src := 0x2000, dst := 0x3000, ctrl := 1024, idx := 1, burst := 1 }
  let run : State := { st 0 2 one with mem := memPut [] 0x2000 7 }
  let last := st 0 3 { one with burst := 0, out := [⟨0x100, 1, false, []⟩] }
  let told := st 0 3 { one with burst := 0, out := [⟨0x100, 2, true, [5, 6]⟩], told := true, acked := 1 }
  let more : State := { st 0 2 { one with out := [⟨0x100, 1, false, []⟩] } with mem := memPut [] 0x2000 7 }
  let prev := st 0 2 { DmaCh.init with earlier := [{ desc := 0x80, ctrl := 0, n := 1, acked := 0, out := [⟨0x100, 1, false, []⟩], halfRaised := false, undef := false }] }
  [ up.takes .host (pgDMACH 14) 0x048 && isTo (exec (.dmaStart .host 14) up) (up.err (pgDMACH 14) 0x710),
    (st 15 3 one).takes .cpu0 (pgDMACH 15) 0x048 && isTo (exec (.dmaStart .cpu0 15) (st 15 3 one)) ((st 15 3 one).err (pgDMACH 15) 0x711),
    yes (exec (.dmaStart .host 13) up) (fun t => decide (t.get R.DMA_CHc_STATE 13 = 1)),
    isTo (exec (.dmaAbort .host 0) (st 0 1 one)) (dmaPut (st 0 1 one) 0 { one with abort := true }), isTo (exec (.dmaAbort .host 0) (st 0 4 one)) (st 0 4 one),
    isTo (exec (.dmaAbort .cpu1 0) (st 0 2 one)) (dmaPut (st 0 2 one) 0 { one with abort := true, abortRun := true }),
    yes (exec (.dmaFetchDone 15 true) fetch) (fun t => decide (t.get R.DMA_CHc_STATE 15 = 4 ∧ t.get R.DMA_CHc_LAST_CAUSE 15 = 1 ∧ t.get R.ERR_CODE (pgDMACH 15) = 0x701)),
    decide (dmaCheck fetch 15 (dmaParse (dmaCh fetch 15) (memBytes fetch.mem 0x80 64)) (memBytes fetch.mem 0x80 64) = none) &&
      yes (exec (.dmaFetchDone 15 false) fetch) (fun t => decide (t.get R.DMA_CHc_STATE 15 = 2 ∧ (dmaCh t 15).dst = 0x3000)),
    yes (exec (.dmaReadDone 0 none) run) (fun t => decide ((dmaCh t 0).out = [⟨0x3000, 1, false, [7]⟩] ∧ t.get R.DMA_CHc_STATE 0 = 3 ∧ t.mem = run.mem)),
    yes (exec (.dmaReadDone 0 (some 5)) run) (fun t => decide (t.get R.DMA_CHc_STATE 0 = 4 ∧ t.get R.DMA_CHc_LAST_CAUSE 0 = 5)),
    dmaGroup (dmaWrites one [(0, [7])] []).1 == [⟨0x3000, 1, [7]⟩] && yes (exec (.dmaReadDone 0 none) more)
      (fun t => decide ((dmaCh t 0).queue = [⟨0x3000, 1, [7]⟩] ∧ (dmaCh t 0).out = [⟨0x100, 1, false, []⟩] ∧ memGet t.mem 0x3000 = memGet more.mem 0x3000)),
    isTo (exec (.dmaWriteResponse 0 false) (st 0 2 one)) (st 0 2 one),
    yes (exec (.dmaWriteResponse 0 false) last) (fun t => decide (t.get R.DMA_CHc_LAST_CODE 0 = 1 ∧ t.get R.DMA_CHc_STATE 0 = 3) && (dmaCh t 0).told),
    yes (exec (.dmaWriteResponse 0 true) last) (fun t => decide (t.get R.DMA_CHc_LAST_CAUSE 0 = 6 ∧ t.get R.DMA_CHc_STATE 0 = 4)),
    yes (exec (.dmaWriteResponse 0 false) told) (fun t => decide (t.get R.DMA_CHc_STATE 0 = 0 ∧ (dmaCh t 0).out = [] ∧ t.mem = memPutBytes told.mem 0x100 [5, 6])),
    yes (exec (.dmaWriteResponse 0 true) prev) (fun t => decide (t.get R.DMA_CHc_LAST_CAUSE 0 = 6 ∧ t.get R.DMA_CHc_STATE 0 = 4)) ]

theorem test_dmaSteps : dmaSteps.all id = true := by decide +kernel

/-- HodQueuesRecords. -/

def hodRecords : List Bool :=
  let o : OutPkt := { cls := 1, prod := 255, kind := 2, payload := [1, 2, 3, 4], item := none }
  let p : OpenPkt := { cls := 1, prod := 255, kind := 2, payload := [1, 2, 3, 4], written := 20, took := 20, inTail := 0, beyond := false, flushed := false, waiting := false, item := none }
  let box : State := { fed.set R.HOD_STAT_FALLBACK 0 with outbox := [o] }
  let with_ (q : OpenPkt) : State := { box with hod := { box.hod with opens := [q] } }
  [ box.calm && decide (hodOpenOf box 1 255 = none ∧ outboxTake box.outbox 1 255 = some (o, [])) && !(hodMustWait box 1 none) && hodFits box 1 (pktSpace 4) false &&
      decide ((hc box 1).tail + 20 ≤ hodTailSize 1) && yes (exec (.hodPacketWrite 1 255) box)
      (fun t => (hodOpenOf t 1 255).isNone && decide ((hc t 1).pkts.map (fun (x : Pkt) => (x.seq, x.typ, x.payload)) = [(0, 255 * 256 + 2, [1, 2, 3, 4])]) && t.outbox.isEmpty),
    isTo (exec (.hodPacketCommit 1 255) (with_ { p with written := 19 })) (with_ { p with written := 19 }),
    (with_ p).calm && yes (exec (.hodPacketCommit 1 255) (with_ p)) (fun t => decide ((hc t 1).pkts.map (fun (x : Pkt) => (x.seq, x.typ)) = [(0, 255 * 256 + 2)] ∧ (hc t 1).nextSeq = 1)),
    yes (exec (.hodBadCommit 1 255) (with_ p)) (fun t => decide (t.get R.HOD_Cn_REWIND_CNT 0 1 = 1)),
    isTo (exec (.hodTailHoldExpire 1 255) (with_ { p with written := 19 })) (with_ { p with written := 19 }),
    isTo (exec (.hodTailHoldExpire 3 255) (with_ { p with cls := 3 })) (with_ { p with cls := 3 }),
    yes (exec (.hodTailHoldExpire 3 255) (with_ { p with cls := 3, waiting := true })) (fun t => (hodOpenOf t 3 255).any (fun x => x.beyond && !x.waiting)),
    yes (exec (.hodTailHoldExpire 1 255) (with_ { p with waiting := true })) (fun t => decide (t.get R.HOD_Cn_OVR_CNT 0 1 = 1) && (hodOpenOf t 1 255).isNone) ]

theorem test_hodRecords : hodRecords.all id = true := by decide +kernel

/-- HodFlushAndLegacyWindow. -/

def hodWindow : List Bool :=
  let p (n : Nat) : Pkt :=
    { seq := n, typ := 0x102, gap := false, bank := none, fb := false, payload := [1, 2, 3, 4], sent := false, acked := false, sentEpoch := false,
      readFails := 0, fragPos := 0, again := false, pos := none }
  let held := hcSet (hcSet fed 1 { HodClass.init with pkts := [p 0, p 1] }) 3 { HodClass.init with pkts := [p 0] }
  let leg (r : Nat) (m : Option Nat) := hcSet (fed.setB R.HOD_CTRL_LEG_EN true) (legClass (fed.setB R.HOD_CTRL_LEG_EN true)) { HodClass.init with pkts := [p 0, p 1], legRead := r, legMark := m }
  let n := legClass (leg 0 none)
  [ held.takes .host pgHOD 0x060 && held.calm && isTo (exec (.hodFlush .host 0) held) held,
    yes (exec (.hodFlush .host 2) held) (fun t => decide ((hc t 1).pkts = [] ∧ (hc t 3).pkts = (hc held 3).pkts)),
    reaches (leg 0 none) .host pgHOD 0x100 && ((legWords (leg 0 none) n)[0]?).isSome && yes (exec (.hodLegData .host) (leg 0 none)) (fun t => decide ((hc t n).legRead = 1)),
    decide ((legWords (leg 99 none) n)[99]? = none) && yes (exec (.hodLegData .host) (leg 99 none)) (fun t => decide (t.get R.HOD_LEG_EMPTY_READ = 1)),
    (leg 5 none).takes .host pgHOD 0x108 && yes (exec (.hodLegMark .host) (leg 5 none)) (fun t => decide ((hc t n).legMark = some 5 ∧ t.get R.HOD_LEG_MARK_VALID = 1)),
    yes (exec (.hodLegRewind .host) (leg 5 (some 2))) (fun t => decide ((hc t n).legRead = 2)),
    (leg 9 (some 6)).calm && yes (exec (.hodLegRelease .host) (leg 9 (some 6))) (fun t => decide ((hc t n).pkts.length = 1)) ]

theorem test_hodWindow : hodWindow.all id = true := by decide +kernel

/-- LinkComesAndGoes. -/

def ethernet : List Bool :=
  let down := up.setB R.LINK_STAT_UP false
  let on := (up.setB R.LINK_STAT_UP true).setB R.LINK_CTRL_JUMBO false
  let susp := hcSet (down.set R.TYREX_SESS_STATE 2) 1 { HodClass.init with pkts := [pkt 0 true, pkt 1 false] }
  let f (k : FrameKind) (n : Nat) : RxFrame := { kind := k, bytes := n, vlan := false, fragment := false }
  let twice : State := { down.set R.LINK_CTRL_DOWNSHIFT 1 with eth := { down.eth with fails := [(1, 2)] } }
  [ isTo (exec (.linkUp 0) down) (lldpSend down), isTo (exec (.linkUp 4) on) (lldpSend on),
    bitOf (advert susp) 3 && yes (exec (.linkUp 4) susp) (fun t => decide (t.get R.LINK_STAT_SPEED = 4 ∧ t.get R.TYREX_SESS_STATE = 1 ∧
      (hc t 1).pkts.map (fun (p : Pkt) => p.again) = [true, false])),
    isTo (exec .linkDown down) down,
    yes (exec .linkDown linked) (fun t => decide (t.get R.LINK_STAT_UP = 0 ∧ t.get R.LINK_DOWN_CNT = 1 ∧ t.get R.TYREX_SESS_STATE = 2)),
    reaches up .host pgLINK R.LINK_CTRL_RENEG.off && isTo (exec (.linkCtrlReneg .host) up) (up.set R.LINK_CTRL_RENEG 1),
    bitOf (advert twice) 0 && yes (exec (.linkAttemptFail 1) twice) (fun t => !(bitOf (advert t) 0) && decide (t.get R.LINK_STAT_DOWNSHIFTED = 1)),
    yes (exec (.linkAttemptFail 4) (down.set R.LINK_CTRL_DOWNSHIFT 1)) (fun t => decide (t.eth.fails = [(4, 1)])),
    isTo (exec (.linkFrameReceive (f .arp 64)) down) down, isTo (exec (.linkFrameReceive (f .arp 1519)) on) (on.inc R.LINK_RX_DROP),
    isTo (exec (.linkFrameReceive (f .arp 1518)) on) (on.send (.answer 1)), isTo (exec (.linkFrameReceive (f .ndp 64)) on) (on.send (.answer 2)),
    isTo (exec (.linkFrameReceive (f .icmpEcho 64)) on) (on.send (.answer 3)), isTo (exec (.linkFrameReceive (f .other 64)) on) (on.inc R.LINK_RX_DROP),
    on.bit R.LINK_CTRL_DHCP && yes (exec (.linkFrameReceive (f (.dhcpLease 0x0A000001 0 0) 300)) on) (fun t => t.eth.lease && decide (t.get R.LINK_IP4_CUR = 0x0A000001)),
    isTo (exec .dhcpTimeout { on with eth := { on.eth with lease := true } }) { on with eth := { on.eth with lease := true } },
    !on.eth.lease && decide (on.bit R.LINK_CTRL_DHCP = true) ]

theorem test_ethernet : ethernet.all id = true := by decide +kernel

/-- PowerOverTheCable. -/

def cablePower : List Bool :=
  let noLldp := up.setB R.POE_CTRL_LLDP_EN false
  let poe := (up.setB R.POE_CTRL_LLDP_EN true).set R.POE_CLASS_GRANT 4
  let wait : State := { poe with poe := { poe.poe with wait := true } }
  let pd (st g : Nat) (i a pr : Bool) : State := { up with pd := { up.pd with state := st, grant := g, input := i, auxActive := a, auxPresent := a, prio := pr } }
  [ isTo (exec (.lldpAllocation 71000) noLldp) noLldp,
    poe.calm && decide (poe.slices = [] ∧ poe.poe.wait = false) && !(poe.bit R.POE_STAT_AUX_ACTIVE) && yes (exec (.lldpAllocation 13000) poe)
      (fun t => decide (t.get R.POE_ALLOC_MW = 13000 ∧ t.get R.POE_BUDGET_MW = 13000)),
    yes (exec (.lldpAllocation 0) poe) (fun t => decide (t.get R.POE_BUDGET_MW = classPower 4)),
    isTo (exec .lldpWaitExpire poe) poe,
    wait.calm && decide (wait.poe.waiting = [] ∧ wait.staggerQ = []) && yes (exec .lldpWaitExpire wait) (fun t => !t.poe.wait),
    yes (exec .auxPresent (pd 3 8 true false true)) (fun t => decide (t.pd.state = 4) && t.pd.auxActive),
    yes (exec .auxPresent (pd 3 8 true false false)) (fun t => decide (t.pd.state = 3) && !t.pd.auxActive),
    yes (exec .auxFail (pd 4 4 true true true)) (fun t => decide (t.pd.state = 3)),
    yes (exec .auxFail (pd 4 3 true true true)) (fun t => decide (t.pd.state = 6)),
    (pd 3 8 true false true).calm && isTo (exec (.classificationEvent false) (pd 3 0 true false false)) (pd 3 0 true false false),
    isTo (exec (.classificationEvent true) (pd 6 0 false false false)) { pd 6 0 false false false with
      pd := { (pd 6 0 false false false).pd with acload := up.bit R.POE_STAT_ACLASS } },
    yes (exec (.classificationEvent false) (pd 2 0 false true false)) (fun t => decide (t.pd.events = 1)) ]

theorem test_cablePower : cablePower.all id = true := by decide +kernel

/-- TimeFollowsTheMaster. -/

def masterTime : List Bool :=
  let on := setAll up [(R.LINK_STAT_UP, 1, 0, 0), (R.PTP_CTRL_EN, 1, 0, 0)]
  let m (b : PtpBody) : PtpMsg := { transport := on.get R.PTP_CTRL_TRANSPORT, domain := on.get R.PTP_DOMAIN, body := b }
  let lock (s : State) : State := { s with ptp := { s.ptp with locked := true }, now := 5000 }
  [ isTo (exec (.ptpMessage (m (.announce 7))) up) up,
    isTo (exec (.ptpMessage { m (.announce 7) with domain := on.get R.PTP_DOMAIN + 1 }) on) (on.inc R.LINK_RX_DROP),
    yes (exec (.ptpMessage (m (.announce 7))) on) (fun t => t.ptp.locked && decide (t.get R.PTP_PORT_STATE = 8)),
    isTo (exec (.ptpMessage (m (.sync (some 1)))) on) on,
    yes (exec (.ptpMessage (m (.sync (some 4000)))) (lock on)) (fun t => decide (t.ptp.err = 1000 ∧ t.ptp.offset = 0 ∧ t.get R.PTP_PORT_STATE = 9)),
    yes (exec (.ptpMessage (m (.sync (some 3999)))) (lock on)) (fun t => decide (t.ptp.err = 0 ∧ t.ptp.offset = -1001 ∧ t.get R.PTP_STAT_FREE = 0)),
    yes (exec (.ptpMessage (m (.sync (some 3999)))) (lock (inMode on 1))) (fun t => decide (t.ptp.err = 1001 ∧ t.get R.PTP_STAT_STEP_PENDING = 1)),
    isTo (exec .ptpAnnounceTimeout on) on,
    yes (exec .ptpAnnounceTimeout (lock on)) (fun t => !t.ptp.locked && decide (t.get R.PTP_STAT_HOLDOVER = 1 ∧ t.get R.PTP_PORT_STATE = 4)),
    on.takes .host pgPTP 0x054 && isTo (exec (.ptpLatch .host) (lock on)) ((lock on).set64 R.PTP_TIME_LO R.PTP_TIME_HI (lock on).ts) ]

theorem test_masterTime : masterTime.all id = true := by decide +kernel

/-- SessionsOpenAndEnd. -/

def sessions : List Bool :=
  let closed := setAll linked [(R.TYREX_SESS_STATE, 0, 0, 0), (R.TYREX_SESS_ID, 0, 0, 0)]
  let open_ := hdr 0 1
  let far : Hdr := { hdr 5 0 with port := 47999 }
  let down : State := { linked with pwr := { linked.pwr with cpu0 := some 1 } }
  let kept : State := { linked.set R.TYREX_CTL_NEXT 1 with tyrex := { linked.tyrex with resps := [(0, respMake linked 9 5 6 0 0 [])] } }
  [ linked.bit R.LINK_STAT_UP && isTo (exec (.sessionOpen { open_ with lengthOk := false } 0) linked) (linked.inc R.TYREX_DROP),
    hdrWhole linked open_ && !(linked.bit R.TYREX_CTRL_LOCKED) && isTo (exec (.sessionOpen { open_ with version := 2 } 0) linked) (linked.send (respMake linked 9 0 6 1 1 [])),
    isTo (exec (.sessionOpen { open_ with unordered := true } 0) linked) (linked.send (respMake linked 9 0 6 1 7 [])),
    isTo (exec (.sessionOpen { open_ with src := 8 } 0) linked) (linked.send (respMake linked 8 0 6 1 6 [])),
    decide (closed.get R.TYREX_SESS_STATE = 0) && yes (exec (.sessionOpen open_ 7) closed) (fun t => decide (t.get R.TYREX_SESS_STATE = 1 ∧ t.tyrex.host = 9 ∧ t.get R.TYREX_CREDIT_LIMIT = 0)),
    isTo (exec (.sessionOpen open_ 7) down) down && isTo (exec (.sessionKeepalive (hdr 5 0)) down) down,
    linked.inTurn (hdr 5 0) && yes (exec (.sessionKeepalive (hdr 5 0)) linked) (fun t => decide (t.tx = [respMake linked 9 5 6 0 0 []] ∧ t.get R.TYREX_CTL_NEXT = 1)),
    yes (exec (.sessionClose (hdr 5 0)) linked) (fun t => decide (t.tx = [respMake linked 9 5 6 0 0 []] ∧ t.get R.TYREX_SESS_STATE = 0)),
    kept.hears (hdr 5 0) && decide (kept.tyrex.done = []) && isTo (exec (.sessionKeepalive (hdr 5 0)) kept) (kept.send (respMake linked 9 5 6 0 0 [])),
    linked.hears (hdr 5 64) && isTo (exec (.sessionKeepalive (hdr 5 64)) linked) linked,
    yes (exec (.sessionKeepalive (hdr 5 63)) linked) (fun t => decide ((smFind t.tyrex.held 63).isSome ∧ t.tx = [])),
    !(heard linked far ctlPorts) && isTo (exec (.sessionOpen far 7) linked) (linked.inc R.LINK_RX_DROP) && isTo (exec (.sessionKeepalive far) linked) (linked.inc R.LINK_RX_DROP),
    !(hdrGood linked (hdr 6 0)) && isTo (exec (.sessionKeepalive (hdr 6 0)) linked) (linked.inc R.TYREX_DROP),
    isTo (exec .sessionTimeout closed) closed, yes (exec .sessionTimeout linked) (fun t => decide (t.get R.TYREX_SESS_STATE = 0)) ]

theorem test_sessions : sessions.all id = true := by decide +kernel

/-- ControlRequestsAct. -/

def controlRequests : List Bool :=
  let h := hdr 5 0
  let irq : BitVec 32 := BitVec.ofNat 32 (pgIRQ * 0x1000 + 0x050)
  let bad (s : State) (op st : Nat) (o : Host.Outcome State Fault Refusal) := s.inTurn h && yes o (fun t => decide (t.tx = [respMake s 9 5 op 0 st []] ∧ t.get R.TYREX_CTL_NEXT = 1))
  let u := busWrite linked .host irq.toNat 9
  let v := (ctlWrites true irq.toNat 0 [9, 8] linked).2
  let kept (u : State) := decide (u.tyrex = linked.tyrex ∧ u.tx = linked.tx) && u.bit R.LINK_STAT_UP && !(u.bit R.TYREX_CTRL_LOCKED) &&
    [R.TYREX_SESS_STATE, R.TYREX_SESS_ID, R.TYREX_CTL_NEXT].all (fun r => decide (u.get r = linked.get r))
  let lock : BitVec 32 := BitVec.ofNat 32 (pgLOCK * 0x1000 + 0x040)
  let w := busWrite linked .host lock.toNat 1
  let small := linked.set R.TYREX_MAX_DGRAM 512
  let img : List (BitVec 8) := [0x54, 0x42, 0x4C, 0x49, 4] ++ List.replicate 59 0
  [ bad linked 1 3 (exec (.regRead h irq 0) linked), bad linked 1 3 (exec (.regRead h irq 257) linked), addrBad 2 && bad linked 1 4 (exec (.regRead h 2 1) linked),
    !(addrBad irq.toNat) && yes (exec (.regRead h irq 2) (linked.set R.IRQ_PIN_ENw 0x01020304 0 0))
      (fun t => decide (t.tx = [respMake linked 9 5 1 0 0 [1, 2, 3, 4, 0, 0, 0, 0]])),
    kept u && decide (writeRefusal linked irq.toNat 9 = none) && yes (exec (.regWrite h irq 9) linked)
      (fun t => decide (t.tx = [respMake linked 9 5 2 0 0 []] ∧ t.get R.IRQ_PIN_ENw 0 0 = 9)),
    kept w && decide (writeRefusal linked lock.toNat 1 = some 0xE01) && yes (exec (.regWrite h lock 1) linked)
      (fun t => decide (t.tx = [respMake linked 9 5 2 0 5 (beBytes 4 0xE01)])),
    addrBad 0x1000000 && bad linked 2 4 (exec (.regWrite h 0x1000000 9) linked), bad linked 3 3 (exec (.regWriteBlock h irq 2 true [9]) linked),
    kept v && yes (exec (.regWriteBlock h irq 2 true [9, 8]) linked) (fun t => decide (t.tx = [respMake linked 9 5 3 0 0 []] ∧ t.get R.IRQ_PIN_ENw 0 0 = 8)),
    decide (tableRegion linked 4 0x1000 1 = none) && yes (exec (.tableLoad h 0x1000 0 65 img) linked)
      (fun t => decide (t.get R.TYREX_TABLE_STAT = 1 ∧ t.tx = [respMake linked 9 5 4 0 0 []]) && t.tyrex.load.any (fun x => decide (x.got = 64))),
    yes (exec (.tableLoad h 0x1000 0 65 (img ++ [7])) linked) (fun t => decide (t.get R.TYREX_TABLE_STAT = 2 ∧ memBytes t.mem 0x1000 1 = [7])),
    yes (exec (.tableLoad h 0x1000 64 65 [7]) linked) (fun t => decide (t.tx = [respMake linked 9 5 4 0 5 (beBytes 4 0xC02)] ∧ t.get R.ERR_CODE pgTYREX = 0xC02)),
    bad linked 5 3 (exec (.attest h (List.replicate 31 0)) linked),
    yes (exec (.attest h (List.replicate 32 0)) linked) (fun t => decide (t.tx = [] ∧ t.sec.quotes = linked.sec.quotes + 1) && t.tyrex.quote.any (fun q => decide (q.1 = 0) && !q.2.2)),
    yes (exec (.attest h (List.replicate 32 0)) (linked.set R.SEC_STAT_ID_FAIL 1))
      (fun t => decide (t.tx = [respMake linked 9 5 5 0 5 (beBytes 4 0xA20)] ∧ t.get R.ERR_CODE pgSEC = 0xA20)),
    yes (exec .attestSigned { linked with tyrex := { linked.tyrex with quote := some (0, List.replicate 32 0, false) } })
      (fun t => decide (t.tyrex.quote = none ∧ t.tx.length = 1 ∧ t.sec.quotes = linked.sec.quotes) && decide (t.sec.quote.take 32 = List.replicate 32 0)),
    !(respFits small 1024) && bad small 1 3 (exec (.regRead h irq 256) small), isTo (exec .attestSigned linked) linked ]

theorem test_controlRequests : controlRequests.all id = true := by decide +kernel

/-- SendingKeepsToCreditAndAcks. -/

def sending : List Bool :=
  let h := hdr 5 0
  let hs : Hdr := { h with port := BitVec.ofNat 16 (linked.get R.TYREX_STREAM_PORT) }
  let cr := (hcSet (hcSet linked 1 { HodClass.init with pkts := [pkt 0 true, pkt 1 true], nextSeq := 2 }) 0 { HodClass.init with pkts := [pkt 0 false], nextSeq := 1 })
  let str := hcSet (linked.set R.TYREX_CREDIT_LIMIT 1) 3 { HodClass.init with pkts := [pkt 0 false], nextSeq := 1 }
  [ hdrGood linked hs && heard linked hs streamPorts && linked.calm && isTo (exec (.credit hs 0x80000000) linked) linked,
    !(heard linked h streamPorts) && isTo (exec (.credit h 0x7FFFFFFF) linked) (linked.inc R.LINK_RX_DROP),
    yes (exec (.credit hs 0x7FFFFFFF) linked) (fun t => decide (t.get R.TYREX_CREDIT_LIMIT = 0x7FFFFFFF)),
    !(ackGood cr 1 3 0) && isTo (exec (.tyrexAck h 1 3 0) cr) (cr.inc R.TYREX_DROP),
    ackGood cr 1 1 0 && decide (cr.hod.gaps = []) && yes (exec (.tyrexAck h 1 1 0) cr) (fun t => decide ((hc t 1).pkts.map (fun (p : Pkt) => p.seq) = [1])),
    ackGood cr 1 0 1 && yes (exec (.tyrexAck h 1 0 1) cr) (fun t => decide ((hc t 1).pkts.map (fun (p : Pkt) => p.acked) = [false, true])),
    isTo (exec (.tyrexNack h 1 []) cr) (cr.inc R.TYREX_DROP), isTo (exec (.tyrexNack h 1 (List.replicate 33 (0, 0))) cr) (cr.inc R.TYREX_DROP),
    yes (exec (.tyrexNack h 1 (List.replicate 32 (1, 1))) cr) (fun t => decide ((hc t 1).pkts.map (fun (p : Pkt) => p.again) = [false, true])),
    !(mayStream up) && isTo (exec (.streamSend 1) up) up && isTo (exec .eventSend up) up && isTo (exec (.rtoExpire 3 7) up) up,
    mayStream cr && decide (sendNext cr 0 = some (pkt 0 false)) && yes (exec .eventSend cr) (fun t => decide (t.tx.length = 1 ∧ t.get R.TYREX_Cn_SENT 0 0 = 1)),
    mayStream str && [0, 1, 2].all (fun m => decide (sendNext str m = none)) && decide (sendNext str 3 = some (pkt 0 false)) &&
      creditFor str (8 + min (pktBytes 3 (pkt 0 false)).length (str.get R.TYREX_MAX_DGRAM - 24)) && yes (exec (.streamSend 3) str) (fun t => decide (t.tx.length = 1)),
    !(creditFor (str.set R.TYREX_CREDIT_LIMIT 0) 9) && isTo (exec (.streamSend 3) (str.set R.TYREX_CREDIT_LIMIT 0)) (str.set R.TYREX_CREDIT_LIMIT 0),
    isTo (exec (.streamSend 3) (hcSet cr 3 (hc str 3))) (hcSet cr 3 (hc str 3)),
    yes (exec (.rtoExpire 1 1) cr) (fun t => decide ((hc t 1).pkts.map (fun (p : Pkt) => p.again) = [false, true])) ]

theorem test_sending : sending.all id = true := by decide +kernel

def calibrationRun (stages : List CalStage) (phase : CalPhase) (lines : Nat) : CalRun :=
  { gap := false, startup := false, slices := [], bar := 0, stages := stages, phase := phase, lines := lines, passes := 0, from_ := 0, corr0 := [],
    gain0 := none, at_ := 0, barsAt := none, wins := [], olines := [], lead := none, results := [] }

def withRun (s : State) (r : CalRun) : State := { s with cal := { s.cal with run := some r } }

/-- CalibrationRunsByStages. -/

def calibrationStages : List Bool :=
  let hand := (withSlice (inMode fed 3) 0 (fun x => { x with bring := .ready })).setB R.CAL_CTRL_SHUT_AUTO false
  let req := { hand.set R.CAL_REQ 1 with cal := { hand.cal with pendAfe := 1 } }
  let at_ (st : List CalStage) (ph : CalPhase) (n : Nat) := withRun hand (calibrationRun st ph n)
  let short := at_ [.reticle] .run 0
  let ret := withRun hand { calibrationRun [.reticle] .run 0 with at_ := 1354667, barsAt := some 0 }
  let ended := withRun (up.set R.LOCK_STAT_n_OWNER 3 0 23) (calibrationRun [] .run 0)
  [ (inMode up 1).calm && isTo (exec .calRunStart (inMode up 1)) (inMode up 1),
    up.calm && up.takes .host pgCAL 0x044 && isTo (exec (.calCmdTileReady .host) up) up && isTo (exec .calDarkWait up) up && isTo (exec .calReticleRunDone up) up,
    req.calm && decide ((lockAttempt req 23 3).1 % 4 ≠ 0 ∧ readyOf req req.cal.pendAfe ≠ []) && yes (exec .calRunStart req)
      (fun t => decide (t.get R.CAL_STAT_RUNNING = 1) && t.cal.run.any (fun r => decide (r.stages.head? = some .tileIn))),
    (at_ [.tileIn, .trim] .wait 0).calmRun && (at_ [.tileIn, .trim] .wait 0).takes .host pgCAL 0x044 &&
      yes (exec (.calCmdTileReady .host) (at_ [.tileIn, .trim] .wait 0)) (fun t => t.cal.run.any (fun r => decide (r.stages = [.trim] ∧ r.phase = .wait))),
    isTo (exec .calDarkWait (at_ [.dark] .wait 0)) (at_ [.dark] .run 0), isTo (exec .calIllumSettle (at_ [.check] .wait 0)) (at_ [.check] .run 0),
    isTo (exec .calCaptureDone (at_ [.white, .dark] .run 255)) (at_ [.white, .dark] .run 255),
    yes (exec .calCaptureDone (at_ [.white, .dark] .run 256)) (fun t => t.cal.run.any (fun r => decide (r.stages = [.dark] ∧ r.phase = .wait ∧ r.lines = 0))),
    isTo (exec .calReticleRunDone short) short,
    ret.calmRun && decide ((ret.axis (leadOf ret 0)).move = none) && yes (exec .calReticleRunDone ret) (fun t => t.cal.run.any (fun r => decide (r.phase = .stop))),
    ended.calmRun && decide (ended.slices = []) && yes (exec .calRunEnd ended) (fun t => t.cal.run.isNone && decide (t.get R.LOCK_STAT_n_OWNER 0 23 = 0)) ]

theorem test_calibrationStages : calibrationStages.all id = true := by decide +kernel

/-- CalibrationRecordsAreKept. -/

def calibrationRecords : List Bool :=
  let pend := up.set R.CAL_PENDING 16
  let told : State := { pend with cal := { pend.cal with overdue := 16 } }
  let st : State := { up with cal := { up.cal with stores := [{ kind := 4, slice := 0xFF, bytes := [1, 2], tried := false }] } }
  let full := st.set R.SPARE_NOR_SPARES_LEFT 0
  let last : State := { full with cal := { full.cal with stores := [{ kind := 4, slice := 0xFF, bytes := [1, 2], tried := true }] } }
  [ isTo (exec (.calOverdue 4) up) up, isTo (exec (.calOverdue 4) told) told,
    decide (pend.get R.CAL_OVERDUE_S ≠ 0) && yes (exec (.calOverdue 4) pend) (fun t => decide (t.get R.CAL_STAT_OVERDUE = 1 ∧ t.outbox.length = 1)),
    isTo (exec (.calRecordStore true) up) up,
    decide (st.cal.stores ≠ []) && yes (exec (.calRecordStore true) st) (fun t => decide (smFind t.cal.nor (2 * 159) = some [1, 2] ∧ t.cal.stores = [])),
    yes (exec (.calRecordStore false) full) (fun t => decide (t.get R.CAL_STAT_UNSTORED = 0 ∧ t.cal.nor = []) && t.cal.stores.all (fun x => x.tried) && decide (t.cal.stores.length = 1)),
    yes (exec (.calRecordStore false) last) (fun t => decide (t.get R.CAL_STAT_UNSTORED = 1 ∧ t.cal.nor = [] ∧ t.cal.stores = [])) ]

theorem test_calibrationRecords : calibrationRecords.all id = true := by decide +kernel

/-- MonitorsAndHousekeeping. -/

def monitors : List Bool :=
  let t25 := List.replicate 32 (2500 : Int)
  let hot := (12500 : Int) :: List.replicate 31 2500
  let ref_ := (up.setB R.HK_CTRL_REF_EN true).setB R.HK_REF_READY false
  let run := (up.setB R.HK_CTRL_RUN true).setB R.HK_REF_READY true
  let x : HkEntry := { e := 15, src := 0, avg := 1, fmt := 0 }
  let y : HkEntry := { x with e := 14 }
  let conv : State := { run with hk := { run.hk with run := some [x, y] } }
  let urg : State := { run with hk := { run.hk with urg := some { x with avg := 0 } } }
  let off : State := { urg.setB R.HK_REF_READY false with now := 1000, hk := { urg.hk with offAt := some 995 } }
  [ thermOk t25 && up.calm && decide (up.cal.seen = 0) && !up.pwr.cooling && !((hottest (thermalRead up t25)).any (fun z => decide ((12500 : Int) ≤ z.2))) &&
      yes (exec (.monThermalRead t25) up) (fun t => decide (t.getI R.MON_Ti 0 31 = 2500 ∧ t.get R.MON_Ti_VALID 0 31 = 1)),
    thermOk hot && (hottest (thermalRead up hot)).any (fun z => decide ((12500 : Int) ≤ z.2)) &&
      yes (exec (.monThermalRead hot) up) (fun t => decide (t.get R.RST_CAUSE = 3 ∧ t.pwr.boot = .held) && t.pwr.cooling),
    yes (exec (.monVoltageRead (List.replicate 15 0 ++ [65535])) up) (fun t => decide (t.get R.MON_Vv 0 15 = 65535)),
    yes (exec (.monProcessRead [0, 1, 2, 3, 4, 1023]) up) (fun t => decide (t.get R.MON_PMc 0 5 = 1023)),
    isTo (exec .hkRefReady (up.setB R.HK_CTRL_REF_EN false)) (up.setB R.HK_CTRL_REF_EN false),
    yes (exec .hkRefReady ref_) (fun t => decide (t.get R.HK_REF_READY = 1)),
    isTo (exec .hkRunStart (up.setB R.HK_CTRL_RUN false)) (up.setB R.HK_CTRL_RUN false),
    isTo (exec .hkRunStart (run.setB R.HK_REF_READY false)) { run.setB R.HK_REF_READY false with hk := { run.hk with due := true } },
    yes (exec .hkRunStart (run.set R.HK_SEQ_EN 0x8000)) (fun t => decide (t.hk.run.map (fun l => l.map (fun (z : HkEntry) => z.e)) = some [15])),
    yes (exec .hkRunStart conv) (fun t => decide (t.get R.HK_SEQ_LATE = 1 ∧ t.hk.run = some [x, y])),
    codesOk [0, 65535] && conv.calm && isTo (exec (.hkEntryDone 14 [1, 2] [] false) conv) conv,
    [1, 4].all (fun c => decide (x.range.1 < c ∧ c < x.range.2)) && yes (exec (.hkEntryDone 15 [1, 4] [] false) conv)
      (fun t => decide (t.hk.run = some [y] ∧ t.get R.HK_RESe 0 15 = toTwos 16 (roundDiv 5 2))),
    isTo (exec (.hkEntryStale 15) up) ((up.set R.HK_RESe_STALE 1 0 15).set R.HK_RESe_VALID 0 0 15),
    urg.takes .host pgHK 0x048 && isTo (exec (.hkUrgCmd .host) urg) (urg.inc R.HK_URG_LOST),
    up.takes .host pgHK 0x048 && yes (exec (.hkUrgCmd .host) up) (fun t => t.hk.urg.isSome),
    codeOk 65535 && isTo (exec (.hkUrgDone 65535 0) up) up,
    hkConverts urg 0 && yes (exec (.hkUrgDone (-1) 0) urg) (fun t => decide (t.hk.urg = none ∧ t.get R.HK_URG_RESULT = 0)),
    hkConverts off 5 && yes (exec (.hkUrgDone 3 5) off) (fun t => decide (t.hk.urg = none)), !(hkConverts off 4) && isTo (exec (.hkUrgDone 3 4) off) off ]

theorem test_monitors : monitors.all id = true := by decide +kernel

/-- BridgesLanesAndRepair. -/

def repairs : List Bool :=
  let br (f p : Nat) : State := { up with hk := { up.hk with bridges := [(1, { Bridge.init with on := true, fails := f, passes := p })] } }
  let lane (l : List Nat) : State := withSlice { up with fil := { up.fil with missed := l, visit := [(0, 65535)] } } 0 (fun x => { x with contributing := true })
  let shd := up.set R.TIMING_SHD_BASE_LO 0x1000
  let bad := retestBegin (up.set R.MON_T_FAILED 0x80000000)
  let twice : State := { bad with fil := { bad.fil with fails := [(381, 2)] } }
  [ !(up.bridge 1).on && isTo (exec (.bridgeWireTest 1 true false false) up) up,
    yes (exec (.bridgeWireTest 1 false false false) ((br 0 2).set R.HK_BRb_STAT_BROKEN 1 0 1)) (fun t => decide (t.get R.HK_BRb_STAT_BROKEN 0 1 = 0)),
    yes (exec (.bridgeWireTest 1 false false true) (br 1 0)) (fun t => decide (t.get R.HK_BRb_STAT_BROKEN 0 1 = 1 ∧ t.get R.HK_BRb_STAT_WIRE 0 1 = 3)),
    isTo (exec (.laneVisitEnd 5 true) (up.set R.SPARE_LANEc_STATE 2 0 5)) (up.set R.SPARE_LANEc_STATE 2 0 5),
    !(laneVisited up 5) && isTo (exec (.laneVisitEnd 5 true) up) up, decide (laneState (lane []) 0 = 0) && laneVisited (lane []) 0 && yes (exec (.laneVisitEnd 0 false) (lane [0])) (fun t => decide (0 ∉ t.fil.missed)),
    decide (0 ∉ (lane [0]).fil.checked ∧ sliceLane (lane [0]) 0 = 0 ∧ (lane [0]).get R.SPARE_LANEc_SLICE 0 0 = 0) && ((lane [0]).slice 0).contributing &&
      yes (exec (.laneVisitEnd 0 true) (lane [0])) (fun t => decide (sliceLane t 0 = 1 ∧ t.get R.SPARE_LANEc_PENDING 0 0 = 1)),
    yes (exec (.laneVisitEnd 0 true) (lane [3])) (fun t => decide (laneState t 0 = 2)),
    isTo (exec (.sramUeRewrite 23 4 12287) up) ((up.filEvent 4 23 (locSeg 23) 0).raise pgSPARE 3),
    yes (exec (.sramUeRewrite 0 0 1) { shd with mem := memPutBytes [] 0x1004 [1, 2, 3, 4] }) (fun t => decide (smGet shadeUnity (t.slice 0).shading 1 = 0x04030201)),
    yes (exec (.sramRepairDone 255 15 0x800000) up) (fun t => decide (t.get R.SPARE_SRAM_REPAIRS = 255 ∧ sliceLane t 23 = 3 ∧ sliceLane t 0 = 0)),
    isTo (exec (.fillerRetestDone (.sensor 31) true) up) up,
    bad.bit R.SPARE_CTRL_RETEST_EN && sensorFailed bad 31 && decide (381 ∈ bad.fil.retest) && (retestDrop bad).fil.retest.isEmpty && yes (exec (.fillerRetestDone (.sensor 31) true) bad) (fun t => !(sensorFailed t 31)),
    yes (exec (.fillerRetestDone (.sensor 31) false) twice) (fun t => decide (381 ∈ t.fil.retired)),
    yes (exec (.fillerRetestDone (.sensor 31) false) bad) (fun t => decide (381 ∉ t.fil.retired)) ]

theorem test_repairs : repairs.all id = true := by decide +kernel

/-- FirmwareUpdateByCommand. -/

def firmware : List Bool :=
  let len (n : Nat) := up.set R.SEC_UPD_LEN n
  let at_ (st rcvd n : Nat) : State := { (up.set R.SEC_UPD_STAT st).set R.SEC_UPD_RCVD rcvd with sec := { up.sec with len := n } }
  let trial := (up.set R.SEC_BOOT_TRIAL 1).set R.SEC_FW_SVN 5
  [ up.takes .host pgSEC 0x084 && isTo (exec (.secUpdBegin .host) (len 32768)) (len 32768), isTo (exec (.secUpdBegin .host) (len 8388609)) (len 8388609),
    yes (exec (.secUpdBegin .host) (len 32769)) (fun t => decide (t.get R.SEC_UPD_STAT = 1 ∧ t.sec.len = 32769)),
    yes (exec (.secUpdBegin .host) (len 8388608)) (fun t => decide (t.sec.len = 8388608)),
    yes (exec (.secUpdFinish .host) (at_ 1 40000 40000)) (fun t => decide (t.get R.SEC_UPD_STAT = 2)),
    isTo (exec (.secUpdFinish .host) (at_ 1 39996 40000)) ((at_ 1 39996 40000).err pgSEC 0xA11),
    yes (exec (.secUpdAbort .host) (at_ 2 40000 40000)) (fun t => decide (t.get R.SEC_UPD_STAT = 0)), isTo (exec (.secUpdAbort .host) up) up,
    isTo (exec (.secUpdActivate .host) up) (up.err pgSEC 0xA12),
    yes (exec (.secUpdActivate .host) (at_ 4 0 0)) (fun t => decide (t.get R.RST_CAUSE = 6 ∧ t.pwr.boot = .held ∧ t.sec.bootRec.attempts = 0)),
    isTo (exec (.secUpdConfirm .host 64) up) up,
    yes (exec (.secUpdConfirm .host 4) trial) (fun t => decide (t.get R.SEC_FUSE_CNT = 4 ∧ t.get R.SEC_STAT_FUSE_FAIL = 1 ∧ t.get R.SEC_BOOT_TRIAL = 0)),
    up.takes .host pgSEC 0x08C && isTo (exec (.secUpdData .host 9) up) up, isTo (exec (.secUpdData .host 9) (at_ 1 40000 40000)) ((at_ 1 40000 40000).err pgSEC 0xA10),
    yes (exec (.secUpdData .host 9) (at_ 1 39997 40000)) (fun t => decide (t.get R.SEC_UPD_RCVD = 40000 ∧ t.sec.words = [9])),
    isTo (exec (.secUpdCheckDone false) up) up,
    yes (exec (.secUpdCheckDone true) (at_ 3 0 0)) (fun t => decide (t.get R.SEC_UPD_STAT = 5 ∧ t.sec.slotA = up.sec.slotA ∧ t.sec.slotB = up.sec.slotB)),
    yes (exec (.secUpdCheckDone true) (at_ 2 0 0)) (fun t => decide (t.get R.SEC_UPD_STAT = 5 ∧ t.get R.SEC_UPD_CAUSE = 9 ∧ t.get R.ERR_CODE pgSEC = 0xA09)) ]

theorem test_firmware : firmware.all id = true := by decide +kernel

/-- KeysAndDebugAccess. -/

def keysDebug : List Bool :=
  let perm := up.set R.SEC_DBG_STAT_PERM 4
  let may := up.set R.SEC_DBG_STAT_PERM 1
  let busy := may.setB R.DBG_STAT_BUSY true
  let at_ (a : Nat) := may.set64 R.DBG_ADDR_LO R.DBG_ADDR_HI a
  [ up.takes .host pgSEC 0x084 && isTo (exec (.ownerProv .host) up) up,
    decide (perm.sec.owner = none) && yes (exec (.ownerProv .host) perm) (fun t => t.sec.owner.isSome && decide (t.get R.SEC_STAT_OWNER_SET = 1)),
    up.takes .host pgSEC 0x0C0 && decide (dbgCause up = 1) && yes (exec (.dbgUnlock .host) up) (fun t => decide (t.get R.SEC_DBG_STAT_CAUSE = 1 ∧ t.sec.attempts = 1)),
    yes (exec (.dbgRelock .host) (perm.set R.LOCK_STAT_n_OWNER 4 0 31)) (fun t => decide (t.get R.SEC_DBG_STAT_PERM = 0 ∧ t.get R.LOCK_STAT_n_OWNER 0 31 = 0)),
    busy.takes .host pgDBG 0x048 && isTo (exec (.dbgCmdRead .host) busy) busy && isTo (exec (.dbgCmdWrite .host) busy) busy,
    (at_ dramEnd).takes .host pgDBG 0x048 && isTo (exec (.dbgCmdRead .host) (at_ dramEnd)) ((at_ dramEnd).set R.DBG_STAT_ADDR_ERR 1),
    yes (exec (.dbgCmdRead .host) (at_ (dramEnd - 64))) (fun t => decide (t.mc.dbg = some (false, dramEnd - 64, []))),
    yes (exec (.dbgCmdWrite .host) (at_ (dramEnd - 64))) (fun t => decide (t.mc.dbg = some (true, dramEnd - 64, List.replicate 64 0))) ]

theorem test_keysDebug : keysDebug.all id = true := by decide +kernel

/-- PowerPathAndConverter. -/

def powerPath : List Bool :=
  let pd (st f g : Nat) (i l : Bool) : State := { up with pd := { up.pd with state := st, fault := f, grant := g, input := i, limit := l } }
  let aux (s : State) : State := { s with pd := { s.pd with auxPresent := true, prio := true } }
  [ yes (exec .pdInputRise up) (fun t => decide (t.pd.state = 1)), up.calm && !up.pd.input && isTo (exec .pdInputFall up) up,
    yes (exec .pdInputFall (pd 3 0 8 true true)) (fun t => decide (t.pd.state = 6 ∧ t.pd.fault = 3 ∧ t.pd.grant = 0)),
    yes (exec .pdInputFall { pd 4 0 8 true true with pd := { (pd 4 0 8 true true).pd with auxActive := true } }) (fun t => decide (t.pd.state = 4 ∧ t.pd.fault = 0)),
    isTo (exec .pdInrushDone up) up, isTo (exec .pdInrushDone (pd 1 0 8 true false)) (pd 1 0 8 true true),
    (pd 1 0 8 true false).calm && yes (exec .pdInrushTimeout (pd 1 0 8 true false)) (fun t => decide (t.pd.fault = 1 ∧ t.pd.state = 5 ∧ t.pd.faults = 1)),
    isTo (exec .pdInrushTimeout (pd 2 0 8 true false)) (pd 2 0 8 true false),
    yes (exec .pdCurrentLimit (pd 3 0 8 true true)) (fun t => decide (t.pd.fault = 2 ∧ t.pd.state = 5)), isTo (exec .pdCurrentLimit (pd 4 0 8 true true)) (pd 4 0 8 true true),
    isTo (exec .pdRetry (pd 5 3 8 true true)) { pd 5 3 8 true false with pd := { (pd 5 3 8 true false).pd with state := 1 } },
    isTo (exec .pdRetry (pd 5 4 8 true true)) (pd 5 4 8 true true),
    isTo (exec .converterStart (pd 1 0 4 true true)) (pd 2 0 4 true true), isTo (exec .converterStart (pd 1 0 3 true true)) (pd 1 0 3 true true),
    yes (exec .converterStart (aux (pd 6 0 0 false false))) (fun t => decide (t.pd.state = 2) && t.pd.auxActive),
    isTo (exec (.converterFault true) (pd 1 0 4 true true)) (pd 1 0 4 true true),
    yes (exec (.converterFault true) (pd 2 0 4 true true)) (fun t => decide (t.pd.fault = 5 ∧ t.pd.state = 5)),
    yes (exec (.converterFault false) (pd 4 0 4 true true)) (fun t => decide (t.pd.fault = 4)),
    isTo (exec .converterRestart (pd 5 5 4 true true)) (pd 2 5 4 true true), isTo (exec .converterRestart (pd 5 3 4 true true)) (pd 5 3 4 true true),
    decide (up.slices = []) && yes (exec (.pdStatusFrame 0xFFFF 0 true) up) (fun t => decide (t.get R.POE_PD_VIN_MV = 65535 ∧ t.get R.POE_BARRIER_OK = 1)),
    isTo (exec .barrierFail (up.setB R.POE_BARRIER_OK false)) (up.setB R.POE_BARRIER_OK false),
    yes (exec .barrierFail (up.setB R.POE_BARRIER_OK true)) (fun t => decide (t.get R.POE_BARRIER_OK = 0)) ]

theorem test_powerPath : powerPath.all id = true := by decide +kernel

/-- ResetsAndClocks. -/

def resetsClocks : List Bool :=
  let held := State.reset
  let good : State := { held with pwr := { held.pwr with rails := 0xFFF, xtal := true } }
  let low : State := { good with pwr := { good.pwr with rstL := true } }
  let lock := (up.set R.CLK_LOCKED 2047).setB R.LINK_STAT_UP true
  [ yes (exec .railsGood up) (fun t => decide (t.get R.PWR_RAIL_GOOD = 0xFFF ∧ t.pwr.boot = .done)) && isTo (exec .resetRelease up) up,
    !(domHeld held) && yes (exec .railsGood held) (fun t => decide (t.get R.PWR_RAIL_GOOD = 0xFFF ∧ t.pwr.boot = .clocks)),
    yes (exec .resetRelease good) (fun t => decide (t.get R.PWR_RAIL_GOOD = 0xFFF ∧ t.get R.CLK_AON_XTAL = 1 ∧ t.pwr.boot = .clocks)),
    isTo (exec .resetRelease low) low, isTo (exec .railsGood low) low, isTo (exec .resetRelease held) held,
    yes (exec .rstLRelease low) (fun t => decide (t.pwr.boot = .clocks ∧ t.get R.PWR_RAIL_GOOD = 0xFFF) && !t.pwr.rstL),
    yes (exec (.railFail 0) up) (fun t => decide (t.get R.RST_CAUSE = 1 ∧ t.pwr.boot = .held ∧ t.mem = [])),
    yes (exec (.railFail 11) up) (fun t => t.pwr.aonLost), yes (exec .rstLAssert up) (fun t => decide (t.get R.RST_CAUSE = 2) && t.pwr.rstL),
    up.calm && !(pllLocked up 10) && isTo (exec (.pllLockLoss 10) up) up,
    lock.calm && yes (exec (.pllLockLoss 1) lock) (fun t => decide (t.get R.RST_CAUSE = 5 ∧ t.pwr.boot = .held)),
    yes (exec (.pllLockLoss 2) lock) (fun t => decide (t.get R.LINK_STAT_UP = 0) && bitOf (t.get R.CLK_LOST) 2),
    decide (lock.rol.run = none) && (List.range 6).all (fun a => !(homing lock a) && (movingNeg lock a).isNone) && yes (exec (.pllLockLoss 3) lock) (fun t => !(pllLocked t 3)),
    yes (exec (.pllLockLoss 4) lock) (fun t => decide (t.get R.CLK_PTP_FALLBACK = 1)), yes (exec (.pllLockLoss 10) lock) (fun t => bitOf t.pwr.pixBad 5),
    !(bitOf (pllMask { up with variant := .sq7244 }) 10) && isTo (exec (.pllLocked { pll := 10 }) { up with variant := .sq7244 }) { up with variant := .sq7244 },
    bitOf (pllMask up) 10 && yes (exec (.pllLocked { pll := 10 }) up) (fun t => pllLocked t 10),
    isTo (exec .aonCrystalStable (up.setB R.CLK_AON_SRC true)) (up.setB R.CLK_AON_SRC true),
    yes (exec .aonCrystalStable (up.setB R.CLK_AON_SRC false)) (fun t => t.pwr.xtal && decide (t.get R.CLK_AON_XTAL = 1)),
    yes (exec .aonCrystalStable held) (fun t => t.pwr.xtal && decide (t.regs = held.regs)),
    yes (exec (.cpuWatchdog 0) up) (fun t => t.tyrex.image.isNone && t.pwr.cpu0.isSome),
    yes (exec (.cpuWatchdog 1) (up.set R.LOCK_STAT_n_OWNER 3 0 31)) (fun t => decide (t.get R.RST_WDOG_CPU1_CNT = 1 ∧ t.get R.LOCK_STAT_n_OWNER 0 31 = 0)) ]

theorem test_resetsClocks : resetsClocks.all id = true := by decide +kernel

/-- DomainsAndCrossings. -/

def domains : List Bool :=
  let wait (d : Nat) : State := { up with domWait := [d] }
  let on := up.set R.CLK_LOCKED 2047
  let x (s : State) (p : Bool) : State := { s with pwr := { s.pwr with xings := [(13, p)] } }
  [ up.calm && isTo (exec (.domainPowerGood 79) up) up, yes (exec (.domainPowerGood 79) (wait 79)) (fun t => decide (t.domWait = [] ∧ t.mem = [])),
    isTo (exec (.domainFault 67) up) up, yes (exec (.domainFault 47) (wait 47)) (fun t => decide (sliceLane t 23 = 3 ∧ 47 ∈ t.domFailed)),
    yes (exec (.domainFault 59) (wait 59)) (fun t => decide (laneState t 5 = 2)),
    yes (exec (.domainFault 66) (wait 66)) (fun t => decide (t.get R.ERR_CODE pgSYS = 0x2E ∧ t.get R.ERR_INFO pgSYS = 66)),
    yes (exec (.domainFault 79) (wait 79)) (fun t => bitOf (t.get R.PWR_DOM_FAULT_w 0 2) 15),
    yes (exec (.domainFault 67) (wait 67)) (fun t => decide (t.get R.RST_CAUSE = 7 ∧ t.pwr.boot = .held)),
    yes (exec (.domainFault 78) (wait 78)) (fun t => decide (t.get R.RST_CAUSE = 7)),
    isTo (exec (.xingEvent 13 13 true) up) up, isTo (exec (.xingEvent 0 13 false) up) (x up false), isTo (exec (.xingEvent 0 13 false) (x up false)) (x up true),
    yes (exec (.xingEvent 0 13 true) (x up false)) (fun t => decide (t.get R.CLK_XING_OVR_CNT = 1 ∧ t.get R.CLK_XING_OVR_ID = 13)),
    isTo (exec (.xingTransferDone 0 13) (x up false)) (x up false),
    clockRuns on 0 && clockRuns on 13 && isTo (exec (.xingTransferDone 0 13) (x on false)) on, isTo (exec (.xingTransferDone 0 13) (x on true)) (x on false) ]

theorem test_domains : domains.all id = true := by decide +kernel

/-- QueueOfCommandsDrains, StepKeepsTheQueueSane. -/

def queues : List Bool :=
  let s := { up with pending := [.wearSave, .linkDown, .pdInputRise] }
  [ s.sane && (stepsTo 3 s).any (fun t => decide (t.pending = [] ∧ t.now = s.now)) && (stepsTo 5 s).any (fun t => decide (t.pending = [] ∧ t.now = s.now + 2)),
    s.sane && yes (step s) (fun t => t.sane && decide (t.pending = [.linkDown, .pdInputRise] ∧ t.now = 0)) ]

theorem test_queues : queues.all id = true := by decide +kernel

/-- ShutOutAgentsChangeNothing. -/

def shutOut : List Bool :=
  let none_ := up.set R.SEC_DBG_STAT_PERM 0
  [ none_.shutOut .jtag && isTo (exec (.registerWrite .jtag (at_ pgIRQ 0x050) 9) none_) none_ && isTo (exec (.blkFreeze .jtag 4095 true) none_) none_ &&
      isTo (exec (.pbLiveEditWrite .jtag 0 true 0 65535) none_) none_,
    isTo (exec (.lockAcquire .jtag 0) none_) (none_.send (.word .jtag 0)), isTo (exec (.jtagScan (.regRead (at_ pgSYS 0x040))) none_) none_,
    isTo (exec (.jtagScan (.regWrite (at_ pgIRQ 0x050) 9)) none_) none_ ]

theorem test_shutOut : shutOut.all id = true := by decide +kernel

/-- EveryCommandIsServed: one term for each check of `Instr.wf` that breaks it, with the name under which it is refused. -/

def illFormed : List Bool :=
  let tap : TapIn := { clamp := none, zest := none, selfCheck := none, codes := [] }
  let lane : LaneBad := { slice := 0, row := 0, block := 0, check := true }
  let req (i : Nat) : ArbReq := { input := i, write := false, addr := 0, bytes := 64, waitNs := 0 }
  let no (i : Instr) (m : String) : Bool := !i.wf && refusedAs (exec i up) m
  let lines (taps : List (Nat × List TapIn)) (l : List LaneBad) : Bool := no (.lineJudged false taps { lanes := l }) "LINE_JUDGED"
  let mon := List.replicate 31 (0 : Int)
  [ no (.pbLiveEditWrite .host 0 false 0 65536) "PB_LIVE_EDIT_WRITE", no (.supSenseAverage 0 []) "SUP_SENSE_AVERAGE",
    lines [(24, [])] [], lines [(1, []), (0, [])] [], lines [(0, []), (0, [])] [], lines [(0, List.replicate 11 tap)] [],
    lines [(0, [{ tap with codes := [(16384, false)] }])] [], lines [(0, [{ tap with clamp := some (-1) }])] [],
    lines [(0, [{ tap with clamp := some 16384 }])] [], lines [] [{ lane with slice := 24 }], lines [] [{ lane with row := 5 }],
    lines [] [{ lane with block := 48 }], lines [] [{ lane with shade := some 256 }], no (.shadowVisitEnd 0 0 65536 0) "SHADOW_VISIT_END", no (.shadowVisitEnd 0 0 (-32769) 0) "SHADOW_VISIT_END",
    no (.scrubRead [⟨2, false⟩] false) "SCRUB_READ", no (.debugAccessDone [⟨1, true⟩, ⟨0, true⟩]) "DEBUG_ACCESS_DONE",
    no (.dramTransactionDone [⟨5, true⟩, ⟨5, false⟩]) "DRAM_TRANSACTION_DONE", no (.arbRound [req 14]) "ARB_ROUND", no (.arbRound [req 3, req 3]) "ARB_ROUND", no (.hodPacketWrite 0 256) "HOD_PACKET_WRITE",
    no (.hodTailHoldExpire 0 256) "HOD_TAIL_HOLD_EXPIRE", no (.hodPacketCommit 0 256) "HOD_PACKET_COMMIT", no (.hodBadCommit 0 256) "HOD_BAD_COMMIT",
    no (.monThermalRead mon) "MON_THERMAL_READ", no (.monThermalRead (32768 :: mon)) "MON_THERMAL_READ", no (.monThermalRead (-32769 :: mon)) "MON_THERMAL_READ",
    no (.monVoltageRead []) "MON_VOLTAGE_READ", no (.monVoltageRead (65536 :: List.replicate 15 0)) "MON_VOLTAGE_READ",
    no (.monProcessRead []) "MON_PROCESS_READ", no (.monProcessRead [0, 0, 0, 0, 0, 1024]) "MON_PROCESS_READ",
    no (.hkEntryDone 0 (List.replicate 129 0) [] false) "HK_ENTRY_DONE", no (.hkEntryDone 0 [] [65536] false) "HK_ENTRY_DONE",
    no (.hkUrgDone (-32769) 0) "HK_URG_DONE", no (.blkSoftReset .host 4096) "BLK_SOFT_RESET", no (.softResetDone 4096) "SOFT_RESET_DONE",
    no (.blkFreeze .host 4096 true) "BLK_FREEZE", no (.blkCntClear .host 4096) "BLK_CNT_CLEAR", no (.blkErrClear .host 4096) "BLK_ERR_CLEAR",
    no (.irqRawClear 4096 0 0) "IRQ_RAW_CLEAR", no (.irqSet .host 4096 1) "IRQ_SET", no (.irqEvtHoldoffEnd 4096) "IRQ_EVT_HOLDOFF_END",
    no (.shadowCtrlHold 4096 true) "SHADOW_CTRL_HOLD", no (.shadowCtrlCommit 4096) "SHADOW_CTRL_COMMIT", no (.shadowCtrlDiscard 4096) "SHADOW_CTRL_DISCARD" ]

theorem test_illFormed : illFormed.all id = true := by decide +kernel

/-- The table gives its rows no bits, so no word spells a command. -/

def words : List Bool :=
  [ decide (decodeTableWord 32 0 = none), decide (up.withFetchWord 32 0 = up), isTo (step up) { up with now := 1 } ]

theorem test_words : words.all id = true := by decide +kernel

/-- The SHAKE256 example of FIPS 202 over no message, and sample 4 of NIST SP 800-185 for KMAC256: their first eight bytes. -/
theorem test_shake256 : shake256 8 [] = [0x46, 0xB9, 0xDD, 0x2B, 0x0B, 0xA8, 0x8D, 0x13] := by decide +kernel

theorem test_kmac256 : (kmac256 ((List.range 32).map (fun i => BitVec.ofNat 8 (0x40 + i))) "My Tagged Application" 64 [0, 1, 2, 3]).take 8 =
    [0x20, 0xC5, 0x70, 0xC3, 0x13, 0x46, 0xF7, 0x03] := by decide +kernel

end Sys2Proof.Tests
end

section
/-! SUPPORT. What a step can do with the queue, the time and the variant, and the statements about whole runs (StepKeepsTheQueueSane,
QueueOfCommandsDrains, ResetHoldsTableValues). -/
namespace Sys2Proof.Machine
open Sys2Proof

/-- Queue, time and variant stand as they did: what every effect of a command leaves alone. -/
def SameFrame (s t : State) : Prop := t.pending = s.pending ∧ t.now = s.now ∧ t.variant = s.variant

theorem SameFrame.rfl {s : State} : SameFrame s s := ⟨.refl _, .refl _, .refl _⟩

theorem SameFrame.trans {s t u : State} (h : SameFrame s t) (g : SameFrame t u) : SameFrame s u :=
  ⟨g.1.trans h.1, g.2.1.trans h.2.1, g.2.2.trans h.2.2⟩

theorem SameFrame.ite {s t u : State} {p : Prop} [Decidable p] (h : SameFrame s t) (g : SameFrame s u) : SameFrame s (if p then t else u) := by
  split <;> assumption

theorem sameFrame_each {α : Type} (f : State → α → State) (hf : ∀ s a, SameFrame s (f s a)) (l : List α) (s : State) :
    SameFrame s (s.each l f) := by
  induction l generalizing s with
  | nil => exact .rfl
  | cons a l ih => exact (hf s a).trans (ih (f s a))

/-! ## The arms of exec -/

/-- Every meaning is `ranIf` of the command's own well-formedness: only these families check their operands. -/
theorem exec_eq_ranIf (c : Instr) (s : State) : ∃ m t, exec c s = ranIf c.wf m s t := by
  cases c
  case pbLiveEditWrite | supSenseAverage | lineJudged | shadowVisitEnd => exact ⟨_, _, rfl⟩
  case arbRound | scrubRead | dramTransactionDone | debugAccessDone => exact ⟨_, _, rfl⟩
  case hodPacketWrite | hodTailHoldExpire | hodPacketCommit | hodBadCommit => exact ⟨_, _, rfl⟩
  case monThermalRead | monVoltageRead | monProcessRead | hkEntryDone | hkUrgDone => exact ⟨_, _, rfl⟩
  case blkSoftReset | softResetDone | blkFreeze | blkCntClear | blkErrClear => exact ⟨_, _, rfl⟩
  case irqRawClear | irqSet | irqEvtHoldoffEnd => exact ⟨_, _, rfl⟩
  case shadowCtrlHold | shadowCtrlCommit | shadowCtrlDiscard => exact ⟨_, _, rfl⟩
  all_goals exact ⟨"", _, ranIf_true "" s _⟩

/-- A well-formed command is served, and only its effect on the rest of the state is its own. -/
theorem exec_served (c : Instr) (s : State) (h : c.wf = true) : ∃ t, exec c s = .next t ∧ SameFrame s t := by
  obtain ⟨m, t, e⟩ := exec_eq_ranIf c s
  exact ⟨{ t with pending := s.pending, now := s.now, variant := s.variant }, by rw [e, h]; rfl, rfl, rfl, rfl⟩

/-- Any other command is refused by name. -/
theorem exec_illFormed (c : Instr) (s : State) (h : c.wf = false) : ∃ m, exec c s = .refused (.illFormed m) := by
  obtain ⟨m, t, e⟩ := exec_eq_ranIf c s
  exact ⟨m, by rw [e, h]; rfl⟩

/-! ## A nanosecond without a command -/

theorem sameFrame_ptpTick (s : State) : SameFrame s (ptpTick s) := by
  unfold ptpTick
  split
  · split <;> exact .rfl
  · exact .rfl

theorem sameFrame_raise (s : State) (page b : Nat) : SameFrame s (s.raise page b) :=
  ⟨raise_pending s page b, raise_now s page b, raise_variant s page b⟩

theorem sameFrame_modFil (s : State) (f : Filler → Filler) : SameFrame s (s.modFil f) := .rfl

theorem sameFrame_filEvent (s : State) (code detail location value : Nat) : SameFrame s (s.filEvent code detail location value) := .rfl

theorem sameFrame_wearSlice (dt : Nat) (s : State) (k : Nat) : SameFrame s (wearSlice dt s k) := by
  unfold wearSlice
  extract_lets ser s0 s1 hours limit
  have restarted : SameFrame s s0 := .ite .rfl .rfl
  have counted : SameFrame s s1 := restarted.trans (sameFrame_modFil s0 _)
  refine .ite ?_ counted
  exact ((counted.trans (sameFrame_modFil s1 _)).trans (sameFrame_filEvent _ _ _ _ _)).trans (sameFrame_raise _ _ _)

theorem sameFrame_lldpSend (s : State) : SameFrame s (lldpSend s) := by
  unfold lldpSend
  exact SameFrame.ite .rfl .rfl

theorem sameFrame_updTick (s : State) : SameFrame s (updTick s) := by
  unfold updTick
  split
  · exact .rfl
  · split <;> exact .rfl

/-- The idle block only lets a nanosecond pass (log 1). -/
theorem sameFrame_idleTick (s : State) : SameFrame { s with now := s.now + 1 } (idleTick s) :=
  have clock : SameFrame { s with now := s.now + 1 } (clockTick s) := sameFrame_ptpTick _
  have wear : SameFrame (clockTick s) (wearTick (clockTick s) 1) := sameFrame_each _ (sameFrame_wearSlice 1) _ _
  ((clock.trans wear).trans (sameFrame_lldpSend _)).trans (sameFrame_updTick _)

/-! ## Steps -/

theorem step_nil (s : State) (h : s.pending = []) : step s = .next (idleTick s) := by
  simp [step, h]

theorem step_cons (s : State) (c : Instr) (l : List Instr) (h : s.pending = c :: l) : step s = exec c { s with pending := l } := by
  simp [step, h]

/-- Said once what a step does to queue, time and variant where what waits is well-formed. -/
theorem step_sane (s : State) (h : s.sane = true) :
    ∃ t, step s = .next t ∧ t.pending = s.pending.tail ∧ t.variant = s.variant ∧ t.now = s.now + (if s.pending = [] then 1 else 0) := by
  match e : s.pending with
  | [] =>
    obtain ⟨hp, hn, hv⟩ := sameFrame_idleTick s
    exact ⟨_, step_nil s e, hp.trans e, hv, hn⟩
  | c :: l =>
    have hc : c.wf = true := by simp only [State.sane, e, List.all_cons, Bool.and_eq_true] at h; exact h.1
    obtain ⟨t, ht, hp, hn, hv⟩ := exec_served c { s with pending := l } hc
    exact ⟨t, (step_cons s c l e).trans ht, hp, hv, by simpa using hn⟩

theorem sane_of_tail (s t : State) (h : s.sane = true) (hp : t.pending = s.pending.tail) : t.sane = true := by
  simp only [State.sane, List.all_eq_true] at *
  exact fun c hc => h c (List.mem_of_mem_tail (hp ▸ hc))

/-- Settles O59: what a step does to the queue is said by `step_sane`, and the tail of well-formed commands is well-formed. -/
theorem stepKeepsTheQueueSane : Obligations.StepKeepsTheQueueSane := by
  intro s t hs ht
  obtain ⟨u, hu, hp, hv, hn⟩ := step_sane s hs
  obtain rfl : u = t := by rw [hu] at ht; injection ht
  exact ⟨sane_of_tail s u hs hp, hp, hv, hn⟩

theorem stepsTo_succ (n : Nat) (s t : State) (h : step s = .next t) : stepsTo (n + 1) s = stepsTo n t := by
  simp only [stepsTo, h]

/-- As many steps as commands wait serve them all, in no time. -/
theorem stepsTo_drains (l : List Instr) (s : State) (hl : s.pending = l) (h : s.sane = true) :
    ∃ t, stepsTo l.length s = some t ∧ t.pending = [] ∧ t.now = s.now ∧ t.variant = s.variant := by
  induction l generalizing s with
  | nil => exact ⟨s, rfl, hl, rfl, rfl⟩
  | cons c l ih =>
    obtain ⟨u, hu, hp, hv, hn⟩ := step_sane s h
    obtain ⟨t, ht, hp', hn', hv'⟩ := ih u (by rw [hp, hl]; rfl) (sane_of_tail s u h hp)
    refine ⟨t, (stepsTo_succ l.length s u hu).trans ht, hp', ?_, hv'.trans hv⟩
    rw [hn', hn, hl, if_neg (List.cons_ne_nil c l), Nat.add_zero]

/-- On an empty queue every step lets a nanosecond pass. -/
theorem stepsTo_idles (n : Nat) (s : State) (h : s.pending = []) :
    ∃ t, stepsTo n s = some t ∧ t.pending = [] ∧ t.now = s.now + n ∧ t.variant = s.variant := by
  induction n generalizing s with
  | zero => exact ⟨s, rfl, h, rfl, rfl⟩
  | succ n ih =>
    obtain ⟨hp, hn, hv⟩ := sameFrame_idleTick s
    obtain ⟨t, ht, hp', hn', hv'⟩ := ih (idleTick s) (hp.trans h)
    refine ⟨t, (stepsTo_succ n s _ (step_nil s h)).trans ht, hp', ?_, hv'.trans hv⟩
    rw [hn', hn]
    exact Nat.add_right_comm s.now 1 n

/-- Settles O58: the waiting commands are served by induction on the queue, and the idle block runs on by induction on the steps. -/
theorem queueOfCommandsDrains : Obligations.QueueOfCommandsDrains := by
  intro s hs
  obtain ⟨t, ht, hp, hn, hv⟩ := stepsTo_drains s.pending s rfl hs
  refine ⟨t, ht, hp, hn, hv, fun n => ?_⟩
  obtain ⟨u, hu, hpu, hnu, hvu⟩ := stepsTo_idles n t hp
  exact ⟨u, hu, hpu, hnu.trans (by rw [hn]), hvu.trans hv⟩

/-! ## Reset -/

/-- With nothing listed every field reads the reset value of its row. -/
theorem get_of_regs_nil (s : State) (h : s.regs = []) (r : Row) (p i : Nat) : s.get r p i = Row.reset r s.variant p i := by
  simp [State.get, h, smFind]

/-- The mode in force is IDLE where SYS_MODE_CUR reads 0, as its row resets. -/
theorem mode_of_regs_nil (s : State) (h : s.regs = []) : s.mode = .idle := by
  simp [State.mode, get_of_regs_nil s h, Row.reset, R.SYS_MODE_CUR]

/-- Settles O3: the reset state lists no field, shadow, held write or command, so each field reads its row's reset value. -/
theorem resetHoldsTableValues : Obligations.ResetHoldsTableValues :=
  ⟨get_of_regs_nil State.reset rfl, rfl, rfl, rfl, rfl, mode_of_regs_nil State.reset rfl, rfl⟩

end Sys2Proof.Machine
end

section
/-! SUPPORT. What a word written by an agent does where one field stands alone (RegisterWriteByAccessCode). -/
namespace Sys2Proof.Machine
open Sys2Proof

/-! ## Where fields stand -/

/-- Above the header a field stands where its row says, in the rows of the page's block. -/
theorem mem_fieldsAt (page off : Nat) (r : Row) (p i : Nat) (h40 : 0x40 ≤ off) (h : (r, p, i) ∈ fieldsAt page off) :
    ∃ l, pageLine page = some l ∧ r ∈ l.rows ∧ p = page - r.page ∧ Row.at? r off = some i := by
  rw [fieldsAt, if_neg (by omega)] at h
  split at h
  · simp at h
  · next l hl =>
    obtain ⟨hm, -⟩ := List.mem_filter.mp h
    obtain ⟨q, hq, e⟩ := List.mem_filterMap.mp hm
    obtain ⟨j, hj, e⟩ := Option.map_eq_some_iff.mp e
    simp only [Prod.mk.injEq] at e
    obtain ⟨rfl, rfl, rfl⟩ := e
    exact ⟨l, hl, hq, rfl, hj⟩

theorem Row.off_of_at? (r : Row) (off i : Nat) (h : Row.at? r off = some i) : off = r.off + r.stride * i := by
  unfold Row.at? at h
  split at h
  · next h0 =>
    split at h
    · simp [*]
    · cases h
  · split at h
    · next hc =>
      obtain ⟨hle, hmod, -⟩ := hc
      injection h with e
      have := Nat.div_add_mod (off - r.off) r.stride
      rw [hmod, e] at this
      omega
    · cases h

/-- The pages whose RW fields of COMMIT have no further effects. -/
def plainPages : List Nat := [pgIRQ, pgPOE, pgLINK, pgSCRIM, pgPLUMB, pgTRK]

/-- Their rows stand on one page each, and none is a field that HOLD never holds. -/
theorem plainPages_rows : ∀ page ∈ plainPages, ∀ l, pageLine page = some l →
    l.rows.all (fun r => decide (r.page = page) && decide (r.lsb < 32) && !(unheld r)) = true := by
  intro page hp l hl
  have h : plainPages.all (fun page => (pageLine page).all (fun l =>
      l.rows.all (fun r => decide (r.page = page) && decide (r.lsb < 32) && !(unheld r)))) = true := by decide +kernel
  have := List.all_eq_true.mp h page hp
  rwa [hl] at this

/-- No field of these pages is one of the two RW fields that wait for IDLE, or is exempt from HOLD. -/
theorem plain_field (page off : Nat) (r : Row) (p i : Nat) (hp : page ∈ plainPages) (h40 : 0x40 ≤ off) (h400 : off < 0x400)
    (h : (r, p, i) ∈ fieldsAt page off) : unheld r = false ∧ waitingRw (Row.code r p i) = false := by
  obtain ⟨l, hl, hr, rfl, hat⟩ := mem_fieldsAt page off r p i h40 h
  have hrow := List.all_eq_true.mp (plainPages_rows page hp l hl) r hr
  simp only [Bool.and_eq_true, decide_eq_true_eq, Bool.not_eq_true'] at hrow
  obtain ⟨⟨hpage, hlsb⟩, hun⟩ := hrow
  have hcode : Row.code r (page - r.page) i = (page * 0x1000 + off) * 32 + r.lsb := by
    rw [Row.code, hpage, Row.off_of_at? r off i hat, Nat.sub_self, Nat.add_zero, Nat.add_assoc]
  refine ⟨hun, ?_⟩
  rw [hcode]
  simp only [plainPages, List.mem_cons, List.not_mem_nil, or_false, pgIRQ, pgPOE, pgLINK, pgSCRIM, pgPLUMB, pgTRK] at hp
  simp only [waitingRw, Row.code, R.TYREX_CTRL_LOCKED, R.CLK_AON_SRC, Bool.or_eq_false_iff]
  exact ⟨decide_eq_false (by omega), decide_eq_false (by omega)⟩

/-! ## A word written where one field stands alone -/

section
variable {s : State} {ag : Agent} {addr v : Nat} {r : Row} {p i : Nat}

/-- The word goes through the field's own rule, and then, in a field of COMMIT, into force and to the page's commands. -/
theorem busWrite_single (ht : s.takes ag (addr / 0x1000) (addr % 0x1000 / 4 * 4) = true)
    (hf : fieldsAt (addr / 0x1000) (addr % 0x1000 / 4 * 4) = [(r, p, i)]) (h400 : addr % 0x1000 / 4 * 4 < 0x400)
    (h2c : addr % 0x1000 / 4 * 4 ≠ 0x02C) (hpair : ¬(addr / 0x1000 = pgTYREX ∧ addr % 0x1000 / 4 * 4 = 0x04C))
    (hmot : addr / 0x1000 ≠ pgMOT) (hw : commitField r = true → writeField s v s (r, p, i) = s) :
    busWrite s ag addr v = if commitField r then
        writeWo (writeRw s ag (addr / 0x1000) (addr % 0x1000 / 4 * 4) v 0) ag (addr / 0x1000) (addr % 0x1000 / 4 * 4) v
      else writeField s v s (r, p, i) := by
  simp only [State.takes, Bool.and_eq_true, Bool.not_eq_true'] at ht
  obtain ⟨⟨hreach, hmay⟩, hhold⟩ := ht
  have hmode : ¬(addr / 0x1000 = pgSYS ∧ addr % 0x1000 / 4 * 4 = 0x044) := by
    rintro ⟨e, e'⟩
    rw [e, e'] at hf
    have two : (fieldsAt pgSYS 0x044).length = 2 := by decide +kernel
    exact absurd (two.symm.trans (congrArg List.length hf)) (by simp)
  have hpick : pickCount s (addr / 0x1000) (addr % 0x1000 / 4 * 4) = (0, s) := by
    rw [pickCount, if_neg (by omega)]
  simp only [busWrite, hreach, hmay, Bool.and_self, if_true, hpick, pageWrite, h2c, if_false, hmode, hf, List.foldl_cons,
    List.foldl_nil, hpair, List.any_cons, List.any_nil, Bool.or_false, holdFollows, hmot]
  cases hc : commitField r
  · simp
  · simp [hw hc, hhold]

/-- A register of the pages without further effects takes a value that its field accepts, and no command goes with it. -/
theorem writeRw_plain (page off : Nat) (hf : fieldsAt page off = [(r, p, i)]) (hp : page ∈ plainPages) (h40 : 0x40 ≤ off)
    (h400 : off < 0x400) (ha : r.acc = .rw) (hc : commitField r = true) :
    writeRw s ag page off v 0 = if accepts s r p i (Row.field r v) v then s.set r (Row.field r v) p i else s := by
  have hscrim : ¬(page = pgSCRIM ∧ off = 0x048) := by
    rintro ⟨rfl, rfl⟩
    have two : (fieldsAt pgSCRIM 0x048).length = 2 := by decide +kernel
    exact absurd (two.symm.trans (congrArg List.length hf)) (by simp)
  simp only [plainPages, List.mem_cons, List.not_mem_nil, or_false, pgIRQ, pgPOE, pgLINK, pgSCRIM, pgPLUMB, pgTRK] at hp hscrim
  have heff (t : State) : rwEffect s t page off v = t := by
    unfold rwEffect pgCAP pgSCRIM pgHK pgSEC pgPWR
    iterate 9 rw [if_neg (by omega)]
  simp only [writeRw, hf, heff, List.foldl_cons, List.foldl_nil, ha, hc, pgLOCK, pgTIMING, pgAXIS]
  iterate 3 rw [if_neg (by omega)]
  simp

theorem writeWo_plain (page off : Nat) (hp : page ∈ plainPages) (h40 : 0x40 ≤ off) : writeWo s ag page off v = s := by
  have h8 : off ≠ 0x008 := by omega
  have h1c : off ≠ 0x01C := by omega
  simp only [plainPages, List.mem_cons, List.not_mem_nil, or_false] at hp
  simp only [writeWo, h8, h1c, if_false]
  rcases hp with rfl | rfl | rfl | rfl | rfl | rfl <;> rfl

end

/-- The one field that the pairing record follows is RW and waits for IDLE. -/
theorem not_pairing {page off : Nat} {r : Row} {p i : Nat} (hf : fieldsAt page off = [(r, p, i)]) (h : r.acc = .rw → r.bnd = .commit) :
    ¬(page = pgTYREX ∧ off = 0x04C) := by
  rintro ⟨rfl, rfl⟩
  have e : fieldsAt pgTYREX 0x04C = [(R.TYREX_CTRL_LOCKED, 0, 0)] := by decide +kernel
  rw [e] at hf
  obtain ⟨rfl, -⟩ := Prod.mk.inj (List.cons.inj hf).1
  exact absurd (h rfl) (by decide)

theorem exec_registerWrite (s t : State) (ag : Agent) (addr : RegAddr) (v : Word) (h : busWrite s ag addr.toNat v.toNat = t)
    (hp : t.pending = s.pending) (hn : t.now = s.now) (hv : t.variant = s.variant) : exec (.registerWrite ag addr v) s = .next t := by
  rw [← ran_eq s t hp hn hv, ← h]
  rfl

/-- Settles O4, by the access code of the field. -/
theorem registerWriteByAccessCode : Obligations.RegisterWriteByAccessCode := by
  intro s ag addr v r p i page off
  refine ⟨fun h => ?_, fun ht hf hmot h400 h2c => ⟨fun ha => ?ro, fun ha => ?rws, fun ha => ?w1c, fun ha hb h40 hp => ?rw⟩⟩
  · exact exec_registerWrite s s ag addr v (by simp [busWrite, h, page, off]) rfl rfl rfl
  all_goals
    have hpair := not_pairing hf (by simp [*])
  case ro =>
    have hc : commitField r = false := by simp [commitField, ha]
    refine exec_registerWrite s s ag addr v ?_ rfl rfl rfl
    rw [busWrite_single ht hf h400 h2c hpair hmot (by simp [hc])]
    simp [hc, writeField, ha]
  case rws =>
    have hc : commitField r = false := by simp [commitField, ha]
    refine exec_registerWrite s _ ag addr v ?_ ?_ ?_ ?_
    · rw [busWrite_single ht hf h400 h2c hpair hmot (by simp [hc])]
      simp [hc, writeField, ha]
    all_goals split <;> rfl
  case w1c =>
    have hc : commitField r = false := by simp [commitField, ha]
    refine exec_registerWrite s _ ag addr v ?_ rfl rfl rfl
    rw [busWrite_single ht hf h400 h2c hpair hmot (by simp [hc])]
    simp [hc, writeField, ha]
  case rw =>
    obtain ⟨hun, hwait⟩ := plain_field page off r p i hp h40 h400 (by simp [hf])
    have hc : commitField r = true := by simp [commitField, ha, hb, hun]
    refine exec_registerWrite s _ ag addr v ?_ ?_ ?_ ?_
    · rw [busWrite_single ht hf h400 h2c hpair hmot (by simp [writeField, ha, hwait]), if_pos hc,
        writeWo_plain page off hp h40, writeRw_plain page off hf hp h40 h400 ha hc]
    all_goals split <;> rfl

end Sys2Proof.Machine
end

section
/-! SUPPORT. Where the statement about every command's effect fails (EveryCommandIsServed): a sample of a driver that counts as lost already. -/
namespace Sys2Proof.Machine
open Sys2Proof

/-- The level sampled is no part of what makes a state calm. -/
theorem calm_aonLow (s : State) (a : Nat) (low : Bool) : (s.modAxis a (fun x => { x with aonLow := low })).calm = s.calm := by
  have hdue (b : Nat) : ((s.modAxis a (fun x => { x with aonLow := low })).axis b).due = (s.axis b).due := by
    by_cases h : b = a
    · subst h; simp [State.axis, State.modAxis, smMod]
    · simp [State.axis, State.modAxis, smMod, smGet_smPut_ne, h]
  simp only [State.calm, State.noneDue, hdue]
  rfl

/-- In a calm state a sample of a driver whose DRV_LOST is not 0 only keeps the level sampled: no register is written (R262). -/
theorem exec_aonDrvLostSample_lost (s : State) (a : Fin 6) (low : Bool) (hc : s.calm = true)
    (hl : s.bit R.MOT_AXa_STAT_DRV_LOST a = true) :
    exec (.aonDrvLostSample a low) s = .next (s.modAxis a (fun x => { x with aonLow := low })) := by
  have hsample : drvSample s a low = s.modAxis a (fun x => { x with aonLow := low }) := by simp [drvSample, hl]
  calc exec (.aonDrvLostSample a low) s = ran s (after (drvSample s a low)) := rfl
    _ = ran s (s.modAxis a (fun x => { x with aonLow := low })) := by
      rw [hsample, after_calm _ ((calm_aonLow s a low).trans hc)]
    _ = .next (s.modAxis a (fun x => { x with aonLow := low })) := ran_eq s _ rfl rfl rfl

/-- FEED's driver has been sampled low once, and its one-bit field DRV_LOST lists the value 2: not 0, so that nothing sets it, and not 1. -/
def lostAsTwo : State :=
  { State.reset with
    regs := [(Row.code R.MOT_AXa_STAT_DRV_LOST 0 0, 2)]
    rol := { Roller.init with axes := [(0, { Axis.init with aonLow := true })] }
    pwr := { State.reset.pwr with boot := .done } }

theorem lostAsTwo_calm : lostAsTwo.calm = true := by decide +kernel

theorem lostAsTwo_lost : lostAsTwo.get R.MOT_AXa_STAT_DRV_LOST 0 = 2 := by decide +kernel

/-- Refutes O57: its clause on the second low sample of a driver says that DRV_LOST reads 1 afterwards in every calm state, and so in one whose
one-bit field lists 2, which the sample leaves. That every command is served or refused by name does hold (`exec_served`,
`exec_illFormed`). -/
theorem not_everyCommandIsServed : ¬ Obligations.EveryCommandIsServed := by
  rintro ⟨-, -, -, hunits, -⟩
  obtain ⟨-, -, -, -, -, hsample, -⟩ := hunits lostAsTwo 0 lostAsTwo_calm
  obtain ⟨t, ht, hone⟩ := hsample rfl
  have hlost : lostAsTwo.bit R.MOT_AXa_STAT_DRV_LOST 0 = true := by rw [State.bit, lostAsTwo_lost]; rfl
  obtain rfl : lostAsTwo.modAxis 0 (fun x => { x with aonLow := true }) = t := by
    rw [exec_aonDrvLostSample_lost lostAsTwo 0 true lostAsTwo_calm hlost] at ht
    injection ht
  have htwo : (2 : Nat) = 1 := lostAsTwo_lost.symm.trans hone
  exact absurd htwo (by decide)

end Sys2Proof.Machine
end

section
/-! SUPPORT. What the commands of the video front end leave alone: a frame that keeps a state calm, and the registers beside those written. -/
namespace Sys2Proof.Machine
open Sys2Proof

/-! ## The frame of the front end -/

/-- The registers that what follows a command turns on: the mode in force and the two bits of CALIBRATE's gap (R34, R431). -/
def hookCodes : List Nat := [Row.code R.SYS_MODE_CUR 0 0, Row.code R.CAL_STAT_GAP 0 0, Row.code R.CAL_CTRL_GAP_EN 0 0]

/-- What judging, the spare converters and the supplies leave alone (R82 to R112): with the queue, DRAM, the capture lines, and all that
decides what follows a command. -/
structure FrontFrame (s t : State) : Prop where
  same : SameFrame s t
  mem : t.mem = s.mem
  capLines : t.capLines = s.capLines
  modePend : t.modePend = s.modePend
  rol : t.rol = s.rol
  plumb : t.plumb = s.plumb
  cal : t.cal = s.cal
  boot : t.pwr.boot = s.pwr.boot
  regs : ∀ c ∈ hookCodes, smFind t.regs c = smFind s.regs c

theorem FrontFrame.refl (s : State) : FrontFrame s s := ⟨.rfl, rfl, rfl, rfl, rfl, rfl, rfl, rfl, fun _ _ => rfl⟩

theorem FrontFrame.trans {s t u : State} (h : FrontFrame s t) (g : FrontFrame t u) : FrontFrame s u where
  same := h.same.trans g.same
  mem := g.mem.trans h.mem
  capLines := g.capLines.trans h.capLines
  modePend := g.modePend.trans h.modePend
  rol := g.rol.trans h.rol
  plumb := g.plumb.trans h.plumb
  cal := g.cal.trans h.cal
  boot := g.boot.trans h.boot
  regs := fun c hc => (g.regs c hc).trans (h.regs c hc)

theorem frontFrame_each {α : Type} (f : State → α → State) (hf : ∀ s a, FrontFrame s (f s a)) (l : List α) (s : State) :
    FrontFrame s (s.each l f) := by
  induction l generalizing s with
  | nil => exact .refl s
  | cons a l ih => exact (hf s a).trans (ih (f s a))

/-- Any field of the pages from SPARE on, so of every AFE and SLC page, stands behind the registers of the frame. -/
theorem not_hook_of_page (r : Row) (p i : Nat) (h : 0xC8 ≤ r.page + p) : Row.code r p i ∉ hookCodes := by
  simp only [hookCodes, Row.code, R.SYS_MODE_CUR, R.CAL_STAT_GAP, R.CAL_CTRL_GAP_EN, List.mem_cons, List.not_mem_nil, or_false]
  omega

section
variable {s t : State} (h : FrontFrame s t)
include h

theorem FrontFrame.setCode {r : Row} (v : Nat) {p i : Nat} (hc : Row.code r p i ∉ hookCodes) : FrontFrame s (t.set r v p i) :=
  h.trans { FrontFrame.refl t with regs := fun _ hm => smFind_smPut_ne _ _ _ _ (fun e => hc (e ▸ hm)) }

theorem FrontFrame.set {r : Row} (v p i : Nat) (hr : 0xC8 ≤ r.page := by decide) : FrontFrame s (t.set r v p i) :=
  h.setCode v (not_hook_of_page r p i (by omega))

theorem FrontFrame.inc {r : Row} (p i : Nat) (hr : 0xC8 ≤ r.page := by decide) : FrontFrame s (t.inc r p i) := h.set _ p i hr

theorem FrontFrame.raise {page : Nat} (b : Nat) (hp : 0xC8 ≤ page) : FrontFrame s (t.raise page b) := by
  refine h.trans ⟨sameFrame_raise t page b, ?_, ?_, ?_, ?_, ?_, ?_, ?_, fun c hc => ?regs⟩
  case regs =>
    have hne {r : Row} {p : Nat} (hr : 0xC8 ≤ r.page + p) : c ≠ Row.code r p 0 := fun e => not_hook_of_page r p 0 hr (e ▸ hc)
    exact raiseMask_find t page (2 ^ b) c (fun e => absurd (e ▸ hc) (by decide)) (hne (by omega)) (hne (by omega))
  all_goals simp

theorem FrontFrame.emit (cls prod kind : Nat) (bs : List (BitVec 8)) (x : Option Nat) : FrontFrame s (t.emit cls prod kind bs x) :=
  h.trans { FrontFrame.refl t with }

theorem FrontFrame.segEvent (code detail location value : Nat) : FrontFrame s (t.segEvent code detail location value) := h.emit ..

theorem FrontFrame.filEvent (code detail location value : Nat) : FrontFrame s (t.filEvent code detail location value) := h.emit ..

theorem FrontFrame.modSlice (k : Nat) (f : Slice → Slice) : FrontFrame s (t.modSlice k f) := h.trans { FrontFrame.refl t with }

theorem FrontFrame.modChan (k c : Nat) (f : Chan → Chan) : FrontFrame s (t.modChan k c f) := h.modSlice ..

theorem FrontFrame.modSpare (k p : Nat) (f : SpareAdc → SpareAdc) : FrontFrame s (t.modSpare k p f) := h.modSlice ..

theorem FrontFrame.modFil (f : Filler → Filler) : FrontFrame s (t.modFil f) := h.trans { FrontFrame.refl t with }

theorem FrontFrame.draw : FrontFrame s t.draw.2 := h.trans { FrontFrame.refl t with }

theorem FrontFrame.get {r : Row} (hr : Row.code r 0 0 ∈ hookCodes) : t.get r = s.get r := by
  simp only [State.get, h.regs _ hr, h.same.2.2]

theorem FrontFrame.mode : t.mode = s.mode := by
  simp only [State.mode, h.get (r := R.SYS_MODE_CUR) (by decide)]

theorem FrontFrame.calm : t.calm = s.calm := by
  simp only [State.calm, State.noneDue, State.axis, State.bit, h.rol, h.plumb, h.cal, h.boot, h.get (r := R.CAL_STAT_GAP) (by decide),
    h.get (r := R.CAL_CTRL_GAP_EN) (by decide)]

theorem FrontFrame.ran : ran s t = .next t := ran_eq s t h.same.1 h.same.2.1 h.same.2.2

/-- In a calm state nothing follows a command that keeps to the frame. -/
theorem FrontFrame.ran_after (hc : s.calm = true) : Machine.ran s (after t) = .next t := by
  rw [after_calm t (h.calm.trans hc), h.ran]

end

theorem le_pgAFE (k : Nat) : 0xC8 ≤ pgAFE k := Nat.le_add_right_of_le (by decide)

/-! ## Reading beside what was written -/

/-- Two fields that stand apart on one page, at element 0, do not meet. -/
theorem State.get_set_apart (s : State) (r q : Row) (v p : Nat)
    (h : r.off < 0x1000 ∧ q.off < 0x1000 ∧ r.lsb < 32 ∧ q.lsb < 32 ∧ (r.page ≠ q.page ∨ r.off ≠ q.off ∨ r.lsb ≠ q.lsb)) :
    (s.set r v p).get q p = s.get q p := by
  refine State.get_set_ne s r q v p 0 p 0 ?_
  simp only [Row.code, Nat.mul_zero]
  omega

/-- Raising a flag leaves every field above the header of the AFE pages and those behind them. -/
theorem State.get_raise_field (s : State) (page b : Nat) (r : Row) (p i : Nat)
    (h : 0x100 ≤ r.page ∧ 0x40 ≤ r.off ∧ r.lsb < 32) (hi : r.off + r.stride * i < 0x1000) :
    (s.raise page b).get r p i = s.get r p i := by
  apply raiseMask_get <;> simp only [Row.code, R.IRQ_EVT_MERGED, R.IRQ_RAW, R.EVT_CNT, ne_eq] <;> omega

@[simp] theorem State.get_segEvent (s : State) (code detail location value : Nat) (r : Row) (p i : Nat) :
    (s.segEvent code detail location value).get r p i = s.get r p i := rfl

@[simp] theorem State.get_modChan (s : State) (k c : Nat) (f : Chan → Chan) (r : Row) (p i : Nat) :
    (s.modChan k c f).get r p i = s.get r p i := rfl

@[simp] theorem State.slice_modSlice (s : State) (k : Nat) (f : Slice → Slice) : (s.modSlice k f).slice k = f (s.slice k) := by
  simp [State.slice, State.modSlice, smMod]

@[simp] theorem State.chan_modChan (s : State) (k c : Nat) (f : Chan → Chan) : (s.modChan k c f).chan k c = f (s.chan k c) := by
  simp [State.chan, State.modChan, smMod]

end Sys2Proof.Machine
end

section
/-! SUPPORT. How SUSPECT, OPEN and SHORT inputs resolve (InputStatesResolve). -/
namespace Sys2Proof.Machine
open Sys2Proof

theorem frontFrame_zestRestart (s : State) (k c : Nat) : FrontFrame s (zestRestart s k c) :=
  ((FrontFrame.refl s).modSlice ..).set ..

theorem state_zestRestart (s : State) (k : Nat) (c : Fin 10) :
    (zestRestart s k c).get R.AFE_CHc_STATE k c = s.get R.AFE_CHc_STATE k c := by
  refine State.get_set_ne _ _ _ _ _ _ _ _ ?_
  simp only [Row.code, R.AFE_CHc_STATE, R.AFE_CHc_ZEST_VALID]
  omega

theorem state_raise (s : State) (page b k : Nat) (c : Fin 10) :
    (s.raise page b).get R.AFE_CHc_STATE k c = s.get R.AFE_CHc_STATE k c :=
  State.get_raise_field s page b _ k c (by decide) (by simp only [R.AFE_CHc_STATE]; omega)

@[simp] theorem chan_segEvent (s : State) (code detail location value k c : Nat) :
    (s.segEvent code detail location value).chan k c = s.chan k c := rfl

@[simp] theorem chan_set (s : State) (r : Row) (v p i k c : Nat) : (s.set r v p i).chan k c = s.chan k c := rfl

@[simp] theorem chan_raise (s : State) (page b k c : Nat) : (s.raise page b).chan k c = s.chan k c := by
  simp [State.chan, State.slice]

section
variable {s : State} {k : Fin 24} {c : Fin 10} {e : Entry} {role tap : Nat}
  (he : (s.slice k).entry = some e) (hin : segInput? e c = some (role, tap))
include he hin

theorem suspectResolve_early (hg : (s.chan k c).groups < 64) : suspectResolve s k c = s := by
  simp [suspectResolve, he, hin, hg]

theorem openShortReexam_early (hg : (s.chan k c).groups < 64) : openShortReexam s k c = s := by
  simp [openShortReexam, he, hin, hg]

/-- A SUSPECT input that has its 64 groups: the state that its estimate and its fast checks give it, and a new count (R99). -/
theorem suspectResolve_due (hg : 64 ≤ (s.chan k c).groups) (hst : s.get R.AFE_CHc_STATE k c = chSUSPECT) :
    FrontFrame s (suspectResolve s k c) ∧ ((suspectResolve s k c).chan k c).groups = 0 ∧
    (suspectResolve s k c).get R.AFE_CHc_STATE k c =
      (if s.get R.AFE_Z_OPEN_THR k ≤ s.get R.AFE_CHc_ZEST k c then chOPEN
        else if s.get R.AFE_CHc_ZEST k c ≤ s.get R.AFE_Z_SHORT_THR k then chSHORT
        else if ((s.chan k c).passes.take (s.get R.AFE_SUSPECT_CLEAR k)).all id then chOK else chSUSPECT) := by
  have hgo : ¬(s.get R.AFE_CHc_STATE k c ≠ chSUSPECT ∨ (s.chan k c).groups < 64) := by omega
  have f := FrontFrame.refl s
  simp only [suspectResolve, he, Option.bind_some, hin, hgo, if_false]
  split
  case isTrue =>
    exact ⟨(((((f.set ..).raise _ (le_pgAFE k)).segEvent ..).modChan ..).modChan ..), by simp, by simp [state_raise]; rfl⟩
  split
  case isTrue =>
    exact ⟨(((((f.set ..).raise _ (le_pgAFE k)).segEvent ..).modChan ..).modChan ..), by simp, by simp [state_raise]; rfl⟩
  split
  case isTrue => exact ⟨(f.set ..).modChan .., by simp, by simp; rfl⟩
  case isFalse => exact ⟨(frontFrame_zestRestart s k c).modChan .., by simp, by simp [state_zestRestart, hst]⟩

/-- An OPEN or SHORT input that has its 64 groups: back to OK, or as it was, and a new count (R100). -/
theorem openShortReexam_due (hg : 64 ≤ (s.chan k c).groups)
    (hst : s.get R.AFE_CHc_STATE k c = chOPEN ∨ s.get R.AFE_CHc_STATE k c = chSHORT) :
    FrontFrame s (openShortReexam s k c) ∧ ((openShortReexam s k c).chan k c).groups = 0 ∧
    (openShortReexam s k c).get R.AFE_CHc_STATE k c =
      (if (s.chan k c).passes.all id ∧ s.get R.AFE_Z_SHORT_THR k < s.get R.AFE_CHc_ZEST k c ∧
          s.get R.AFE_CHc_ZEST k c < s.get R.AFE_Z_OPEN_THR k then chOK else s.get R.AFE_CHc_STATE k c) := by
  have hgo : ¬((s.get R.AFE_CHc_STATE k c ≠ chOPEN ∧ s.get R.AFE_CHc_STATE k c ≠ chSHORT) ∨ (s.chan k c).groups < 64) := by omega
  have f := (FrontFrame.refl s).modChan k c (fun x => { x with groups := 0, passes := [] })
  simp only [openShortReexam, he, Option.bind_some, hin, hgo, if_false, Bool.and_eq_true, decide_eq_true_eq, and_assoc]
  split
  case isTrue => exact ⟨((f.set ..).raise _ (le_pgAFE k)).segEvent .., by simp, by simp [state_raise]; rfl⟩
  case isFalse => exact ⟨f, by simp, by simp⟩

end

/-- Settles O18: before 64 groups neither command does anything, and after them each gives the state that R99 and R100 lay down. -/
theorem inputStatesResolve : Obligations.InputStatesResolve := by
  intro s k c e role tap he hin
  refine ⟨fun hc hg => ⟨?_, ?_⟩, fun hc hg hst => ?_, fun hg hst => ?_⟩
  · have early : suspectResolve s k c = s := suspectResolve_early he hin hg
    calc exec (.suspectResolve k c) s = ran s (after (suspectResolve s k c)) := rfl
      _ = .next s := by rw [early]; exact (FrontFrame.refl s).ran_after hc
  · have early : openShortReexam s k c = s := openShortReexam_early he hin hg
    calc exec (.openShortReexam k c) s = ran s (openShortReexam s k c) := rfl
      _ = .next s := by rw [early]; exact (FrontFrame.refl s).ran
  · obtain ⟨hf, hgroups, hstate⟩ := suspectResolve_due he hin hg hst
    exact ⟨_, hf.ran_after hc, hgroups, hstate⟩
  · obtain ⟨hf, hgroups, hstate⟩ := openShortReexam_due he hin hg hst
    exact ⟨_, hf.ran, hgroups, hstate⟩

end Sys2Proof.Machine
end

section
/-! SUPPORT. What the end of a spare's visit keeps (SpareVisitKeepsItsFit). -/
namespace Sys2Proof.Machine
open Sys2Proof

theorem spVisitRow_page (p : Nat) : 0xC8 ≤ (spVisitRow p).page := by
  unfold spVisitRow
  split <;> decide

theorem frontFrame_visitBegin (s : State) (k p : Nat) : FrontFrame s (visitBegin s k p) := by
  have f := FrontFrame.refl s
  unfold visitBegin
  extract_lets l
  split
  · exact f.set _ _ _ (spVisitRow_page p)
  · exact (f.set _ _ _ (spVisitRow_page p)).modSpare ..

theorem frontFrame_visitNext (s : State) (k p : Nat) : FrontFrame s (visitNext s k p) :=
  ((FrontFrame.refl s).modSpare ..).trans (frontFrame_visitBegin _ k p)

@[simp] theorem fits_modSpare (s : State) (k p : Nat) (f : SpareAdc → SpareAdc) : ((s.modSpare k p f).slice k).fits = (s.slice k).fits := by
  simp [State.modSpare]

@[simp] theorem slice_set (s : State) (r : Row) (v p i k : Nat) : (s.set r v p i).slice k = s.slice k := rfl

theorem fits_visitBegin (s : State) (k p : Nat) : ((visitBegin s k p).slice k).fits = (s.slice k).fits := by
  unfold visitBegin
  extract_lets l
  split <;> simp

/-- Going on to the next input keeps every fit of the slice. -/
theorem fits_visitNext (s : State) (k p : Nat) : ((visitNext s k p).slice k).fits = (s.slice k).fits := by
  simp [visitNext, fits_visitBegin]

/-- The state in which the fit of spare `p` to the input it visits is kept as fit and as baseline (R105). -/
def State.fitFirst (s : State) (k p : Nat) (gain ofs : Int) : State :=
  let fit : Fit := { gain := gain, ofs := ofs, base := some (gain, ofs), turn := (s.spare k p).turns }
  s.modSlice k (fun x => { x with fits := smPut x.fits (16 * p + s.get (spVisitRow p) k) fit })

theorem obs_fitFirst (s : State) (k p c : Nat) (gain ofs : Int) : ((s.fitFirst k p gain ofs).chan k c).obs = (s.chan k c).obs := by
  simp [State.fitFirst, State.chan]

/-- A fit that is its own baseline does not deviate from it (R105). -/
theorem fitDrift_baseline (s : State) (k turn : Nat) (gain ofs : Int) :
    fitDrift s k { gain := gain, ofs := ofs, base := some (gain, ofs), turn := turn } = (0, 0) := by
  simp [fitDrift]

section
variable {s : State} {k p : Nat} {e : Entry} {role tap : Nat} (gain ofs : Int)
  (he : (s.slice k).entry = some e) (hin : segInput? e (s.get (spVisitRow p) k) = some (role, tap))
include he hin

theorem shadowVisitEnd_early (h : (s.spare k p).lines < (s.spare k p).len) : shadowVisitEnd s k p gain ofs = s := by
  simp [shadowVisitEnd, he, hin, h]

/-- A pair's first fit is its own baseline, so nothing drifts and nothing else happens at the visit's end (R105). -/
theorem shadowVisitEnd_first (hrot : inRotation s k p = true) (hlines : (s.spare k p).len ≤ (s.spare k p).lines)
    (hab : (s.spare k p).abandoned = false) (hfit : smFind (s.slice k).fits (16 * p + s.get (spVisitRow p) k) = none)
    (hobs : (s.chan k (s.get (spVisitRow p) k)).obs = none) :
    shadowVisitEnd s k p gain ofs = visitNext (s.fitFirst k p gain ofs) k p := by
  have hobs' := (obs_fitFirst s k p (s.get (spVisitRow p) k) gain ofs).trans hobs
  rw [State.fitFirst] at hobs' ⊢
  simp [shadowVisitEnd, he, hin, hrot, Nat.not_lt.mpr hlines, hab, hfit, hobs', fitDrift_baseline]

end

/-- Settles O19: with no fit before it the fit kept is its own baseline, and going on to the next input keeps the fits. -/
theorem spareVisitKeepsItsFit : Obligations.SpareVisitKeepsItsFit := by
  intro s k p gain ofs e role tap hlo hhi he hin hrot
  have run : exec (.shadowVisitEnd k p gain ofs) s = ran s (shadowVisitEnd s k p gain ofs) := by
    calc exec (.shadowVisitEnd k p gain ofs) s
        = ranIf (decide (-32768 ≤ gain) && decide (gain < 65536)) "SHADOW_VISIT_END" s (shadowVisitEnd s k p gain ofs) := rfl
      _ = _ := by simp only [hlo, hhi, decide_true, Bool.and_self, ranIf_true]
  refine ⟨fun h => ?_, fun hlines hab hfit hobs => ?_⟩
  · rw [run, shadowVisitEnd_early gain ofs he hin h, (FrontFrame.refl s).ran]
  · have hf : FrontFrame s (visitNext (s.fitFirst k p gain ofs) k p) :=
      ((FrontFrame.refl s).modSlice ..).trans (frontFrame_visitNext _ k p)
    rw [run, shadowVisitEnd_first gain ofs he hin hrot hlines hab hfit hobs, hf.ran]
    exact ⟨_, rfl, by simp [fits_visitNext, State.fitFirst], hf.mem⟩

end Sys2Proof.Machine
end

section
/-! SUPPORT. The shutdown of a segment's supply and the sense that leads to it (SupplySenseAndHold). -/
namespace Sys2Proof.Machine
open Sys2Proof

/-! ## Switching the domains -/

/-- The registers that switching a domain writes (R535). -/
theorem domOnRow_cases (d : Nat) : domOnRow d = R.PWR_DOM_ON_0 ∨ domOnRow d = R.PWR_DOM_ON_1 ∨ domOnRow d = R.PWR_DOM_ON_2 := by
  unfold domOnRow
  split
  · exact .inl rfl
  · split
    · exact .inr (.inl rfl)
    · exact .inr (.inr rfl)

theorem domOnRow_not_hook (d : Nat) : Row.code (domOnRow d) 0 0 ∉ hookCodes := by
  rcases domOnRow_cases d with e | e | e <;> rw [e] <;> decide

theorem domOnRow_below (d : Nat) : Row.code (domOnRow d) 0 0 < 0xC8 * 0x20000 := by
  rcases domOnRow_cases d with e | e | e <;> rw [e] <;> decide

/-- What switching domains leaves alone: the frame, the slices, and every register from the SPARE page on. -/
structure DomFrame (s t : State) : Prop extends FrontFrame s t where
  slices : t.slices = s.slices
  above : ∀ c, 0xC8 * 0x20000 ≤ c → smFind t.regs c = smFind s.regs c

theorem DomFrame.refl (s : State) : DomFrame s s := ⟨.refl s, rfl, fun _ _ => rfl⟩

theorem DomFrame.trans {s t u : State} (h : DomFrame s t) (g : DomFrame t u) : DomFrame s u :=
  ⟨h.toFrontFrame.trans g.toFrontFrame, g.slices.trans h.slices, fun c hc => (g.above c hc).trans (h.above c hc)⟩

theorem DomFrame.set {s t : State} (h : DomFrame s t) (r : Row) (v : Nat) (hc : Row.code r 0 0 ∉ hookCodes)
    (hb : Row.code r 0 0 < 0xC8 * 0x20000) : DomFrame s (t.set r v) :=
  h.trans ⟨(FrontFrame.refl t).setCode v hc, rfl, fun _ hm => smFind_smPut_ne _ _ _ _ (Nat.ne_of_gt (Nat.lt_of_lt_of_le hb hm))⟩

theorem domFrame_domSwitch (s : State) (d : Nat) : DomFrame s (domSwitch s d) := by
  have cnt {t : State} (h : DomFrame s t) : DomFrame s (t.inc R.PWR_DOM_SWITCH_CNT) := h.set _ _ (by decide) (by decide)
  have lists (w f : List Nat) : DomFrame s { s with domWait := w, domFailed := f } := { DomFrame.refl s with }
  unfold domSwitch
  split
  · split
    · exact .refl s
    · exact cnt (lists _ _)
  · extract_lets s1 s2
    have h1 : DomFrame s s1 := lists _ _
    have h2 : DomFrame s s2 := cnt ((lists _ _).set _ _ (domOnRow_not_hook d) (domOnRow_below d))
    split
    · split
      · exact h2.trans { DomFrame.refl s2 with }
      · exact h2
    · exact h1

theorem domFrame_domSync (s : State) : DomFrame s (domSync s) :=
  List.foldlRecOn (motive := DomFrame s) _ _ (.refl s) (fun t h d _ => h.trans (domFrame_domSwitch t d))

/-! ## SEG_EN deasserts -/

theorem domFrame_powerCount (s : State) : DomFrame s (powerCount s) := (DomFrame.refl s).set _ _ (by decide) (by decide)

/-- The state in which the segment has been switched off, but for the count of powered segments and the domains. -/
def State.segCut (s : State) (k : Nat) : State :=
  ((((s.set R.SLC_SEG_STAT_POWERED 0 k).set R.SLC_SEG_STAT_READY 0 k).modSlice k (fun x =>
    { x with bring := .off, cur := none, queue := [], heldTx := none, supChecks := false, loRun := 0, loSince := none })).set
      R.AFE_SUP_OK 0 k).set R.AFE_SNS_OPEN 0 k

theorem domFrame_segOff (s : State) (k : Nat) : DomFrame (s.segCut k) (segOff s k) :=
  (domFrame_powerCount _).trans (domFrame_domSync _)

theorem frontFrame_segCut (s : State) (k : Nat) : FrontFrame s (s.segCut k) :=
  (((((FrontFrame.refl s).set ..).set ..).modSlice ..).set ..).set ..

/-- The state in which the supply's fault is reported, before SEG_EN deasserts (R92). -/
def State.supFaulted (s : State) (k : Nat) : State := (s.set R.AFE_SUP_SHUTDOWN 1 k).raise (pgAFE k) 4

theorem slice_segOff (s : State) (k : Nat) : (segOff s k).slice k = (s.segCut k).slice k := by
  rw [State.slice, (domFrame_segOff s k).slices, State.slice]

/-- The line in progress is marked as invalid for the segment (R93), and the tracker goes on from `g`. -/
def State.lineSpoilt (s : State) (k : Nat) (g : Trk) : State := { s.modSlice k (fun x => { x with lineSup := true }) with trk := g }

/-- A shutdown is the fault's report and the deassertion, with a mark on the line and one for the tracker. -/
theorem supShutdown_eq (s : State) (k : Nat) : ∃ g, supShutdown s k = (segOff (s.supFaulted k) k).lineSpoilt k g := ⟨_, rfl⟩

theorem frontFrame_lineSpoilt (s : State) (k : Nat) (g : Trk) : FrontFrame s (s.lineSpoilt k g) := { FrontFrame.refl s with }

theorem slice_lineSpoilt (s : State) (k : Nat) (g : Trk) : (s.lineSpoilt k g).slice k = { s.slice k with lineSup := true } :=
  State.slice_modSlice s k (fun x => { x with lineSup := true })

theorem get_lineSpoilt (s : State) (k : Nat) (g : Trk) (r : Row) (p i : Nat) : (s.lineSpoilt k g).get r p i = s.get r p i := rfl

theorem frontFrame_supShutdown (s : State) (k : Nat) : FrontFrame s (supShutdown s k) := by
  obtain ⟨g, e⟩ := supShutdown_eq s k
  have faulted : FrontFrame s (s.supFaulted k) := ((FrontFrame.refl s).set ..).raise _ (le_pgAFE k)
  have off := (faulted.trans (frontFrame_segCut _ k)).trans (domFrame_segOff _ k).toFrontFrame
  rw [e]
  exact off.trans (frontFrame_lineSpoilt _ k g)

theorem slice_supShutdown (s : State) (k : Nat) :
    ((supShutdown s k).slice k).bring = .off ∧ ((supShutdown s k).slice k).loRun = 0 := by
  obtain ⟨g, e⟩ := supShutdown_eq s k
  rw [e, slice_lineSpoilt, slice_segOff]
  simp [State.segCut, slice_set]

/-- Of the AFE and SLC fields a shutdown writes those of `State.segCut`, and the fault it reports. -/
theorem get_supShutdown (s : State) (k : Nat) (r : Row) (hr : 0xC8 ≤ r.page) :
    (supShutdown s k).get r k = ((s.supFaulted k).segCut k).get r k := by
  obtain ⟨g, e⟩ := supShutdown_eq s k
  have hf := domFrame_segOff (s.supFaulted k) k
  have hfind := hf.above (Row.code r k 0) (by simp only [Row.code]; omega)
  calc (supShutdown s k).get r k = (segOff (s.supFaulted k) k).get r k := by rw [e, get_lineSpoilt]
    _ = _ := by simp only [State.get, hfind, hf.same.2.2]

theorem shutdown_supShutdown (s : State) (k : Nat) : (supShutdown s k).get R.AFE_SUP_SHUTDOWN k = 1 := by
  rw [get_supShutdown _ _ _ (by decide), State.segCut]
  simp (disch := decide) [State.get_set_apart, State.supFaulted, State.get_raise_field]

theorem powered_supShutdown (s : State) (k : Nat) : (supShutdown s k).get R.SLC_SEG_STAT_POWERED k = 0 := by
  rw [get_supShutdown _ _ _ (by decide), State.segCut]
  simp (disch := decide) [State.get_set_apart]

/-- AFE_SUP_MV and AFE_SUP_FAULT_HI stand over a shutdown. -/
theorem get_supShutdown_kept (s : State) (k : Nat) (r : Row) (hr : r ∈ [R.AFE_SUP_MV, R.AFE_SUP_FAULT_HI]) :
    (supShutdown s k).get r k = s.get r k := by
  simp only [List.mem_cons, List.not_mem_nil, or_false] at hr
  rcases hr with rfl | rfl
  all_goals
    rw [get_supShutdown _ _ _ (by decide), State.segCut]
    simp (disch := decide) [State.get_set_apart, State.supFaulted, State.get_raise_field]

/-! ## The sense -/

/-- The averaged value in mV (R90, R91; log 125). -/
def senseMv (s : State) (k : Nat) (uv : List Nat) : Nat := min 65535 (sumN uv * s.get R.AFE_SNS_RATIO k / (8 * 4096 * 1000))

/-- The state in which an averaged value of a segment stands in its registers. -/
def State.sensed (s : State) (k : Nat) (e : Entry) (mv : Nat) : State :=
  (s.set R.AFE_SUP_MV mv k).setI R.AFE_SUP_DEV ((mv : Int) - segSupSet e) k

theorem frontFrame_sensed (s : State) (k : Nat) (e : Entry) (mv : Nat) : FrontFrame s (s.sensed k e mv) :=
  ((FrontFrame.refl s).set ..).set ..

theorem mv_sensed (s : State) (k : Nat) (e : Entry) (mv : Nat) (h : mv ≤ 65535) : (s.sensed k e mv).get R.AFE_SUP_MV k = mv := by
  rw [State.sensed, State.setI, State.get_set_apart _ _ _ _ _ (by decide), State.get_set_self]
  exact Nat.mod_eq_of_lt (Nat.lt_succ_of_le h)

theorem supAverage_powered (s : State) (k : Nat) (uv : List Nat) (e : Entry) (hp : (s.slice k).powered = true)
    (he : (s.slice k).entry = some e) :
    supAverage s k uv = if (s.slice k).supChecks then supJudge (s.sensed k e (senseMv s k uv)) k e (senseMv s k uv)
      else s.sensed k e (senseMv s k uv) := by
  simp only [supAverage, hp, he]
  rfl

/-- The state in which a supply above its window has been reported (R92). -/
def State.supHigh (s : State) (k mv : Nat) : State :=
  ((s.set R.AFE_SUP_FAULT_HI 1 k).set R.AFE_SNS_OPEN 0 k).segEvent 1 1 (locSeg k) mv

theorem frontFrame_supHigh (s : State) (k mv : Nat) : FrontFrame s (s.supHigh k mv) :=
  (((FrontFrame.refl s).set ..).set ..).segEvent ..

theorem supJudge_high (s : State) (k : Nat) (e : Entry) (mv : Nat) (h : segSupHi e < mv) :
    supJudge s k e mv = supShutdown (s.supHigh k mv) k := by
  rw [supJudge, if_pos h]
  rfl

theorem exec_supSenseAverage (s : State) (k : Fin 24) (uv : List Nat) (huv : uv ≠ []) :
    exec (.supSenseAverage k uv) s = ran s (after (supAverage s k uv)) := by
  calc exec (.supSenseAverage k uv) s = ranIf (uv != []) "SUP_SENSE_AVERAGE" s (after (supAverage s k uv)) := rfl
    _ = _ := by rw [bne_iff_ne.mpr huv, ranIf_true]

section
variable {s : State} {k : Fin 24} {uv : List Nat} {e : Entry} (hc : s.calm = true) (huv : uv ≠ [])
  (hp : (s.slice k).powered = true) (he : (s.slice k).entry = some e)
include hc huv hp he

theorem exec_supSenseAverage_unchecked (hck : (s.slice k).supChecks = false) :
    exec (.supSenseAverage k uv) s = .next (s.sensed k e (senseMv s k uv)) := by
  rw [exec_supSenseAverage s k uv huv, supAverage_powered s k uv e hp he, hck]
  exact (frontFrame_sensed s k e _).ran_after hc

/-- A value above the window is reported and shuts the segment down, and stands in SUP_MV (R92). -/
theorem exec_supSenseAverage_high (hck : (s.slice k).supChecks = true) (hhi : segSupHi e < senseMv s k uv) :
    ∃ t, exec (.supSenseAverage k uv) s = .next t ∧ t.get R.AFE_SUP_MV k = senseMv s k uv ∧ (t.slice k).bring = .off ∧
      t.get R.AFE_SUP_SHUTDOWN k = 1 ∧ t.get R.AFE_SUP_FAULT_HI k = 1 ∧ t.get R.SLC_SEG_STAT_POWERED k = 0 := by
  rw [exec_supSenseAverage s k uv huv, supAverage_powered s k uv e hp he, hck, if_pos rfl, supJudge_high _ _ _ _ hhi]
  have hf := ((frontFrame_sensed s k e (senseMv s k uv)).trans (frontFrame_supHigh _ k (senseMv s k uv))).trans (frontFrame_supShutdown _ k)
  refine ⟨_, hf.ran_after hc, ?mv, (slice_supShutdown _ k).1, shutdown_supShutdown _ k, ?hi, powered_supShutdown _ k⟩
  case mv =>
    rw [get_supShutdown_kept _ _ _ (by simp)]
    simp (disch := decide) only [State.supHigh, State.get_segEvent, State.get_set_apart]
    exact mv_sensed _ _ _ _ (Nat.min_le_left ..)
  case hi =>
    rw [get_supShutdown_kept _ _ _ (by simp)]
    simp (disch := decide) only [State.supHigh, State.get_segEvent, State.get_set_apart, State.get_set_self]
    rfl

end

/-- Settles O26: a value above the window and an under-voltage that lasts both end in the one shutdown of R92. -/
theorem supplySenseAndHold : Obligations.SupplySenseAndHold := by
  intro s k hc
  have expire : exec (.supLoHoldExpire k) s = ran s (after (supLoExpire s k)) := rfl
  refine ⟨fun uv e huv hp he => ⟨exec_supSenseAverage_unchecked hc huv hp he, exec_supSenseAverage_high hc huv hp he⟩,
    fun hlo => ?_, fun hlo => ?_⟩
  · rw [expire, supLoExpire, if_pos hlo]
    exact (FrontFrame.refl s).ran_after hc
  · have lasted : supLoExpire s k = supShutdown (s.segEvent 1 3 (locSeg k) (s.get R.AFE_SUP_MV k)) k := if_neg hlo
    have hf := ((FrontFrame.refl s).segEvent 1 3 (locSeg k) (s.get R.AFE_SUP_MV k)).trans (frontFrame_supShutdown _ k)
    rw [expire, lasted]
    obtain ⟨hoff, hrun⟩ := slice_supShutdown (s.segEvent 1 3 (locSeg k) (s.get R.AFE_SUP_MV k)) k
    exact ⟨_, hf.ran_after hc, hoff, hrun, shutdown_supShutdown _ k, powered_supShutdown _ k⟩

end Sys2Proof.Machine
end

section
/-! SUPPORT. What judging a line leaves alone, from one tap to the whole bar (JudgingReleasesALine). -/
namespace Sys2Proof.Machine
open Sys2Proof

/-! ## One tap -/

theorem frontFrame_adcOutAdd (s : State) (k n p : Nat) : FrontFrame s (s.adcOutAdd k n p) := { FrontFrame.refl s with }

theorem frontFrame_adcLost (s : State) (k c role tap : Nat) : FrontFrame s (adcLost s k c role tap) :=
  ((((((FrontFrame.refl s).set ..).set ..).raise _ (le_pgAFE k)).segEvent ..).modChan ..).trans (frontFrame_adcOutAdd ..)

theorem frontFrame_adcFailed (s : State) (k c role tap : Nat) : FrontFrame s (adcFailed s k c role tap) := by
  have raised : FrontFrame s (s.raise (pgAFE k) 2) := (FrontFrame.refl s).raise _ (le_pgAFE k)
  unfold adcFailed
  extract_lets ch st s1
  split
  · exact .refl s
  split
  · exact raised
  split
  · exact raised.modChan ..
  · exact raised.trans (frontFrame_adcLost ..)

theorem frontFrame_toSuspect (s : State) (k c : Nat) : FrontFrame s (toSuspect s k c) := by
  have f := FrontFrame.refl s
  have suspect := ((((f.set (r := R.AFE_CHc_STATE) chSUSPECT k c).trans (frontFrame_zestRestart _ k c)).inc
    (r := R.AFE_SUSPECT_CNT) k 0).raise 0 (le_pgAFE k)).modChan k c (fun x => { x with groups := 0, passes := [] })
  refine suspect.trans (frontFrame_each _ (fun t p => ?_) _ _)
  split
  · exact frontFrame_visitNext t k p
  · exact .refl t

theorem frontFrame_zestAdd (s : State) (k c z : Nat) : FrontFrame s (zestAdd s k c z) := by
  have f := FrontFrame.refl s
  unfold zestAdd
  extract_lets est s1
  split
  · exact ((f.modChan ..).set ..).set ..
  · exact (f.modChan ..).set ..

theorem frontFrame_refOf (s : State) (k c mode line : Nat) : FrontFrame s (refOf s k c mode line).2 := by
  have f := FrontFrame.refl s
  unfold refOf
  split
  · exact f
  extract_lets ch d
  split
  · split
    · exact f
    · exact f.draw
  · exact f.draw

theorem frontFrame_refSum (s : State) (refs : List Int) : FrontFrame s (refSum s refs).2 := by
  unfold refSum
  split
  · exact .refl s
  · exact (FrontFrame.refl s).draw

theorem frontFrame_clampError (s : State) (k c mode line : Nat) (code : Int) : FrontFrame s (clampError s k c mode line code).2 := by
  unfold clampError
  split
  · exact (FrontFrame.refl s).modChan ..
  · exact (frontFrame_refSum s _).modChan ..

/-- A tap's judgement takes its estimate and its clamp error in, may declare its converter FAILED, and may bring the input to SUSPECT (R98). -/
theorem frontFrame_judgeTap (s : State) (k c role tap mode line : Nat) (i : TapIn) :
    FrontFrame s (judgeTap s k c role tap mode line i).2 := by
  unfold judgeTap
  extract_lets st s1 win r zBad selfBad pass s2 s3
  have h1 : FrontFrame s s1 := by
    unfold s1
    split
    · exact .refl s
    · exact frontFrame_zestAdd ..
  have hr : FrontFrame s r.2 := by
    unfold r
    split
    · exact h1
    · exact h1.trans (frontFrame_clampError ..)
  have h2 : FrontFrame s s2 := by
    unfold s2
    split
    · exact hr.trans (frontFrame_adcFailed ..)
    · exact hr
  unfold s3
  split
  · exact h2.trans (frontFrame_toSuspect ..)
  split
  · exact h2.modChan ..
  · exact h2

/-! ## One slice -/

theorem frontFrame_judgeInput (x s : State) (k : Nat) (wrapped bad : Bool) (i : Nat × Nat × Nat) (tap : TapIn) :
    FrontFrame s (judgeInput x s k wrapped bad i tap).2 := by
  unfold judgeInput
  extract_lets mode line ref spoilt
  have href : FrontFrame s ref.2 := frontFrame_refOf ..
  split
  · exact href.trans (frontFrame_judgeTap ..)
  · exact href

theorem frontFrame_judgeSlice (s : State) (k : Nat) (wrapped : Bool) (taps : List TapIn) :
    FrontFrame s (judgeSlice s k wrapped taps).2.2.2 := by
  unfold judgeSlice
  extract_lets x bad step role
  split
  · exact .refl s
  extract_lets r d fill matched rows plumb s2
  have hr : FrontFrame s r.2 :=
    List.foldlRecOn (motive := fun (a : List TapJudged × State) => FrontFrame s a.2) _ _ (.refl s)
      (fun _ ha _ _ => ha.trans (frontFrame_judgeInput ..))
  unfold s2
  split
  · exact hr.draw.inc ..
  · exact hr.draw

/-- With no run of Primer a judged slice enters no capture. -/
theorem calLineSlice_no_run (s : State) (k : Nat) (taps : List TapIn) (js : List TapJudged) (h : s.cal.run = none) :
    calLineSlice s k taps js = s := by
  simp [calLineSlice, h]

theorem calLineEnd_no_run (s : State) (h : s.cal.run = none) : calLineEnd s = s := by
  simp [calLineEnd, calCapturing, h]

theorem frontFrame_judgeOne (wrapped : Bool) (taps : List (Nat × List TapIn)) (lanes : List LaneBad)
    (a : List (Nat × List RowData) × List (Nat × PlumbData) × State) (k : Nat) (h : a.2.2.cal.run = none) :
    FrontFrame a.2.2 (judgeOne wrapped taps lanes a k).2.2 := by
  have hj : FrontFrame a.2.2 (judgeSlice a.2.2 k wrapped (smGet [] taps k)).2.2.2 := frontFrame_judgeSlice ..
  simp only [judgeOne]
  rw [calLineSlice_no_run _ _ _ _ (by rw [hj.cal, h])]
  exact hj

/-! ## The lanes -/

theorem frontFrame_laneOut (s : State) (k : Nat) : FrontFrame s (laneOut s k) :=
  (((FrontFrame.refl s).set ..).filEvent ..).raise _ (by decide)

theorem frontFrame_spareLaneFails (s : State) (c : Nat) : FrontFrame s (spareLaneFails s c) := by
  have fails := ((FrontFrame.refl s).set (r := R.SPARE_LANEc_STATE) 2 0 c).set (r := R.SPARE_LANEc_PENDING) 0 0 c
  unfold spareLaneFails
  extract_lets s1
  split
  · exact fails.trans (frontFrame_laneOut ..)
  · exact fails

theorem frontFrame_laneLost (s : State) (k : Nat) : FrontFrame s (laneLost s k) := by
  unfold laneLost
  extract_lets c
  split
  · exact .refl s
  split
  · exact frontFrame_spareLaneFails ..
  split
  · exact ((FrontFrame.refl s).set ..).modFil ..
  · exact frontFrame_laneOut ..

theorem frontFrame_laneCheckFails (s : State) (k : Nat) : FrontFrame s (laneCheckFails s k) :=
  (((FrontFrame.refl s).inc ..).modFil ..).trans (frontFrame_laneLost ..)

theorem frontFrame_laneChecks (s : State) (l : List LaneBad) : FrontFrame s (laneChecks s l) := by
  unfold laneChecks
  extract_lets bad
  exact ((frontFrame_each _ frontFrame_laneCheckFails _ s).trans (frontFrame_each _ frontFrame_laneLost _ _)).modFil _

theorem frontFrame_sramCorrected (s : State) (words : List Nat) : FrontFrame s (sramCorrected s words) :=
  frontFrame_each _ (fun t _ => ((FrontFrame.refl t).inc ..).modFil ..) _ _

/-! ## The line -/

/-- The slices that run judged one after another, with what their judging gives. -/
def judgeAll (s : State) (wrapped : Bool) (taps : List (Nat × List TapIn)) (lanes : List LaneBad) (ce : List Nat) :
    List (Nat × List RowData) × List (Nat × PlumbData) × State :=
  ((List.range 24).filter (frontRuns s)).foldl (judgeOne wrapped taps lanes) ([], [], sramCorrected (laneChecks s lanes) ce)

theorem frontFrame_judgeAll (s : State) (wrapped : Bool) (taps : List (Nat × List TapIn)) (lanes : List LaneBad) (ce : List Nat)
    (h : s.cal.run = none) : FrontFrame s (judgeAll s wrapped taps lanes ce).2.2 :=
  List.foldlRecOn (motive := fun a => FrontFrame s a.2.2) _ _
    ((frontFrame_laneChecks s lanes).trans (frontFrame_sramCorrected _ ce))
    (fun a ha k _ => ha.trans (frontFrame_judgeOne wrapped taps lanes a k (by rw [ha.cal, h])))

/-- In a calm state no run of Primer is under way. -/
theorem run_of_calm (s : State) (h : s.calm = true) : s.cal.run = none := by
  simp only [State.calm, Bool.and_eq_true, Option.isNone_iff_eq_none] at h
  obtain ⟨⟨⟨⟨⟨⟨-, hrun⟩, -⟩, -⟩, -⟩, -⟩, -⟩ := h
  exact hrun

/-- In a job every slice's front end runs (R40). -/
theorem frontRuns_of_inJob (s : State) (k : Nat) (h : s.cal.run = none) (hj : s.inJob = true) : frontRuns s k = true := by
  simp [frontRuns, h, hj]

/-- The line that judging releases. -/
def judgedLine (s : State) (wrapped : Bool) (taps : List (Nat × List TapIn)) (lanes : List LaneBad) (ce : List Nat) : CapLine :=
  let r := judgeAll s wrapped taps lanes ce
  { line := lineJudgedNo s wrapped, slices := r.1, plumb := r.2.1, pos := none, lost := laneFailed lanes, cont := sampledWith s wrapped }

/-- The state in which that line has joined those that stand, and the lanes count again. -/
def lineReleased (s : State) (wrapped : Bool) (taps : List (Nat × List TapIn)) (lanes : List LaneBad) (ce : List Nat) : State :=
  laneLineDone { (judgeAll s wrapped taps lanes ce).2.2 with capLines := s.capLines ++ [judgedLine s wrapped taps lanes ce] } s.fil.skip

/-- Outside CAPTURE no tabs are kept (R307). -/
theorem capTabs_of_not_capture (s : State) (cl : CapLine) (h : s.mode ≠ .capture) : capTabs s cl = s := by
  simp [capTabs, h]

/-- In INSPECT, with the pixel clocks locked, a judged line is released (R97). -/
theorem lineJudged_inspect (s : State) (wrapped : Bool) (taps : List (Nat × List TapIn)) (lanes : List LaneBad) (ce : List Nat)
    (hlock : relocking s = false) (hrun : s.cal.run = none) (hm : s.mode = .inspect) (hstop : s.modePend ≠ some .stopping)
    (hrest : (wrapped && s.timing.restarted) = false) :
    lineJudged s wrapped taps lanes ce = after (lineReleased s wrapped taps lanes ce) := by
  have hall := frontFrame_judgeAll s wrapped taps lanes ce hrun
  have hjob : s.inJob = true := by simp [State.inJob, hm]
  have hany : (List.range 24).any (frontRuns s) = true := List.any_eq_true.mpr ⟨0, by decide, frontRuns_of_inJob s 0 hrun hjob⟩
  have hpass : linesPass (judgeAll s wrapped taps lanes ce).2.2 = true := by simp [linesPass, State.inJob, hall.mode, hm]
  have hend : calLineEnd (judgeAll s wrapped taps lanes ce).2.2 = (judgeAll s wrapped taps lanes ce).2.2 :=
    calLineEnd_no_run _ (by rw [hall.cal, hrun])
  unfold lineJudged
  rw [if_neg (by simp [hlock, hany])]
  extract_lets skip r s1 cl s2
  have h1 : s1 = (judgeAll s wrapped taps lanes ce).2.2 := hend
  have h2 : s2 = { (judgeAll s wrapped taps lanes ce).2.2 with capLines := s.capLines ++ [judgedLine s wrapped taps lanes ce] } := by
    simp only [s2, h1, hpass, hall.modePend, bne_iff_ne.mpr hstop, hrest, hall.capLines]
    rfl
  have hmode : s2.mode = .inspect := by
    rw [h2]
    exact hall.mode.trans hm
  rw [capTabs_of_not_capture s2 cl (by rw [hmode]; decide), h2, lineReleased]

/-- Settles O17: judging keeps to the frame of the front end, so that in a calm INSPECT the released line is all that the lines gain. -/
theorem judgingReleasesALine : Obligations.JudgingReleasesALine := by
  intro s wrapped taps faults htaps hlanes
  have run : exec (.lineJudged wrapped taps faults) s = ran s (lineJudged s wrapped taps faults.lanes faults.ce) := by
    calc exec (.lineJudged wrapped taps faults) s
        = ranIf (tapsOk taps && lanesOk faults.lanes) "LINE_JUDGED" s (lineJudged s wrapped taps faults.lanes faults.ce) := rfl
      _ = _ := by rw [htaps, hlanes, Bool.and_self, ranIf_true]
  refine ⟨fun hlock => ?_, fun hlock hc hm hstop hrest => ?_⟩
  · have idle : lineJudged s wrapped taps faults.lanes faults.ce = s := by simp [lineJudged, hlock]
    rw [run, idle, (FrontFrame.refl s).ran]
  · have hrun := run_of_calm s hc
    have hall := frontFrame_judgeAll s wrapped taps faults.lanes faults.ce hrun
    have hcalm : (lineReleased s wrapped taps faults.lanes faults.ce).calm = true := hall.calm.trans hc
    refine ⟨lineReleased s wrapped taps faults.lanes faults.ce, judgedLine s wrapped taps faults.lanes faults.ce, ?_, rfl, rfl, rfl, hall.mem⟩
    rw [run, lineJudged_inspect s wrapped taps faults.lanes faults.ce hlock hrun hm hstop hrest, after_calm _ hcalm]
    exact ran_eq _ _ hall.same.1 hall.same.2.1 hall.same.2.2

end Sys2Proof.Machine
end

section
/-! SUPPORT. What a level at DF_IN does, from the pin to the declaration with no sheet open (DropFeedInput). -/
namespace Sys2Proof.Machine
open Sys2Proof

/-! ## The qualified level -/

/-- The state in which a level of DF_IN has qualified and nothing has come of it yet (R169). -/
def State.dfQualified (s : State) (level : Bool) : State := { s with plumb := { s.plumb with dfQual := level } }

@[simp] theorem calm_dfQualified (s : State) (level : Bool) : (s.dfQualified level).calm = s.calm := rfl
@[simp] theorem mode_dfQualified (s : State) (level : Bool) : (s.dfQualified level).mode = s.mode := rfl

/-- The state in which the level has qualified and been declared on its own, as cue 3 of the mask, with its event (R169, R170, R177). -/
def State.dfDeclared (s : State) (level : Bool) : State := dfEvent (lapDeclare (s.dfQualified level) 8 0 0) 0 s.plumb.lastP s.ts

/-- Outside a job or with DFIN_EN 0 a level qualifies and no more (R169). -/
theorem dfQualify_unheard (s : State) (level : Bool) (h : s.bit R.LAP_CTRL_DFIN_EN = false ∨ s.inJob = false) :
    dfQualify s level = s.dfQualified level := by
  have unheard (asserted : Bool) : (!(s.bit R.LAP_CTRL_DFIN_EN) || !asserted || !(s.inJob)) = true := by
    rcases h with h | h <;> simp [h]
  simp only [dfQualify, unheard, if_true]
  rfl

/-- In a job the asserted level is declared on its own where no sheet is open (R169, R170). -/
theorem dfQualify_no_sheet (s : State) (level : Bool) (hen : s.bit R.LAP_CTRL_DFIN_EN = true) (hjob : s.inJob = true)
    (hsheet : s.plumb.sheet = none) (hlevel : level = !(s.bit R.LAP_CTRL_DFIN_POL)) :
    dfQualify s level = s.dfDeclared level := by
  unfold dfQualify
  extract_lets _ s1 asserted
  have hasserted : asserted = true := by
    simp only [asserted, hlevel]
    cases s.bit R.LAP_CTRL_DFIN_POL <;> rfl
  have hs1 : s1.plumb.sheet = none := hsheet
  rw [if_neg (by simp [hen, hjob, hasserted]), hs1]
  rfl

/-- A level that the pin does not hold, or that is qualified already, is no news (R169). -/
theorem dfStood_no_news (s : State) (level : Bool) (h : s.plumb.dfRaw ≠ level ∨ s.plumb.dfQual = level) : dfStood s level = s := by
  rw [dfStood, if_neg fun ⟨hraw, hqual⟩ => h.elim (· hraw) hqual]

theorem dfStood_news (s : State) (level : Bool) (hraw : s.plumb.dfRaw = level) (hqual : s.plumb.dfQual ≠ level) :
    dfStood s level = after (dfQualify s level) := by
  rw [dfStood, if_pos ⟨hraw, hqual⟩]

/-- With a debounce time set an edge is kept as the pin's level (R169). -/
theorem dfRawEdge_debounced (s : State) (level : Bool) (h : s.get R.LAP_DFIN_DEB ≠ 0) :
    dfRawEdge s level = { s with plumb := { s.plumb with dfRaw := level } } := by
  rw [dfRawEdge, if_neg h]

/-! ## The declaration -/

/-- Raising a flag leaves every field above the headers, but for those of the IRQ page. -/
theorem State.get_raise_above_header (s : State) (page b : Nat) (r : Row)
    (h : r.page ≠ pgIRQ ∧ 0x40 ≤ r.off ∧ r.off < 0x1000 ∧ r.lsb < 32) : (s.raise page b).get r = s.get r := by
  simp only [pgIRQ] at h
  apply raiseMask_get <;> simp only [Row.code, R.IRQ_EVT_MERGED, R.IRQ_RAW, R.EVT_CNT, ne_eq] <;> omega

/-- The state in which a declaration stands in its status bit and has been counted (R170). -/
def State.lapCounted (s : State) : State := (s.set R.LAP_STAT_DF 1).inc R.LAP_DF_CNT

/-- Outside CAPTURE nothing is halted for a declaration (R171). -/
theorem lapDeclare_of_not_capture (s : State) (mask conf slices : Nat) (h : s.mode ≠ .capture) :
    lapDeclare s mask conf slices = lapShow (s.lapCounted.raise pgPLUMB 4) mask conf slices := by
  simp [lapDeclare, State.lapCounted, h]

section
variable (s : State) (mask conf slices : Nat)

theorem sameFrame_lapDeclare : SameFrame s (lapDeclare s mask conf slices) := by
  have raised := sameFrame_raise s.lapCounted pgPLUMB 4
  exact SameFrame.ite raised raised

theorem mem_lapDeclare : (lapDeclare s mask conf slices).mem = s.mem := by
  have raised := raise_mem s.lapCounted pgPLUMB 4
  unfold lapDeclare
  extract_lets s1
  split <;> exact raised

theorem dfQual_lapDeclare : (lapDeclare s mask conf slices).plumb.dfQual = s.plumb.dfQual := by
  unfold lapDeclare
  extract_lets s1
  have raised : s1.plumb.dfQual = s.plumb.dfQual :=
    congrArg Plumb.dfQual (raise_plumb s.lapCounted pgPLUMB 4)
  split <;> exact raised

/-- The interrupt and what LAP_STAT shows of a declaration leave its status bit and its count. -/
theorem get_lapDeclare (r : Row) (hr : r ∈ [R.LAP_STAT_DF, R.LAP_DF_CNT]) :
    (lapDeclare s mask conf slices).get r = s.lapCounted.get r := by
  have shown : (lapDeclare s mask conf slices).get r =
      (lapShow (s.lapCounted.raise pgPLUMB 4) mask conf slices).get r := by
    unfold lapDeclare
    extract_lets s1
    split <;> rfl
  simp only [List.mem_cons, List.not_mem_nil, or_false] at hr
  rcases hr with rfl | rfl
  all_goals
    rw [shown]
    simp (disch := decide) only [lapShow, State.get_set_apart, State.get_raise_above_header]

theorem df_lapDeclare : (lapDeclare s mask conf slices).get R.LAP_STAT_DF = 1 := by
  rw [get_lapDeclare _ _ _ _ _ (by simp), State.lapCounted, State.inc, State.incBy, State.get_set_apart _ _ _ _ _ (by decide), State.get_set_self]
  rfl

theorem count_lapDeclare :
    (lapDeclare s mask conf slices).get R.LAP_DF_CNT = min (s.get R.LAP_DF_CNT + 1) (Row.max R.LAP_DF_CNT) := by
  rw [get_lapDeclare _ _ _ _ _ (by simp), State.lapCounted, State.inc, State.incBy, State.get_set_self, State.get_set_apart _ _ _ _ _ (by decide)]
  exact Nat.mod_eq_of_lt (Nat.lt_of_le_of_lt (Nat.min_le_right ..) (by decide))

/-- Outside CAPTURE a declaration leaves a calm state calm. -/
theorem calm_lapDeclare (h : s.mode ≠ .capture) : (lapDeclare s mask conf slices).calm = s.calm := by
  rw [lapDeclare_of_not_capture s mask conf slices h]
  simp (disch := decide) only [lapShow, State.lapCounted, State.inc, State.incBy, calm_set, calm_raise]

end

/-- Settles O21: a level that is news qualifies, and in a calm INSPECT with no sheet open the asserted one is the one declaration of R170. -/
theorem dropFeedInput : Obligations.DropFeedInput := by
  intro s level
  have edge : exec (.dfInRawEdge level) s = ran s (dfRawEdge s level) := rfl
  have stood : exec (.dfInQualify level) s = ran s (dfStood s level) := rfl
  refine ⟨fun hdeb => ?_, fun hold => ?_, fun hraw hqual hcalm => ⟨fun hout => ?_, fun hen hmode hsheet hlevel => ?_⟩⟩
  · rw [edge, dfRawEdge_debounced s level hdeb]
    rfl
  · rw [stood, dfStood_no_news s level hold]
    rfl
  · rw [stood, dfStood_news s level hraw hqual, dfQualify_unheard s level hout, after_calm _ ((calm_dfQualified s level).trans hcalm)]
    rfl
  · have hjob : s.inJob = true := by simp [State.inJob, hmode]
    have hnews : dfStood s level = after (s.dfDeclared level) := by
      rw [dfStood_news s level hraw hqual, dfQualify_no_sheet s level hen hjob hsheet hlevel]
    have hc : (s.dfDeclared level).calm = true := (calm_lapDeclare (s.dfQualified level) 8 0 0 (by simp [hmode])).trans hcalm
    obtain ⟨hpending, hnow, hvariant⟩ := sameFrame_lapDeclare (s.dfQualified level) 8 0 0
    refine ⟨s.dfDeclared level, ?_, dfQual_lapDeclare _ 8 0 0, df_lapDeclare _ 8 0 0, count_lapDeclare _ 8 0 0, mem_lapDeclare _ 8 0 0⟩
    rw [stood, hnews, after_calm _ hc]
    exact ran_eq s _ hpending hnow hvariant

end Sys2Proof.Machine
end

section
/-! SUPPORT. What Straightedge hands to Hod: its events with their flags, the end of a limited second, and the health map
(StraightedgeReports). -/
namespace Sys2Proof.Machine
open Sys2Proof

/-! ## The outbox under a raised flag -/

/-- An IRQ event joins the outbox behind what waits there (R511). -/
theorem outbox_irqEvent_prefix (s : State) (page : Nat) : s.outbox <+: (s.irqEvent page).outbox := by
  refine ⟨[{ cls := 0, prod := 0x03, kind := 0x01, payload := irqEventBytes s page, item := none }], ?_⟩
  unfold State.irqEvent
  split <;> rfl

theorem outbox_irqRise_prefix (s : State) (page : Nat) : s.outbox <+: (s.irqRise page).outbox := by
  rcases irqRise_cases s page with unchanged | event | merged
  · exact unchanged.symm ▸ List.prefix_rfl
  · exact event.symm ▸ outbox_irqEvent_prefix s page
  · exact merged.symm ▸ List.prefix_rfl

theorem outbox_irqAfter_prefix (s t : State) (page : Nat) : t.outbox <+: (s.irqAfter t page).outbox := by
  rcases irqAfter_cases s t page with unchanged | rise
  · exact unchanged.symm ▸ List.prefix_rfl
  · exact rise.symm ▸ outbox_irqRise_prefix t page

theorem outbox_raise_prefix (s : State) (page b : Nat) : s.outbox <+: (s.raise page b).outbox := by
  unfold State.raise State.raiseMask
  refine List.IsPrefix.trans ?_ (outbox_irqAfter_prefix s _ page)
  exact List.prefix_rfl

/-- What raising flags leaves of a state that Straightedge reports from: its own part, and the outbox but for records behind it. -/
structure FlagFrame (s t : State) : Prop where
  same : SameFrame s t
  ins : t.ins = s.ins
  outbox : s.outbox <+: t.outbox

theorem FlagFrame.raise {s t : State} (h : FlagFrame s t) (page b : Nat) : FlagFrame s (t.raise page b) where
  same := h.same.trans (sameFrame_raise t page b)
  ins := (raise_ins t page b).trans h.ins
  outbox := h.outbox.trans (outbox_raise_prefix t page b)

/-! ## An event sent -/

/-- An event as a record of class 0, with its number and its crop's sequence number (R231, R233). -/
def insEvtPkt (e : InsEvt) (num : Nat) (crop : Option Nat) : OutPkt :=
  { cls := 0, prod := 0x06, kind := 0x01, item := e.pos.map (·.n), payload := insEvtBytes e num crop }

def State.nextEvtNum (s : State) : Nat := (s.ins.evtNum + 1) % 2 ^ 32

/-- The state in which the event has its number and waits in the outbox, and no flag has been raised for it. -/
def State.insHanded (s : State) (e : InsEvt) (crop : Option Nat) : State :=
  { s with ins := { s.ins with evtNum := s.nextEvtNum }, outbox := s.outbox ++ [insEvtPkt e s.nextEvtNum crop] }

section
variable (s : State) (e : InsEvt) (crop : Option Nat)

/-- All that sending does besides is to raise EVENT, and NOZZLE or SUPPRESS for the events of those codes. -/
theorem flagFrame_insSend : FlagFrame (s.insHanded e crop) (insSend s e crop) := by
  have handed : FlagFrame (s.insHanded e crop) (s.insHanded e crop) := ⟨.rfl, rfl, List.prefix_rfl⟩
  have raised := handed.raise pgINS 0
  unfold insSend
  extract_lets n s1 s2
  split
  · exact raised.raise pgINS 1
  · split
    · exact raised.raise pgINS 2
    · exact raised

theorem sameFrame_insSend : SameFrame s (insSend s e crop) := (flagFrame_insSend s e crop).same

theorem ins_insSend : (insSend s e crop).ins = { s.ins with evtNum := s.nextEvtNum } := (flagFrame_insSend s e crop).ins

theorem outbox_insSend : ∃ rest, (insSend s e crop).outbox = s.outbox ++ insEvtPkt e s.nextEvtNum crop :: rest := by
  obtain ⟨rest, h⟩ := (flagFrame_insSend s e crop).outbox
  exact ⟨rest, h.symm.trans (List.append_assoc ..)⟩

end

/-- A command whose effect keeps to the frame answers the state that the effect leaves. -/
theorem SameFrame.ran {s t : State} (h : SameFrame s t) : ran s t = .next t :=
  have ⟨hpending, hnow, hvariant⟩ := h
  ran_eq s t hpending hnow hvariant

/-! ## The commands -/

/-- The sequence number that an event's crop has been committed under, if it has been (R233). -/
def InsWait.crop (w : InsWait) : Option Nat := if w.st = 3 then some w.seq else none

/-- The state in which an event waits no longer for its crop (R233). -/
def State.insUnwaited (s : State) (w : InsWait) : State := { s with ins := { s.ins with waits := s.ins.waits.erase w } }

theorem insEventSend_found (s : State) (w : InsWait) (h : s.ins.waits.find? (fun x => decide (2 ≤ x.st)) = some w) :
    insEventSend s = insSend (s.insUnwaited w) w.e w.crop := by
  rw [insEventSend, h]
  rfl

/-- The state in which a new second begins for the limits (R234). -/
def State.insUnlimited (s : State) : State := { s with ins := { s.ins with rate := [] } }

/-- Limited to 16 bits, the counts are all 0 exactly where nothing was held back. -/
theorem limited_counts_zero (m : List (Nat × Nat × Nat)) :
    [1, 2, 3, 4, 5].all (fun c => decide (min 65535 (smGet (0, 0) m c).2 = 0)) =
      [1, 2, 3, 4, 5].all (fun c => (smGet (0, 0) m c).2 == 0) := by
  congr 1
  funext c
  rw [Bool.eq_iff_iff, decide_eq_true_eq, beq_iff_eq]
  omega

theorem insRateEnd_none_held (s : State) (h : [1, 2, 3, 4, 5].all (fun c => (smGet (0, 0) s.ins.rate c).2 == 0) = true) :
    insRateEnd s = s.insUnlimited :=
  if_pos ((limited_counts_zero s.ins.rate).trans h)

/-- Otherwise they leave in one SUPPRESSED event, of code 6 (R234). -/
theorem insRateEnd_some_held (s : State) (h : [1, 2, 3, 4, 5].all (fun c => (smGet (0, 0) s.ins.rate c).2 == 0) = false) :
    ∃ e, e.code = 6 ∧ insRateEnd s = insSend s.insUnlimited e none :=
  ⟨_, rfl, if_neg (Bool.eq_false_iff.mp ((limited_counts_zero s.ins.rate).trans h))⟩

/-- A health map is one record of kind 0x22 of class 2 (R226). -/
theorem outbox_healthSend (s : State) :
    ∃ p, (healthSend s).outbox = s.outbox ++ [p] ∧ p.cls = 2 ∧ p.prod = 0x06 ∧ p.kind = 0x22 := ⟨_, rfl, rfl, rfl, rfl⟩

theorem regs_healthSend (s : State) : (healthSend s).regs = s.regs := rfl

theorem sameFrame_healthSend (s : State) : SameFrame s (healthSend s) := .rfl

/-- Settles O22: an event handed over stands in the outbox ahead of the IRQ events that its flags bring about. -/
theorem straightedgeReports : Obligations.StraightedgeReports := by
  refine ⟨fun s w hw => ?event, fun s hzero => ?noneHeld, fun s hsome => ?someHeld, fun s ag htakes => ?health⟩
  case event =>
    have sent : exec .insEventSend s = ran s (insEventSend s) := rfl
    obtain ⟨rest, hout⟩ := outbox_insSend (s.insUnwaited w) w.e w.crop
    have hins := ins_insSend (s.insUnwaited w) w.e w.crop
    refine ⟨_, rest, ?_, congrArg Ins.waits hins, congrArg Ins.evtNum hins, hout⟩
    rw [sent, insEventSend_found s w hw]
    exact (sameFrame_insSend (s.insUnwaited w) w.e w.crop).ran
  case noneHeld =>
    have ended : exec .insRateSecondEnd s = ran s (insRateEnd s) := rfl
    rw [ended, insRateEnd_none_held s hzero]
    rfl
  case someHeld =>
    have ended : exec .insRateSecondEnd s = ran s (insRateEnd s) := rfl
    obtain ⟨e, -, hsend⟩ := insRateEnd_some_held s hsome
    obtain ⟨rest, hout⟩ := outbox_insSend s.insUnlimited e none
    refine ⟨_, _, rest, ?_, congrArg Ins.rate (ins_insSend s.insUnlimited e none), hout, rfl, rfl⟩
    rw [ended, hsend]
    exact (sameFrame_insSend s.insUnlimited e none).ran
  case health =>
    have asked : exec (.insCtrlHealthReq ag) s = ran s (gate s ag pgINS 0x040 0x100 healthSend) := rfl
    obtain ⟨p, hout, hcls, hprod, hkind⟩ := outbox_healthSend s
    refine ⟨healthSend s, p, ?_, hout, hcls, hprod, hkind, regs_healthSend s⟩
    rw [asked, gate_takes s ag pgINS 0x040 0x100 healthSend htakes]
    exact (sameFrame_healthSend s).ran

end Sys2Proof.Machine
end

section
/-! SUPPORT. What Roller's operations leave alone: a frame over the registers that they write, with the rules of positions, moves and halts. -/
namespace Sys2Proof.Machine
open Sys2Proof

/-! ## The frame of Roller -/

/-- The fields that raised flags and recorded errors write, on whichever page (R507, R508). -/
def flagRows : List Row := [R.IRQ_RAW, R.EVT_CNT, R.IRQ_EVT_MERGED, R.ERR_CODE, R.ERR_INFO, R.BLK_STAT_ERR_OVW]

/-- The field shares its place in a page with none of the fields of `L`, nor with one of a flag or an error. -/
def Row.clear (r : Row) (L : List Row) : Bool :=
  decide (r.off < 0x1000 ∧ r.lsb < 32) &&
    (flagRows ++ L).all (fun q => decide (q.off < 0x1000 ∧ q.lsb < 32 ∧ (q.off ≠ r.off ∨ q.lsb ≠ r.lsb)))

theorem Row.code_ne_of_clear {r : Row} {L : List Row} (h : Row.clear r L = true) (p : Nat) :
    ∀ q ∈ flagRows ++ L, ∀ p', Row.code r p 0 ≠ Row.code q p' 0 := by
  intro q hq p'
  simp only [Row.clear, Bool.and_eq_true, decide_eq_true_eq, List.all_eq_true] at h
  obtain ⟨hr, hall⟩ := h
  have hapart := hall q hq
  simp only [Row.code, Nat.mul_zero]
  omega

/-- What an operation of Roller that writes the fields `L` leaves alone: with the queue and DRAM, all that decides what follows a command. -/
structure RollerFrame (L : List Row) (s t : State) : Prop where
  same : SameFrame s t
  mem : t.mem = s.mem
  plumb : t.plumb = s.plumb
  cal : t.cal = s.cal
  boot : t.pwr.boot = s.pwr.boot
  fault : t.rol.fault = s.rol.fault
  primer : t.rol.primer = s.rol.primer
  due : ∀ a, (t.axis a).due = (s.axis a).due
  regs : ∀ c, (∀ r ∈ flagRows ++ L, ∀ p, c ≠ Row.code r p 0) → smFind t.regs c = smFind s.regs c

theorem RollerFrame.refl (L : List Row) (s : State) : RollerFrame L s s :=
  ⟨.rfl, rfl, rfl, rfl, rfl, rfl, rfl, fun _ => rfl, fun _ _ => rfl⟩

/-- The fields that what follows a command turns on are none of `L` (R34, R431). -/
def hooksClear (L : List Row) : Bool := Row.clear R.CAL_STAT_GAP L && Row.clear R.CAL_CTRL_GAP_EN L

section
variable {L M : List Row} {s t u : State}

theorem RollerFrame.trans (h : RollerFrame L s t) (g : RollerFrame M t u) (hM : M ⊆ L := by decide) : RollerFrame L s u where
  same := h.same.trans g.same
  mem := g.mem.trans h.mem
  plumb := g.plumb.trans h.plumb
  cal := g.cal.trans h.cal
  boot := g.boot.trans h.boot
  fault := g.fault.trans h.fault
  primer := g.primer.trans h.primer
  due := fun a => (g.due a).trans (h.due a)
  regs := fun c hc => (g.regs c fun r hr => hc r (by
    rcases List.mem_append.mp hr with hf | hm
    · exact List.mem_append_left _ hf
    · exact List.mem_append_right _ (hM hm))).trans (h.regs c hc)

theorem RollerFrame.each {α : Type} {f : State → α → State} (h : RollerFrame L s t) (l : List α) (hf : ∀ s a, RollerFrame L s (f s a)) :
    RollerFrame L s (t.each l f) :=
  List.foldlRecOn (motive := RollerFrame L s) l f h (fun u hu a _ => hu.trans (hf u a) (List.Subset.refl L))

variable (h : RollerFrame L s t)
include h

theorem RollerFrame.get (r : Row) (p : Nat) (hr : Row.clear r L = true := by decide) : t.get r p = s.get r p := by
  simp only [State.get, h.regs _ (Row.code_ne_of_clear hr p), h.same.2.2]

theorem RollerFrame.bit (r : Row) (p : Nat) (hr : Row.clear r L = true := by decide) : t.bit r p = s.bit r p := by
  simp only [State.bit, h.get r p hr]

theorem RollerFrame.mode (hr : Row.clear R.SYS_MODE_CUR L = true := by decide) : t.mode = s.mode := by
  simp only [State.mode, h.get _ _ hr]

theorem RollerFrame.calm (hL : hooksClear L = true := by decide) : t.calm = s.calm := by
  simp only [hooksClear, Bool.and_eq_true] at hL
  simp only [State.calm, State.noneDue, h.fault, h.plumb, h.cal, h.primer, h.boot, h.due, h.bit _ _ hL.1, h.bit _ _ hL.2]

/-- In a calm state nothing follows a command that keeps to the frame. -/
theorem RollerFrame.ran_after (hc : s.calm = true) (hL : hooksClear L = true := by decide) : Machine.ran s (after t) = .next t := by
  rw [after_calm t ((h.calm hL).trans hc), h.same.ran]

theorem RollerFrame.set (r : Row) (v p : Nat) (hr : r ∈ L := by decide) : RollerFrame L s (t.set r v p) :=
  h.trans { RollerFrame.refl L t with
    regs := fun _ hc => smFind_smPut_ne _ _ _ _ (hc r (List.mem_append_right _ hr) p) } (List.Subset.refl L)

theorem RollerFrame.inc (r : Row) (p : Nat) (hr : r ∈ L := by decide) : RollerFrame L s (t.inc r p) := h.set r _ p hr

theorem RollerFrame.set64 (lo hi : Row) (v p : Nat) (hlo : lo ∈ L := by decide) (hhi : hi ∈ L := by decide) :
    RollerFrame L s (t.set64 lo hi v p) := (h.set lo _ p hlo).set hi _ p hhi

theorem RollerFrame.raise (page b : Nat) : RollerFrame L s (t.raise page b) := by
  refine h.trans ⟨sameFrame_raise t page b, ?_, ?_, ?_, ?_, ?_, ?_, fun a => ?_, fun c hc => ?regs⟩ (List.Subset.refl L)
  case regs =>
    have hne (r : Row) (hr : r ∈ flagRows) (p : Nat) : c ≠ Row.code r p 0 := hc r (List.mem_append_left _ hr) p
    exact raiseMask_find t page (2 ^ b) c (hne _ (by decide) 0) (hne _ (by decide) page) (hne _ (by decide) page)
  all_goals simp [State.axis]

theorem RollerFrame.err (page code info : Nat) : RollerFrame L s (t.err page code info) := by
  refine h.trans ⟨⟨?_, ?_, ?_⟩, ?_, ?_, ?_, ?_, ?_, ?_, fun a => ?_, fun c hc => ?regs⟩ (List.Subset.refl L)
  case regs =>
    have hne (r : Row) (hr : r ∈ flagRows) (p : Nat) : c ≠ Row.code r p 0 := hc r (List.mem_append_left _ hr) p
    exact err_find t page code info c (hne _ (by decide) page) (hne _ (by decide) page) (hne _ (by decide) page)
  all_goals simp [State.axis]

theorem RollerFrame.emit (cls prod kind : Nat) (bs : List (BitVec 8)) : RollerFrame L s (t.emit cls prod kind bs) :=
  h.trans { RollerFrame.refl L t with } (List.Subset.refl L)

theorem RollerFrame.event (axis code detail inp : Nat) : RollerFrame L s (rollerEvent t axis code detail inp) := h.emit ..

theorem RollerFrame.draw : RollerFrame L s t.draw.2 := h.trans { RollerFrame.refl L t with } (List.Subset.refl L)

theorem RollerFrame.modRol (f : Roller → Roller) (ha : (f t.rol).axes = t.rol.axes := by rfl) (hf : (f t.rol).fault = t.rol.fault := by rfl)
    (hp : (f t.rol).primer = t.rol.primer := by rfl) : RollerFrame L s (t.modRol f) :=
  h.trans { RollerFrame.refl L t with
    fault := hf, primer := hp
    due := fun a => by simp only [State.axis, State.modRol, ha] } (List.Subset.refl L)

theorem RollerFrame.modAxis (a : Nat) (f : Axis → Axis) (hd : (f (t.axis a)).due = (t.axis a).due := by rfl) :
    RollerFrame L s (t.modAxis a f) := by
  refine h.trans { RollerFrame.refl L t with due := fun b => ?_ } (List.Subset.refl L)
  by_cases e : b = a
  · subst e
    simpa [State.axis, State.modAxis, smMod] using hd
  · simp [State.axis, State.modAxis, smMod, smGet_smPut_ne, e]

end

/-! ## Axes under the named updates -/

@[simp] theorem axis_modAxis_self (s : State) (a : Nat) (f : Axis → Axis) : (s.modAxis a f).axis a = f (s.axis a) := by
  simp [State.axis, State.modAxis, smMod]

theorem axis_modAxis_ne (s : State) (a b : Nat) (f : Axis → Axis) (h : b ≠ a) : (s.modAxis a f).axis b = s.axis b := by
  simp [State.axis, State.modAxis, smMod, smGet_smPut_ne, h]

/-- A change of one axis that keeps a part of it keeps that part of every axis. -/
theorem axis_modAxis_kept {α : Type} (part : Axis → α) (s : State) (a b : Nat) (f : Axis → Axis) (h : part (f (s.axis a)) = part (s.axis a)) :
    part ((s.modAxis a f).axis b) = part (s.axis b) := by
  by_cases e : b = a
  · rw [e, axis_modAxis_self, h]
  · rw [axis_modAxis_ne s a b f e]

@[simp] theorem axis_set (s : State) (r : Row) (v p i a : Nat) : (s.set r v p i).axis a = s.axis a := rfl
@[simp] theorem axis_raise (s : State) (page b a : Nat) : (s.raise page b).axis a = s.axis a := by simp [State.axis]
@[simp] theorem axis_rollerEvent (s : State) (x code detail inp a : Nat) : (rollerEvent s x code detail inp).axis a = s.axis a := rfl
@[simp] theorem get_modRol (s : State) (f : Roller → Roller) (r : Row) (p i : Nat) : (s.modRol f).get r p i = s.get r p i := rfl

theorem get_raise_clear (s : State) (page b : Nat) (r : Row) (p : Nat) (hr : Row.clear r [] = true := by decide) :
    (s.raise page b).get r p = s.get r p := ((RollerFrame.refl [] s).raise page b).get r p hr

/-- A field set to a value is that value on its own page, and stays it under a set of the same value on any page. -/
theorem get_set_same_value (s : State) (r : Row) (v p p' : Nat) (h : s.get r p = v % 2 ^ r.width) :
    (s.set r v p').get r p = v % 2 ^ r.width := by
  by_cases e : Row.code r p 0 = Row.code r p' 0
  · simp [State.get, State.set, e]
  · rw [State.get_set_ne _ _ _ _ _ _ _ _ e, h]

/-- A counter counts up to its field's greatest value. -/
theorem get_inc_self (s : State) (r : Row) (p i : Nat) : (s.inc r p i).get r p i = min (s.get r p i + 1) (Row.max r) := by
  have hfits : min (s.get r p i + 1) (Row.max r) < 2 ^ r.width :=
    Nat.lt_of_le_of_lt (Nat.min_le_right ..) (Nat.sub_lt (Nat.two_pow_pos _) Nat.one_pos)
  rw [State.inc, State.incBy, State.get_set_self, Nat.mod_eq_of_lt hfits]

/-! ## Positions (R240, R266) -/

theorem ofTwos_mod (w n : Nat) : ofTwos w (n % 2 ^ w) = ofTwos w n := by simp [ofTwos]

theorem ofTwos_toTwos_ofTwos (w n : Nat) : ofTwos w (toTwos w (ofTwos w n)) = ofTwos w n := by
  have hlt : n % 2 ^ w < 2 ^ w := Nat.mod_lt _ (Nat.two_pow_pos w)
  have key : toTwos w (ofTwos w n) = n % 2 ^ w := by
    unfold toTwos ofTwos
    generalize n % 2 ^ w = m at hlt
    generalize 2 ^ w = k at hlt
    split
    · rw [Int.emod_eq_of_lt (by omega) (by omega)]; rfl
    · have : ((m : Int) - (k : Int)) % (k : Int) = m := by
        rw [Int.sub_emod_right, Int.emod_eq_of_lt (by omega) (by omega)]
      rw [this]; rfl
  rw [key, ofTwos_mod]

/-- A quantity held in two fields reads as it was stored, modulo their width. -/
theorem get64_set64 (s : State) (lo hi : Row) (v p i : Nat) (hne : Row.code lo p i ≠ Row.code hi p i) (hlo : lo.width = 32) :
    (s.set64 lo hi v p i).get64 lo hi p i = v % 2 ^ (32 + hi.width) := by
  rw [State.get64, State.set64, State.get_set_self, State.get_set_ne _ _ _ _ _ _ _ _ hne, State.get_set_self, hlo, Nat.mod_mod, Nat.pow_add,
    Nat.mod_mul, Nat.mul_comm]

def posRows : List Row := [R.MOT_AXa_POS_LO, R.MOT_AXa_POS_HI, R.MOT_AXa_USTEP_IDX]

theorem frame_setPos (s : State) (a : Nat) (p : Int) : RollerFrame posRows s (setPos s a p) :=
  ((RollerFrame.refl posRows s).set64 _ _ _ a).set _ _ a

theorem RollerFrame.axPos {L : List Row} {s t : State} (h : RollerFrame L s t) (a : Nat)
    (hlo : Row.clear R.MOT_AXa_POS_LO L = true := by decide) (hhi : Row.clear R.MOT_AXa_POS_HI L = true := by decide) :
    Machine.axPos t a = Machine.axPos s a := by
  simp only [Machine.axPos, State.get64, h.get _ _ hlo, h.get _ _ hhi]

theorem axPos_setPos (s : State) (a : Nat) (p : Int) : axPos (setPos s a p) a = ofTwos 48 (toTwos 48 p) := by
  have idx : RollerFrame [R.MOT_AXa_USTEP_IDX] (s.set64 R.MOT_AXa_POS_LO R.MOT_AXa_POS_HI (toTwos 48 p) a) (setPos s a p) :=
    (RollerFrame.refl _ _).set _ _ a
  rw [idx.axPos, axPos, get64_set64 _ _ _ _ _ _ (by simp only [Row.code, R.MOT_AXa_POS_LO, R.MOT_AXa_POS_HI]; omega) rfl]
  exact ofTwos_mod 48 _

theorem axPos_setPos_ne (s : State) (a b : Nat) (p : Int) (h : b ≠ a) : axPos (setPos s a p) b = axPos s b := by
  have hne (r q : Row) (hr : r ∈ posRows) (hq : q ∈ posRows) : Row.code r b 0 ≠ Row.code q a 0 := by
    simp only [posRows, List.mem_cons, List.not_mem_nil, or_false] at hr hq
    rcases hr with rfl | rfl | rfl <;> rcases hq with rfl | rfl | rfl <;>
      simp only [Row.code, R.MOT_AXa_POS_LO, R.MOT_AXa_POS_HI, R.MOT_AXa_USTEP_IDX] <;> omega
  have apart (r : Row) (hr : r ∈ posRows) : (setPos s a p).get r b = s.get r b := by
    simp only [setPos, idxShow, State.set64]
    rw [State.get_set_ne _ _ _ _ _ _ _ _ (hne _ _ hr (by decide)), State.get_set_ne _ _ _ _ _ _ _ _ (hne _ _ hr (by decide)),
      State.get_set_ne _ _ _ _ _ _ _ _ (hne _ _ hr (by decide))]
  simp only [axPos, State.get64, apart _ (show R.MOT_AXa_POS_LO ∈ posRows by decide), apart _ (show R.MOT_AXa_POS_HI ∈ posRows by decide)]

/-- A spare shadows another axis, never itself (R266). -/
theorem shadowOf_ne {s : State} {a g : Nat} (h : shadowOf s a = some g) : a ≠ g := by
  have hg := List.find?_some h
  simp only [Bool.and_eq_true, bne_iff_ne] at hg
  exact hg.1.2.symm

theorem frame_posLoad (s : State) (a : Nat) (p : Int) : RollerFrame posRows s (posLoad s a p) := by
  unfold posLoad
  split
  · exact (frame_setPos s a p).trans (frame_setPos _ _ _)
  · exact frame_setPos s a p

theorem frame_posShift (s : State) (a : Nat) (d : Int) : RollerFrame posRows s (posShift s a d) := by
  unfold posShift
  extract_lets s1
  split
  · exact (frame_setPos s a _).trans (frame_setPos _ _ _)
  · exact frame_setPos s a _

theorem axPos_posLoad (s : State) (a : Nat) (p : Int) : axPos (posLoad s a p) a = ofTwos 48 (toTwos 48 p) := by
  unfold posLoad
  split
  case h_1 g hg => rw [axPos_setPos_ne _ _ _ _ (shadowOf_ne hg), axPos_setPos]
  case h_2 => exact axPos_setPos s a p

theorem axPos_posShift (s : State) (a : Nat) (d : Int) : axPos (posShift s a d) a = ofTwos 48 (toTwos 48 (axPos s a + d)) := by
  unfold posShift
  extract_lets s1
  split
  case h_1 g hg => rw [axPos_setPos_ne _ _ _ _ (shadowOf_ne hg), axPos_setPos]
  case h_2 => exact axPos_setPos s a _

theorem rol_posShift (s : State) (a : Nat) (d : Int) : (posShift s a d).rol = s.rol := by
  unfold posShift
  extract_lets s1
  split <;> rfl

theorem rol_posLoad (s : State) (a : Nat) (p : Int) : (posLoad s a p).rol = s.rol := by
  unfold posLoad
  split <;> rfl

theorem frame_stepPulse (s : State) (a : Nat) : RollerFrame [] s (stepPulse s a) := (RollerFrame.refl [] s).modAxis a _

theorem frame_posStep (s : State) (a : Nat) (neg : Bool) : RollerFrame posRows s (posStep s a neg) :=
  ((RollerFrame.refl posRows s).trans (frame_stepPulse s a)).trans (frame_posShift _ a _)

theorem axPos_posStep (s : State) (a : Nat) (neg : Bool) :
    axPos (posStep s a neg) a = ofTwos 48 (toTwos 48 (axPos s a + (if neg then -1 else 1))) := by
  rw [posStep, axPos_posShift, (frame_stepPulse s a).axPos]

/-! ## Moves begin and end (R247, R252, R254) -/

def busyRows : List Row := [R.MOT_AXa_STAT_SEG, R.MOT_AXa_STAT_BUSY]

theorem frame_setMove (s : State) (a : Nat) (m : Option Move) : RollerFrame [] s (setMove s a m) := (RollerFrame.refl [] s).modAxis a _

theorem frame_busySet (s : State) (a : Nat) (b : Bool) : RollerFrame busyRows s (busySet s a b) := (RollerFrame.refl busyRows s).set _ _ a

theorem frame_beginMove (s : State) (a : Nat) (m : Move) : RollerFrame busyRows s (beginMove s a m) := by
  have lead : RollerFrame busyRows s
      ((setMove (busySet (s.set R.MOT_AXa_STAT_SEG 0 a) a true) a
        (some { m with dirs := m.followers.map (fun f => (f.1, s.bit R.MOT_AXa_MOVE_DIR f.1 != m.rev)) })).modAxis a
          (fun x => { x with dir := m.neg })) :=
    ((((RollerFrame.refl busyRows s).set _ _ a).trans (frame_busySet _ a true)).trans (frame_setMove _ a _)).modAxis a _
  refine lead.each _ fun t f => ?_
  exact (frame_busySet t f.1 true).modAxis f.1 _

theorem frame_advAborted (s : State) (a : Adv) (target : Int) : RollerFrame [] s (advAborted s a target) :=
  ((RollerFrame.refl [] s).draw).emit ..

theorem frame_advTally (s : State) (m : Move) : RollerFrame [] s (advTally s m) := by
  unfold advTally
  split
  · exact (RollerFrame.refl [] s).modRol _
  · exact (RollerFrame.refl [] s).modRol _
  · exact .refl [] s

theorem frame_advAbortEnd (s : State) (a : Nat) (m : Move) : RollerFrame [] s (advAbortEnd s a m) := by
  unfold advAbortEnd
  split
  · split
    · exact .refl [] s
    · exact ((RollerFrame.refl [] s).modRol _).trans (frame_advAborted _ _ _)
  · exact .refl [] s

def endRows : List Row := [R.MOT_AXa_STAT_SEG, R.MOT_AXa_STAT_BUSY, R.MOT_STAT_TBL_HELD]

theorem frame_rampPut (s : State) (t : Nat) (ents : List (Nat × Nat × Bool)) : RollerFrame [] s (rampPut s t ents) :=
  (RollerFrame.refl [] s).modRol (fun r => { r with ramps := _ })

theorem frame_rampRelease (s : State) : RollerFrame [R.MOT_STAT_TBL_HELD] s (rampRelease s) := by
  unfold rampRelease
  extract_lets go s1
  have h1 : RollerFrame [R.MOT_STAT_TBL_HELD] s s1 := (RollerFrame.refl _ s).modRol _
  have h2 := h1.each (f := fun t h => rampPut t h.1 h.2) go fun t h => (RollerFrame.refl _ t).trans (frame_rampPut t h.1 h.2)
  exact h2.set R.MOT_STAT_TBL_HELD _ 0

/-- The move of one member of a group is over, in its registers and flags (R247, R254). -/
def State.moveOver (s : State) (a : Nat) : State := ((busySet s a false).set R.MOT_AXa_STAT_SEG 0 a).raise (pgAXIS a) 0

theorem frame_moveOver (s : State) (a : Nat) : RollerFrame endRows s (s.moveOver a) :=
  (((RollerFrame.refl endRows s).trans (frame_busySet s a false)).set _ _ a).raise _ 0

/-- The state in which a follower's move is over and it follows no more. -/
def State.unfollow (s : State) (f : Nat × Nat) : State := (s.moveOver f.1).modAxis f.1 (fun x => { x with lead := none })

theorem frame_unfollow (s : State) (f : Nat × Nat) : RollerFrame endRows s (s.unfollow f) := (frame_moveOver s f.1).modAxis f.1 _

/-- A move's end in three parts: the lead's, the followers', and the held tables' (R244, R247). -/
theorem clearMove_some (s : State) (a : Nat) (m : Move) (h : (s.axis a).move = some m) :
    clearMove s a = rampRelease ((advAbortEnd (setMove ((advTally s m).moveOver a) a none) a m).each m.followers State.unfollow) := by
  simp only [clearMove, h]
  rfl

theorem clearMove_none (s : State) (a : Nat) (h : (s.axis a).move = none) : clearMove s a = s := by
  simp only [clearMove, h]

theorem frame_clearMove (s : State) (a : Nat) : RollerFrame endRows s (clearMove s a) := by
  match h : (s.axis a).move with
  | none => exact (clearMove_none s a h).symm ▸ .refl endRows s
  | some m =>
    rw [clearMove_some s a m h]
    have lead := ((((RollerFrame.refl endRows s).trans (frame_advTally s m)).trans (frame_moveOver _ a)).trans
      (frame_setMove _ a none)).trans (frame_advAbortEnd _ a m)
    exact (lead.each _ frame_unfollow).trans (frame_rampRelease _)

@[simp] theorem axis_rampRelease (s : State) (b : Nat) : (rampRelease s).axis b = s.axis b := by
  have put (l : List (Nat × List (Nat × Nat × Bool))) (t : State) (h : t.rol.axes = s.rol.axes) :
      (t.each l (fun t h => rampPut t h.1 h.2)).rol.axes = s.rol.axes :=
    List.foldlRecOn (motive := fun u : State => u.rol.axes = s.rol.axes) l _ h (fun _ hu _ _ => hu)
  exact congrArg (smGet Axis.init · b) (put _ _ rfl)

@[simp] theorem axis_advTally (s : State) (m : Move) (b : Nat) : (advTally s m).axis b = s.axis b := by
  unfold advTally
  split <;> rfl

@[simp] theorem axis_advAbortEnd (s : State) (a : Nat) (m : Move) (b : Nat) : (advAbortEnd s a m).axis b = s.axis b := by
  unfold advAbortEnd
  split
  · split <;> rfl
  · rfl

@[simp] theorem axis_moveOver (s : State) (a b : Nat) : (s.moveOver a).axis b = s.axis b := by
  simp [State.moveOver, busySet, State.setB]

theorem move_clearMove (s : State) (a : Nat) : ((clearMove s a).axis a).move = none := by
  match h : (s.axis a).move with
  | none => rw [clearMove_none s a h, h]
  | some m =>
    rw [clearMove_some s a m h, axis_rampRelease]
    refine List.foldlRecOn (motive := fun u : State => (u.axis a).move = none) m.followers State.unfollow ?_ (fun u hu f _ => ?_)
    · simp [setMove]
    · rw [State.unfollow, axis_modAxis_kept Axis.move _ _ _ _ rfl, axis_moveOver, hu]

theorem busy_moveOver (s : State) (a p : Nat) (h : p = a ∨ s.get R.MOT_AXa_STAT_BUSY p = 0) : (s.moveOver a).get R.MOT_AXa_STAT_BUSY p = 0 := by
  rw [State.moveOver, get_raise_clear _ _ _ R.MOT_AXa_STAT_BUSY, State.get_set_ne _ _ _ _ _ _ _ _ (by simp only [Row.code, R.MOT_AXa_STAT_BUSY, R.MOT_AXa_STAT_SEG]; omega)]
  rcases h with rfl | h
  · exact State.get_set_self ..
  · exact get_set_same_value s _ 0 p a h

theorem busy_clearMove (s : State) (a : Nat) (m : Move) (h : (s.axis a).move = some m) : (clearMove s a).get R.MOT_AXa_STAT_BUSY a = 0 := by
  rw [clearMove_some s a m h, (frame_rampRelease _).get R.MOT_AXa_STAT_BUSY]
  refine List.foldlRecOn (motive := fun u : State => u.get R.MOT_AXa_STAT_BUSY a = 0) m.followers State.unfollow ?_ (fun u hu f _ => ?_)
  · rw [(frame_advAbortEnd _ a m).get R.MOT_AXa_STAT_BUSY, (frame_setMove _ a none).get R.MOT_AXa_STAT_BUSY]
    exact busy_moveOver _ a a (.inl rfl)
  · exact busy_moveOver u f.1 a (.inr hu)

def haltRows : List Row := R.MOT_AXa_STAT_HALTED :: endRows

/-- The state in which HALTED shows for the lead and its followers (R252, R254). -/
def State.haltShown (s : State) (l : Nat) (fs : List (Nat × Nat)) : State :=
  (s.set R.MOT_AXa_STAT_HALTED 1 l).each fs (fun t f => t.set R.MOT_AXa_STAT_HALTED 1 f.1)

theorem frame_haltShown (s : State) (l : Nat) (fs : List (Nat × Nat)) : RollerFrame [R.MOT_AXa_STAT_HALTED] s (s.haltShown l fs) := by
  have lead : RollerFrame [R.MOT_AXa_STAT_HALTED] s (s.set R.MOT_AXa_STAT_HALTED 1 l) := (RollerFrame.refl _ s).set _ _ l
  refine lead.each fs fun t f => ?_
  exact (RollerFrame.refl _ t).set _ _ f.1

theorem axis_haltShown (s : State) (l : Nat) (fs : List (Nat × Nat)) (a : Nat) : (s.haltShown l fs).axis a = s.axis a :=
  List.foldlRecOn (motive := fun u : State => u.axis a = s.axis a) fs _ rfl (fun _ hu _ _ => hu)

theorem halted_haltShown (s : State) (l : Nat) (fs : List (Nat × Nat)) : (s.haltShown l fs).get R.MOT_AXa_STAT_HALTED l = 1 :=
  List.foldlRecOn (motive := fun u : State => u.get R.MOT_AXa_STAT_HALTED l = 1) fs _ (State.get_set_self ..)
    (fun u hu f _ => get_set_same_value u _ 1 l f.1 hu)

theorem haltAxis_none (s : State) (a : Nat) (h : (s.axis (leadOf s a)).move = none) : haltAxis s a = s := by
  simp only [haltAxis, h]

theorem haltAxis_some (s : State) (a : Nat) (m : Move) (h : (s.axis (leadOf s a)).move = some m) :
    haltAxis s a = (clearMove s (leadOf s a)).haltShown (leadOf s a) m.followers := by
  simp only [haltAxis, h]
  rfl

theorem frame_haltAxis (s : State) (a : Nat) : RollerFrame haltRows s (haltAxis s a) := by
  match h : (s.axis (leadOf s a)).move with
  | none => exact (haltAxis_none s a h).symm ▸ .refl haltRows s
  | some m =>
    rw [haltAxis_some s a m h]
    exact ((RollerFrame.refl haltRows s).trans (frame_clearMove s _)).trans (frame_haltShown _ _ _)

end Sys2Proof.Machine
end

section
/-! SUPPORT. The commands that the host gives an axis (HostAxisCommands). -/
namespace Sys2Proof.Machine
open Sys2Proof

/-! ## A move begins -/

/-- The move with its followers' directions as the registers give them at its start (R253). -/
def Move.aimed (s : State) (m : Move) : Move :=
  { m with dirs := m.followers.map (fun f => (f.1, s.bit R.MOT_AXa_MOVE_DIR f.1 != m.rev)) }

/-- The state in which the move stands on its own axis, before its followers join it. -/
def State.leadBegun (s : State) (a : Nat) (m : Move) : State :=
  (setMove (busySet (s.set R.MOT_AXa_STAT_SEG 0 a) a true) a (some (m.aimed s))).modAxis a (fun x => { x with dir := m.neg })

/-- The state in which a follower has joined the move of axis `a`, in its direction (R253). -/
def State.follow (s : State) (a : Nat) (f : Nat × Bool) : State :=
  (busySet s f.1 true).modAxis f.1 (fun x => { x with lead := some a, dir := f.2 })

theorem beginMove_eq (s : State) (a : Nat) (m : Move) :
    beginMove s a m = (s.leadBegun a m).each (m.aimed s).dirs (fun t f => t.follow a f) := rfl

theorem move_beginMove (s : State) (a : Nat) (m : Move) : ((beginMove s a m).axis a).move = some (m.aimed s) := by
  rw [beginMove_eq]
  refine List.foldlRecOn (motive := fun u : State => (u.axis a).move = some (m.aimed s)) _ _ ?_ (fun u hu f _ => ?_)
  · simp [State.leadBegun, setMove]
  · rw [State.follow, axis_modAxis_kept Axis.move _ _ _ _ rfl]
    exact hu

theorem get_busySet (s : State) (p a : Nat) (h : p = a ∨ s.get R.MOT_AXa_STAT_BUSY p = 1) : (busySet s a true).get R.MOT_AXa_STAT_BUSY p = 1 := by
  rcases h with rfl | h
  · exact State.get_set_self ..
  · exact get_set_same_value s _ 1 p a h

theorem busy_beginMove (s : State) (a : Nat) (m : Move) : (beginMove s a m).get R.MOT_AXa_STAT_BUSY a = 1 := by
  rw [beginMove_eq]
  exact List.foldlRecOn (motive := fun u : State => u.get R.MOT_AXa_STAT_BUSY a = 1) _ _ (get_busySet _ a a (.inl rfl))
    (fun u hu f _ => get_busySet u a f.1 (.inr hu))

/-! ## What the host may give -/

section
variable {s : State} {ag : Agent} {a : Fin 6} (htakes : s.takes ag (pgAXIS a) 0x040 = true)
include htakes

theorem exec_axisCmdStart : exec (.axisCmdStart ag a) s = ran s (after (axisStart s a)) :=
  congrArg (ran s) (gate_takes s ag (pgAXIS a) 0x040 _ _ htakes)

theorem exec_axisCmdStop (tb : Option (Fin 64)) :
    exec (.axisCmdStop ag a tb) s = ran s (after (axisStop s a (tb.map (fun (t : Fin 64) => t.val)))) :=
  congrArg (ran s) (gate_takes s ag (pgAXIS a) 0x040 _ _ htakes)

theorem exec_axisCmdHalt : exec (.axisCmdHalt ag a) s = ran s (after (axisHalt s a)) :=
  congrArg (ran s) (gate_takes s ag (pgAXIS a) 0x040 _ _ htakes)

theorem exec_axisCmdHome : exec (.axisCmdHome ag a) s = ran s (after (axisHome s a)) :=
  congrArg (ran s) (gate_takes s ag (pgAXIS a) 0x040 _ _ htakes)

theorem exec_axisCmdRearm : exec (.axisCmdRearm ag a) s = ran s (after (axisRearm s a)) :=
  congrArg (ran s) (gate_takes s ag (pgAXIS a) 0x040 _ _ htakes)

theorem exec_axisCmdRephase : exec (.axisCmdRephase ag a) s = ran s (after (axisRephase s a)) :=
  congrArg (ran s) (gate_takes s ag (pgAXIS a) 0x040 _ _ htakes)

theorem exec_axisCmdSetPos : exec (.axisCmdSetPos ag a) s = ran s (after (axisSetPos s a)) :=
  congrArg (ran s) (gate_takes s ag (pgAXIS a) 0x040 _ _ htakes)

end

theorem ran_after_err (s : State) (page code : Nat) (hc : s.calm = true) : ran s (after (s.err page code)) = .next (s.err page code) :=
  ((RollerFrame.refl [] s).err page code 0).ran_after hc

/-- In a calm state Primer moves no axis, so that a command the host may not give is refused for the mode (R241, R422). -/
theorem refusedCode_of_calm (s : State) (a : Nat) (hc : s.calm = true) : refusedCode s a = 0x510 := by
  simp only [State.calm, Bool.and_eq_true, List.isEmpty_iff] at hc
  obtain ⟨⟨⟨⟨⟨⟨⟨-, -⟩, -⟩, hprimer⟩, -⟩, -⟩, -⟩, -⟩ := hc
  simp [refusedCode, hprimer]

/-- None of the commands R282 lists gets past R40, R241 and R285. -/
theorem host_commands_refused (s : State) (a : Nat) (hc : s.calm = true) :
    (hostMay s a 1 = false → axisStart s a = s.err (pgAXIS a) 0x510) ∧
    (hostMay s a 2 = false → ∀ tb, axisStop s a tb = s.err (pgAXIS a) 0x510) ∧
    (hostMay s a 3 = false → axisHalt s a = s.err (pgAXIS a) 0x510) ∧
    (hostMay s a 4 = false → axisHome s a = s.err (pgAXIS a) 0x510) ∧
    (hostMay s a 5 = false → axisRearm s a = s.err (pgAXIS a) 0x510) ∧
    (hostMay s a 6 = false → axisRephase s a = s.err (pgAXIS a) 0x510) ∧
    (hostMay s a 7 = false → axisSetPos s a = s.err (pgAXIS a) 0x510) := by
  have hcode := refusedCode_of_calm s a hc
  refine ⟨fun h => ?_, fun h tb => ?_, fun h => ?_, fun h => ?_, fun h => ?_, fun h => ?_, fun h => ?_⟩
  · simp [axisStart, axErr, h, hcode]
  · simp [axisStop, axErr, h, hcode]
  · simp [axisHalt, axErr, h, hcode]
  · simp [axisHome, axErr, h, hcode]
  · simp [axisRearm, axErr, h, hcode]
  · simp [axisRephase, axErr, h, hcode]
  · simp [axisSetPos, axErr, h, hcode]

/-! ## START (R247, R249) -/

/-- The first check of R249 that keeps the host's move from starting. -/
def hostStartRefused (s : State) (a : Nat) : Option Nat :=
  startRefused s a (s.bit R.MOT_AXa_MOVE_DIR a) (usedSegs s a) (listBad s a (usedSegs s a))

/-- The move that the registers of an axis describe (R246, R248). -/
def hostReq (s : State) (a : Nat) : MoveReq :=
  { what := .host, neg := s.bit R.MOT_AXa_MOVE_DIR a, velocity := s.bit R.MOT_AXa_MOVE_VELOCITY a
    budget := if s.bit R.MOT_AXa_MOVE_BUDGET_EN a then some (s.get R.MOT_AXa_BUDGET a) else none, segs := usedSegs s a }

theorem axisStart_refused (s : State) (a c : Nat) (hmay : hostMay s a 1 = true) (h : hostStartRefused s a = some c) :
    axisStart s a = s.err (pgAXIS a) c := by
  unfold hostStartRefused at h
  simp [axisStart, axErr, hmay, h]

theorem axisStart_begins (s : State) (a : Nat) (hmay : hostMay s a 1 = true) (h : hostStartRefused s a = none)
    (hsteps : ¬ (s.bit R.MOT_AXa_MOVE_BUDGET_EN a = true ∧ s.get R.MOT_AXa_BUDGET a = 0)) :
    axisStart s a = beginMove s a (moveOf s (hostReq s a)) := by
  unfold hostStartRefused at h
  have hbudget : (if s.bit R.MOT_AXa_MOVE_BUDGET_EN a then some (s.get R.MOT_AXa_BUDGET a) else none) ≠ some 0 := by
    split
    case isTrue hen => exact fun e => hsteps ⟨hen, Option.some.inj e⟩
    case isFalse => exact nofun
  simp only [axisStart, hmay, h, Bool.not_true, Bool.false_eq_true, if_false, if_neg hbudget]
  rfl

/-! ## STOP (R251) -/

theorem leadOf_of_none {s : State} {a : Nat} (h : (s.axis a).lead = none) : leadOf s a = a := by simp [leadOf, h]

/-- The move turned into a deceleration on table `t`; homing ends with it (R251). -/
def Move.stopped (m : Move) (t : Nat) : Move :=
  { m with what := match m.what with | .home _ => .host | w => w
           stopping := true, sel := none, play := some (playDown (rampEnts m.tabs t) m.at_ 0), segs := [stopSeg t], idx := 0
           segSteps := 0, used := t :: m.used }

section
variable {s : State} {a t : Nat} {m : Move} (hlead : (s.axis a).lead = none) (hm : (s.axis a).move = some m) (hbud : m.budget = none)
  (hcom : m.committed = false) (hstop : m.stopping = false) (htabs : loaded m.tabs t = true)
include hlead hm hbud hcom hstop htabs

theorem stopMove_running : stopMove s a t = setMove s a (some (m.stopped t)) := by
  have hin (w : MoveFor) : Move.inCommitted { m with what := w } = false := by simp [Move.inCommitted, hcom, hbud]
  simp only [stopMove, leadOf_of_none hlead, hm]
  rw [if_neg (Bool.eq_false_iff.mp (hin _))]
  simp only [hbud, htabs, hstop, Move.stopped, Bool.not_true, Bool.false_eq_true, if_false]
    <;> rfl

theorem axisStop_running (hmay : hostMay s a 2 = true) (hphase : s.bit R.MOT_AXa_STAT_PHASE_LOST a = false)
    (hramps : loaded s.rol.ramps t = true) : axisStop s a (some t) = setMove s a (some (m.stopped t)) := by
  simp only [axisStop, hmay, hphase, hramps, leadOf_of_none hlead, hm, Option.any_some, Option.getD_some, Option.isNone_some, Bool.not_true,
    Bool.false_and, Bool.false_eq_true, if_false]
  exact stopMove_running hlead hm hbud hcom hstop htabs

end

/-! ## HALT (R252) -/

/-- An advance that has been stopped settles, and nothing else changes (log 25). -/
theorem frame_advStopped (s : State) : RollerFrame [] s (advStopped s) := by
  unfold advStopped
  split
  · exact (RollerFrame.refl [] s).modRol _
  · exact .refl [] s

theorem axis_advStopped (s : State) (b : Nat) : (advStopped s).axis b = s.axis b := by
  unfold advStopped
  split <;> rfl

theorem move_haltAxis_lead (s : State) (a : Nat) (hlead : (s.axis a).lead = none) : ((haltAxis s a).axis a).move = none := by
  have hl := leadOf_of_none hlead
  match h : (s.axis a).move with
  | none => rw [haltAxis_none s a (by rw [hl, h]), h]
  | some m => rw [haltAxis_some s a m (by rw [hl, h]), hl, axis_haltShown, move_clearMove]

theorem stat_haltAxis_lead (s : State) (a : Nat) (m : Move) (hlead : (s.axis a).lead = none) (hm : (s.axis a).move = some m) :
    (haltAxis s a).get R.MOT_AXa_STAT_HALTED a = 1 ∧ (haltAxis s a).get R.MOT_AXa_STAT_BUSY a = 0 := by
  have hl := leadOf_of_none hlead
  rw [haltAxis_some s a m (by rw [hl, hm]), hl, (frame_haltShown _ _ _).get R.MOT_AXa_STAT_BUSY]
  exact ⟨halted_haltShown _ _ _, busy_clearMove s a m hm⟩

/-- HALT of a move, whichever it serves, ends it at once (R252). -/
theorem haltNow_moving (s : State) (a : Nat) (m : Move) (hlead : (s.axis a).lead = none) (hm : (s.axis a).move = some m) :
    RollerFrame haltRows s (haltNow s a) ∧ ((haltNow s a).axis a).move = none ∧
      (haltNow s a).get R.MOT_AXa_STAT_HALTED a = 1 ∧ (haltNow s a).get R.MOT_AXa_STAT_BUSY a = 0 := by
  have hmove := move_haltAxis_lead s a hlead
  obtain ⟨hhalted, hbusy⟩ := stat_haltAxis_lead s a m hlead hm
  simp only [haltNow, hm]
  split
  · have hf := frame_advStopped (haltAxis s a)
    exact ⟨(frame_haltAxis s a).trans hf, by rw [axis_advStopped, hmove], by rw [hf.get R.MOT_AXa_STAT_HALTED, hhalted],
      by rw [hf.get R.MOT_AXa_STAT_BUSY, hbusy]⟩
  · exact ⟨frame_haltAxis s a, hmove, hhalted, hbusy⟩

/-- The state in which a re-phase has been halted (R252). -/
theorem haltNow_rephasing (s : State) (a : Nat) (hm : (s.axis a).move = none) (hre : (s.axis a).rephase ≠ none) :
    haltNow s a = (s.modAxis a (fun x => { x with rephase := none })).set R.MOT_AXa_STAT_HALTED 1 a := by
  simp [haltNow, hm, Option.isSome_iff_ne_none, hre]

theorem axisHalt_acts (s : State) (a : Nat) (hmay : hostMay s a 3 = true) (hphase : s.bit R.MOT_AXa_STAT_PHASE_LOST a = false)
    (hlead : (s.axis a).lead = none) : axisHalt s a = haltNow s a := by
  simp [axisHalt, hmay, hphase, leadOf_of_none hlead]

/-! ## HOME (R258, R259) -/

/-- How far the axis lies from the driver's place, by the shorter way round a cycle (R258). -/
def adoptShift (s : State) (a : Nat) : Int :=
  let c := max 1 (s.get R.MOT_AXa_USTEP_CYCLE a)
  let d := (((s.get R.MOT_AXa_DRV_HOME_IDX a : Nat) : Int) - axPos s a) % (c : Nat)
  if 2 * d ≤ c then d else d - c

theorem axisHome_adopts (s : State) (a : Nat) (hmay : hostMay s a 4 = true) (hbusy : axisBusy s a = false)
    (hadopt : s.bit R.MOT_AXa_HOME_CFG_ADOPT a = true) :
    axisHome s a = ((posShift s a (adoptShift s a)).set R.MOT_AXa_STAT_PHASE_LOST 0 a).modAxis a (fun x => { x with disarmed := none }) := by
  simp only [axisHome, hmay, hbusy, hadopt, Bool.not_true, Bool.false_eq_true, if_false, if_true]
  rfl

/-- The move that homing begins with: back from an input that is active, or towards it (R258). -/
theorem axisHome_moves (s : State) (a : Nat) (hmay : hostMay s a 4 = true) (hbusy : axisBusy s a = false)
    (hadopt : s.bit R.MOT_AXa_HOME_CFG_ADOPT a = false) (htbl : loaded s.rol.ramps (s.get R.MOT_AXa_HOME_TBL a) = true)
    (hen : s.bit R.MOT_AXa_EN a = true) (hestop : estopActive s = false)
    (hlim : limitAhead s a (limActive s (s.get R.MOT_AXa_HOME_IN a) != s.bit R.MOT_AXa_HOME_DIR a) (some (s.get R.MOT_AXa_HOME_IN a)) = false) :
    ∃ m : Move, axisHome s a = beginMove (s.modAxis a (fun x => { x with disarmed := none })) a m ∧
      m.what = .home (if limActive s (s.get R.MOT_AXa_HOME_IN a) then 1 else 2) := by
  match hback : limActive s (s.get R.MOT_AXa_HOME_IN a) with
  | true =>
    rw [hback, Bool.true_bne] at hlim
    have backs : axisHome s a = homeBackoff (s.modAxis a (fun x => { x with disarmed := none })) a := by
      simp only [axisHome, hmay, hbusy, hadopt, htbl, hen, hestop, hback, hlim, Bool.not_true, Bool.false_eq_true, if_false, if_true]
    exact ⟨_, backs, rfl⟩
  | false =>
    rw [hback, Bool.false_bne] at hlim
    have approaches : axisHome s a = homeApproach (s.modAxis a (fun x => { x with disarmed := none })) a := by
      simp only [axisHome, hmay, hbusy, hadopt, htbl, hen, hestop, hback, hlim, Bool.not_true, Bool.false_eq_true, if_false]
    exact ⟨_, approaches, rfl⟩

/-! ## REARM, REPHASE and SET_POS (R240, R259, R263) -/

theorem axisRearm_acts (s : State) (a : Nat) (hmay : hostMay s a 5 = true) (hphase : s.bit R.MOT_AXa_STAT_PHASE_LOST a = false) :
    axisRearm s a = s.modAxis a (fun x => { x with disarmed := none }) := by
  simp [axisRearm, hmay, hphase]

theorem axisRephase_acts (s : State) (a : Nat) (hmay : hostMay s a 6 = true) (hphase : s.bit R.MOT_AXa_STAT_PHASE_LOST a = false)
    (hbusy : axisBusy s a = false) : axisRephase s a = rephaseStart s a := by
  simp [axisRephase, hmay, hphase, hbusy]

theorem axisSetPos_acts (s : State) (a : Nat) (hmay : hostMay s a 7 = true) (hphase : s.bit R.MOT_AXa_STAT_PHASE_LOST a = false)
    (hbusy : axisBusy s a = false) : axisSetPos s a = posLoad s a (ofTwos 48 (s.get64 R.MOT_AXa_SETPOS_LO R.MOT_AXa_SETPOS_HI a)) := by
  simp [axisSetPos, hmay, hphase, hbusy]

/-- The re-phase takes the shorter way, at most half a cycle (R263). -/
theorem rephase_rephaseStart (s : State) (a : Nat) :
    ∃ n d, ((rephaseStart s a).axis a).rephase = some (n, d) ∧ 2 * n ≤ max 1 (s.get R.MOT_AXa_USTEP_CYCLE a) := by
  unfold rephaseStart
  extract_lets c d neg
  refine ⟨if neg then c - d else d, neg, by simp, ?_⟩
  by_cases h : c < 2 * d
  · simp only [neg, h, decide_true, if_true]
    omega
  · simp only [neg, h, decide_false, Bool.false_eq_true, if_false]
    omega

theorem due_of_calm {s : State} (hc : s.calm = true) (a : Fin 6) : (s.axis a).due = false := by
  simp only [State.calm, Bool.and_eq_true, State.noneDue, List.all_eq_true, Bool.not_eq_true'] at hc
  exact hc.2 a (List.mem_range.mpr a.isLt)

/-- A re-phase of an axis that has none due (R263). -/
theorem frame_rephaseStart (s : State) (a : Nat) (h : (s.axis a).due = false) : RollerFrame [] s (rephaseStart s a) :=
  (RollerFrame.refl [] s).modAxis a _ h.symm

theorem move_none_of_free {s : State} {a : Nat} (h : axisBusy s a = false) : (s.axis a).move = none := by
  simp only [axisBusy, Bool.or_eq_false_iff, Option.isSome_eq_false_iff, Option.isNone_iff_eq_none] at h
  exact h.1.1

def adoptRows : List Row := R.MOT_AXa_STAT_PHASE_LOST :: posRows

/-- Settles O27: each command is either refused, which only records its code, or one of the operations above; both keep to the frame of Roller, so
that in a calm state nothing follows them. -/
theorem hostAxisCommands : Obligations.HostAxisCommands := by
  intro s ag a htakes hc
  have err (c : Nat) : ran s (after (s.err (pgAXIS a) c)) = .next (s.err (pgAXIS a) c) := ran_after_err s (pgAXIS a) c hc
  obtain ⟨rStart, rStop, rHalt, rHome, rRearm, rRephase, rSetPos⟩ := host_commands_refused s a hc
  simp only [exec_axisCmdStart htakes, exec_axisCmdStop htakes, exec_axisCmdHalt htakes, exec_axisCmdHome htakes, exec_axisCmdRearm htakes,
    exec_axisCmdRephase htakes, exec_axisCmdSetPos htakes]
  refine ⟨fun h => ?_, fun h tb => ?_, fun h => ?_, fun h => ?_, fun h => ?_, fun h => ?_, fun h => ?_,
    fun hmay => ⟨fun c hbad => ?refused, fun hbad hsteps => ?begins⟩, fun hphase => ⟨fun hmay tb => ?_, fun hmay => ?_⟩,
    fun hmay hphase m tb hlead hm hbud hcom hstop hramps htabs => ?stop, fun hmay hphase hlead => ⟨fun m hm => ?halt, fun hm hre => ?haltRe⟩,
    fun hmay hbusy => ⟨fun hadopt => ?adopt, fun hadopt htbl hen hestop hlim => ?home⟩, fun hmay hphase => ?rearm,
    fun hmay hphase hbusy => ?rephase, fun hmay hphase hbusy => ?setPos⟩
  · rw [rStart h, err]
  · rw [rStop h, err]
  · rw [rHalt h, err]
  · rw [rHome h, err]
  · rw [rRearm h, err]
  · rw [rRephase h, err]
  · rw [rSetPos h, err]
  case refused => rw [axisStart_refused s a c hmay hbad, err]
  case begins =>
    have hf := frame_beginMove s a (moveOf s (hostReq s a))
    rw [axisStart_begins s a hmay hbad hsteps]
    exact ⟨_, _, hf.ran_after hc, move_beginMove .., rfl, rfl, rfl, rfl, busy_beginMove .., hf.mem⟩
  · have lost : axisStop s a (tb.map (fun (t : Fin 64) => t.val)) = s.err (pgAXIS a) 0x511 := by simp [axisStop, axErr, hmay, hphase]
    rw [lost, err]
  · have lost : axisHalt s a = s.err (pgAXIS a) 0x511 := by simp [axisHalt, axErr, hmay, hphase]
    rw [lost, err]
  case stop =>
    have stops : axisStop s a ((some tb).map (fun (t : Fin 64) => t.val)) = setMove s a (some (m.stopped tb)) :=
      axisStop_running hlead hm hbud hcom hstop htabs hmay hphase hramps
    rw [stops]
    exact ⟨_, m.stopped tb, (frame_setMove s a _).ran_after hc, by simp [setMove], rfl, rfl, rfl, rfl, rfl⟩
  case halt =>
    obtain ⟨hf, hmove, hhalted, hnot⟩ := haltNow_moving s a m hlead hm
    rw [axisHalt_acts s a hmay hphase hlead]
    exact ⟨_, hf.ran_after hc, hmove, hhalted, hnot⟩
  case haltRe =>
    have hf : RollerFrame haltRows s ((s.modAxis a (fun x => { x with rephase := none })).set R.MOT_AXa_STAT_HALTED 1 a) :=
      ((RollerFrame.refl haltRows s).modAxis a _).set _ _ a
    rw [axisHalt_acts s a hmay hphase hlead, haltNow_rephasing s a hm hre]
    exact ⟨_, hf.ran_after hc, by simp, State.get_set_self ..⟩
  case adopt =>
    have hf := (((RollerFrame.refl adoptRows s).trans (frame_posShift s a (adoptShift s a))).set R.MOT_AXa_STAT_PHASE_LOST 0 a).modAxis a
      (fun x => { x with disarmed := none })
    rw [axisHome_adopts s a hmay hbusy hadopt]
    refine ⟨_, hf.ran_after hc, State.get_set_self .., by simp, ?_, hf.mem⟩
    rw [axis_modAxis_self, axis_set, State.axis, rol_posShift]
    exact move_none_of_free hbusy
  case home =>
    obtain ⟨m, hbegin, hwhat⟩ := axisHome_moves s a hmay hbusy hadopt htbl hen hestop hlim
    have hf := ((RollerFrame.refl busyRows s).modAxis a (fun x => { x with disarmed := none })).trans (frame_beginMove _ a m)
    rw [hbegin]
    exact ⟨_, _, hf.ran_after hc, move_beginMove .., busy_beginMove .., hwhat⟩
  case rearm =>
    rw [axisRearm_acts s a hmay hphase]
    exact ((RollerFrame.refl [] s).modAxis a _).ran_after hc
  case rephase =>
    obtain ⟨n, d, hre, hhalf⟩ := rephase_rephaseStart s a
    rw [axisRephase_acts s a hmay hphase hbusy]
    exact ⟨_, n, d, (frame_rephaseStart s a (due_of_calm hc a)).ran_after hc, hre, hhalf, rfl⟩
  case setPos =>
    have hf := frame_posLoad s a (ofTwos 48 (s.get64 R.MOT_AXa_SETPOS_LO R.MOT_AXa_SETPOS_HI a))
    rw [axisSetPos_acts s a hmay hphase hbusy]
    exact ⟨_, hf.ran_after hc, (axPos_posLoad ..).trans (ofTwos_toTwos_ofTwos 48 _), rol_posLoad .., hf.mem⟩

end Sys2Proof.Machine
end

section
/-! SUPPORT. Selections of a velocity, and the start of a group (VelocityAndGroups). -/
namespace Sys2Proof.Machine
open Sys2Proof

/-! ## VEL_SEL (R250, R280) -/

/-- The state in which VEL_SEL reads table `t` and entry `e` (R282). -/
def State.velStored (s : State) (a t e : Nat) : State := (s.set R.MOT_AXa_VEL_SEL_TBL t a).set R.MOT_AXa_VEL_SEL_ENT e a

def velRows : List Row := [R.MOT_AXa_VEL_SEL_TBL, R.MOT_AXa_VEL_SEL_ENT, R.MOT_AXa_SEL_LOST]

theorem frame_velStored (s : State) (a t e : Nat) : RollerFrame velRows s (s.velStored a t e) :=
  ((RollerFrame.refl velRows s).set _ _ a).set _ _ a

theorem exec_axisVelSel {s : State} {ag : Agent} {a : Fin 6} (v : Word) (htakes : s.takes ag (pgAXIS a) 0x050 = true) :
    exec (.axisVelSel ag a v) s = ran s (after (axisVelSel s a v.toNat)) :=
  congrArg (ran s) (gateWord_takes s ag (pgAXIS a) 0x050 _ _ htakes)

section
variable {s : State} {a v : Nat} (hmay : hostMay s a 0 = true)
include hmay

theorem axisVelSel_unloaded (h : loaded s.rol.ramps (v % 64) = false) : axisVelSel s a v = s.err (pgAXIS a) 0x517 := by
  have htable : bits v 0 6 = v % 64 := by simp [bits]
  simp [axisVelSel, axErr, hmay, htable, h]

/-- A selection whose table is loaded, and was when the velocity move began, is stored and then made (R244, R250). -/
theorem axisVelSel_loaded (h : loaded s.rol.ramps (v % 64) = true)
    (hm : ∀ m, (s.axis a).move = some m → m.velocity = true → loaded m.tabs (v % 64) = true) :
    axisVelSel s a v = velSelect (s.velStored a (v % 64) (v / 256 % 1024)) a (v % 64) (v / 256 % 1024) := by
  have htable : bits v 0 6 = v % 64 := by simp [bits]
  have hkept : (s.axis a).move.any (fun m => m.velocity && !(loaded m.tabs (v % 64))) = false := by
    rw [Option.any_eq_false]
    intro m hmove
    cases hvel : m.velocity with
    | false => rfl
    | true => simp [hm m hmove hvel]
  simp only [axisVelSel, hmay, htable, h, hkept, Bool.not_true, Bool.false_or, Bool.false_eq_true, if_false]
  rfl

end

theorem velSelect_rest (s : State) (a t e : Nat) (h : (s.axis a).move = none) : velSelect s a t e = s := by
  simp only [velSelect, h]

theorem velSelect_stopping (s : State) (a t e : Nat) (m : Move) (h : (s.axis a).move = some m) (hstop : m.stopping = true) :
    velSelect s a t e = s.inc R.MOT_AXa_SEL_LOST a := by
  simp only [velSelect, h, hstop, if_true]

theorem velSelect_running (s : State) (a t e : Nat) (m : Move) (h : (s.axis a).move = some m) (hstop : m.stopping = false)
    (hvel : m.velocity = true) : velSelect s a t e = setMove s a (some { m with sel := some (t, e) }) := by
  simp only [velSelect, h, hstop, hvel, Bool.not_true, Bool.false_eq_true, if_false]

/-! ## A group starts (R253) -/

/-- The lead of a group, and the other members that are present. -/
def grpLead (s : State) (g : Nat) : Nat := s.get R.MOT_GRPg_LEAD 0 g

def grpFollowers (s : State) (g : Nat) : List Nat :=
  (maskList (s.get R.MOT_GRPg_MEMBERS 0 g) 6).filter (fun f => f != grpLead s g && Variant.hasAxis s.variant f)

/-- The move of a group without a budget, each follower's accumulator at half of DEN (R253). -/
def grpMove (s : State) (g : Nat) : Move :=
  let l := grpLead s g
  let den := s.get R.MOT_GRPg_DDA_DEN 0 g
  { moveOf s { what := .host, neg := s.bit R.MOT_AXa_MOVE_DIR l, velocity := s.bit R.MOT_AXa_MOVE_VELOCITY l, budget := none, segs := usedSegs s l } with
    followers := (grpFollowers s g).map (fun f => (f, den / 2)), den := den
    nums := (grpFollowers s g).map (fun f => (f, s.get R.MOT_AXa_DDA_NUM f)) }

theorem groupStart_begins (s : State) (g : Nat) (hl : grpLead s g ≤ 5) (hax : Variant.hasAxis s.variant (grpLead s g) = true)
    (hmay : (grpLead s g :: grpFollowers s g).all (fun b => hostMay s b 1) = true) (hlead : hostStartRefused s (grpLead s g) = none)
    (hfs : ∀ f ∈ grpFollowers s g, startRefused s f (s.bit R.MOT_AXa_MOVE_DIR f) [] false = none)
    (hbud : s.bit R.MOT_AXa_MOVE_BUDGET_EN (grpLead s g) = false) :
    groupStart s g = beginMove s (grpLead s g) (grpMove s g) := by
  have hsome : (grpFollowers s g).findSome? (fun f => startRefused s f (s.bit R.MOT_AXa_MOVE_DIR f) [] false) = none :=
    List.findSome?_eq_none_iff.mpr hfs
  unfold groupStart
  extract_lets l fs gs neg pos s1 den m s2
  have hs1 : s1 = s := if_neg (Bool.eq_false_iff.mp hbud)
  have hm : m.budget ≠ some 0 := by
    have hnone : m.budget = none := if_neg (Bool.eq_false_iff.mp hbud)
    rw [hnone]
    exact nofun
  have hgo : s2 = beginMove s (grpLead s g) (grpMove s g) := by
    simp only [s2, den, m, hs1, pos, show s.bit R.MOT_AXa_MOVE_BUDGET_EN l = false from hbud, Bool.false_eq_true, if_false]
    rfl
  have hin : (decide (5 < l) || !(Variant.hasAxis s.variant l)) = false := by
    simp only [show Variant.hasAxis s.variant l = true from hax, Bool.not_true, Bool.or_false, decide_eq_false_iff_not]
    exact Nat.not_lt.mpr hl
  rw [if_neg (Bool.eq_false_iff.mp hin), if_neg (by rw [show (l :: fs).all (fun a => hostMay s a 1) = true from hmay]; decide),
    show startRefused s l neg gs (listBad s l gs) = none from hlead]
  simp only [show fs.findSome? (fun f => startRefused s f (s.bit R.MOT_AXa_MOVE_DIR f) [] false) = none from hsome]
  rw [if_neg hm, hgo]

/-- Each axis that joins a move is busy and follows its lead (R253). -/
theorem follow_beginMove (s : State) (a : Nat) (m : Move) (f : Nat) (hf : f ∈ m.followers.map Prod.fst) :
    (beginMove s a m).get R.MOT_AXa_STAT_BUSY f = 1 ∧ ((beginMove s a m).axis f).lead = some a := by
  have hkeys : f ∈ (m.aimed s).dirs.map Prod.fst := by
    simpa [Move.aimed, Function.comp_def] using hf
  rw [beginMove_eq]
  generalize (m.aimed s).dirs = dirs at hkeys
  generalize s.leadBegun a m = t
  have kept (t : State) (l : List (Nat × Bool)) (h : t.get R.MOT_AXa_STAT_BUSY f = 1 ∧ (t.axis f).lead = some a) :
      (t.each l (fun t f => t.follow a f)).get R.MOT_AXa_STAT_BUSY f = 1 ∧ ((t.each l (fun t f => t.follow a f)).axis f).lead = some a := by
    refine List.foldlRecOn (motive := fun u : State => u.get R.MOT_AXa_STAT_BUSY f = 1 ∧ (u.axis f).lead = some a) l _ h (fun u hu x _ => ?_)
    refine ⟨get_busySet u f x.1 (.inr hu.1), ?_⟩
    by_cases e : f = x.1
    · rw [State.follow, ← e, axis_modAxis_self]
    · rw [State.follow, axis_modAxis_ne _ _ _ _ e]
      exact hu.2
  induction dirs generalizing t with
  | nil => cases hkeys
  | cons x l ih =>
    by_cases e : f = x.1
    · refine kept (t.follow a x) l ⟨get_busySet t f x.1 (.inl e), ?_⟩
      rw [State.follow, ← e, axis_modAxis_self]
    · exact ih (by simpa [e] using hkeys) (t.follow a x)

theorem exec_grpStart {s : State} {ag : Agent} {g : Fin 2} (htakes : s.takes ag pgMOT 0x110 = true) :
    exec (.grpStart ag g) s = ran s (after (groupStart s g)) :=
  congrArg (ran s) (gate_takes s ag pgMOT 0x110 _ _ htakes)

/-- Settles O28: a selection is stored and then made by the move, and a group begins as one move with its followers. -/
theorem velocityAndGroups : Obligations.VelocityAndGroups := by
  refine ⟨fun s ag a v htakes hc hmay => ⟨fun hnot => ?unloaded, ?_⟩,
    fun s ag g htakes hc => ?group⟩
  case unloaded =>
    rw [exec_axisVelSel v htakes, axisVelSel_unloaded hmay hnot]
    exact ran_after_err s (pgAXIS a) 0x517 hc
  · intro w hloaded
    have stored : RollerFrame velRows s w := frame_velStored s a _ _
    refine ⟨fun hm => ?rest, fun m hm hvel htabs => ⟨fun hstop => ?running, fun hstop => ?stopping⟩⟩
    case rest =>
      rw [exec_axisVelSel v htakes, axisVelSel_loaded hmay hloaded (fun m h => by simp [hm] at h), velSelect_rest (s.velStored a _ _) _ _ _ hm]
      exact stored.ran_after hc
    all_goals
      rw [exec_axisVelSel v htakes, axisVelSel_loaded hmay hloaded (fun m' h _ => by rw [hm] at h; cases h; exact htabs)]
    case running =>
      rw [velSelect_running (s.velStored a _ _) _ _ _ m hm hstop hvel]
      exact (stored.trans (frame_setMove w a _)).ran_after hc
    case stopping =>
      rw [velSelect_stopping (s.velStored a _ _) _ _ _ m hm hstop]
      exact (stored.inc R.MOT_AXa_SEL_LOST a).ran_after hc
  case group =>
    intro l fs hl hax hall hlead hfs hbud
    have member (f : Nat) (hf : f ∈ fs) : f ∈ (grpMove s g).followers.map Prod.fst := by
      simpa [grpMove, Function.comp_def] using (show f ∈ grpFollowers s g from hf)
    rw [exec_grpStart htakes, groupStart_begins s g hl hax hall hlead hfs hbud]
    refine ⟨_, _, (frame_beginMove s l (grpMove s g)).ran_after hc, move_beginMove .., rfl, rfl, busy_beginMove ..,
      fun f hf => follow_beginMove s l (grpMove s g) f (member f hf)⟩

end Sys2Proof.Machine
end

section
/-! SUPPORT. Where the statement about drivers fails (DriversAndGenerators): the sample of a driver that counts as lost already. -/
namespace Sys2Proof.Machine
open Sys2Proof

/-- Refutes O30: its clause on the second low sample says that DRV_LOST reads 1 afterwards in every calm state, and so in `lostAsTwo`, whose
one-bit field lists 2: not 0, so that the sample sets nothing, and not 1. -/
theorem not_driversAndGenerators : ¬ Obligations.DriversAndGenerators := by
  intro h
  obtain ⟨hsecond, -⟩ := h lostAsTwo 0 lostAsTwo_calm
  obtain ⟨t, ht, hone, -⟩ := hsecond rfl
  have hlost : lostAsTwo.bit R.MOT_AXa_STAT_DRV_LOST 0 = true := by rw [State.bit, lostAsTwo_lost]; rfl
  have sampled := exec_aonDrvLostSample_lost lostAsTwo 0 true lostAsTwo_calm hlost
  injection sampled.symm.trans ht with e
  subst e
  have htwo : (2 : Nat) = 1 := lostAsTwo_lost.symm.trans hone
  exact absurd htwo (by decide)

end Sys2Proof.Machine
end

section
/-! SUPPORT. What a PASS boundary brings, and the handshake over PASS_SYNC_IN (PassHandshake). -/
namespace Sys2Proof.Machine
open Sys2Proof

/-! ## The frame of a PASS boundary -/

/-- The registers that tell of passes and advances: they stand over all that a PASS boundary brings elsewhere. -/
def passCodes : List Nat :=
  [R.MOT_PASS_CNT, R.MOT_ADV_RUNNING, R.PTP_PASS_RISE_TS_LO, R.PTP_PASS_RISE_TS_HI].map (fun r => Row.code r 0 0)

/-- What the lanes, the domains, the housekeeping ADC and the hold leave alone at a PASS boundary: the frame, and the registers above. -/
structure PassFrame (s t : State) : Prop extends FrontFrame s t where
  pass : ∀ c ∈ passCodes, smFind t.regs c = smFind s.regs c

theorem PassFrame.refl (s : State) : PassFrame s s := ⟨.refl s, fun _ _ => rfl⟩

theorem PassFrame.trans {s t u : State} (h : PassFrame s t) (g : PassFrame t u) : PassFrame s u :=
  ⟨h.toFrontFrame.trans g.toFrontFrame, fun c hc => (g.pass c hc).trans (h.pass c hc)⟩

theorem passFrame_each {α : Type} {f : State → α → State} (hf : ∀ s a, PassFrame s (f s a)) (l : List α) (s : State) :
    PassFrame s (s.each l f) :=
  List.foldlRecOn (motive := PassFrame s) l f (.refl s) (fun t ht a _ => ht.trans (hf t a))

/-- Fields of the pages from SPARE on stand behind the registers of the frame. -/
theorem not_passCode_of_page (r : Row) (p i : Nat) (h : 0xC8 ≤ r.page) : Row.code r p i ∉ hookCodes ++ passCodes := by
  have below : ∀ c ∈ hookCodes ++ passCodes, c < 0xC8 * 0x20000 := by decide
  intro hc
  have := below _ hc
  simp only [Row.code] at this
  omega

section
variable {s t : State} (h : PassFrame s t)
include h

theorem PassFrame.set (r : Row) (v p i : Nat) (hc : Row.code r p i ∉ hookCodes ++ passCodes) : PassFrame s (t.set r v p i) := by
  simp only [List.mem_append, not_or] at hc
  exact h.trans ⟨(FrontFrame.refl t).setCode v hc.1, fun _ hm => smFind_smPut_ne _ _ _ _ (fun e => hc.2 (e ▸ hm))⟩

theorem PassFrame.setLane (r : Row) (v p i : Nat) (hr : 0xC8 ≤ r.page := by decide) : PassFrame s (t.set r v p i) :=
  h.set r v p i (not_passCode_of_page r p i hr)

theorem PassFrame.raise (page b : Nat) : PassFrame s (t.raise page b) := by
  have find (c : Nat) (hc : c ∈ hookCodes ++ passCodes) : smFind (t.raise page b).regs c = smFind t.regs c := by
    have above : ∀ c ∈ hookCodes ++ passCodes, 0x40 * 32 ≤ c % 0x20000 ∧ c ≠ Row.code R.IRQ_EVT_MERGED 0 0 := by decide
    obtain ⟨hoff, hmerged⟩ := above c hc
    apply raiseMask_find t page (2 ^ b) c hmerged <;> simp only [Row.code, R.IRQ_RAW, R.EVT_CNT] <;> omega
  refine h.trans ⟨⟨sameFrame_raise t page b, ?_, ?_, ?_, ?_, ?_, ?_, ?_, fun c hc => find c (List.mem_append_left _ hc)⟩,
    fun c hc => find c (List.mem_append_right _ hc)⟩
  all_goals simp

theorem PassFrame.emit (cls prod kind : Nat) (bs : List (BitVec 8)) : PassFrame s (t.emit cls prod kind bs) :=
  h.trans { PassFrame.refl t with }

theorem PassFrame.get (r : Row) (hr : Row.code r 0 0 ∈ passCodes := by decide) : t.get r = s.get r := by
  simp only [State.get, h.pass _ hr, h.same.2.2]

/-- A change of Roller's own part on both sides keeps the frame. -/
theorem PassFrame.modRol (f : Roller → Roller) : PassFrame (s.modRol f) (t.modRol f) :=
  ⟨⟨h.same, h.mem, h.capLines, h.modePend, congrArg f h.rol, h.plumb, h.cal, h.boot, h.regs⟩, h.pass⟩

end

/-! ## What follows a PASS boundary (R38, R452, R459) -/

theorem passFrame_hkUrgent (s : State) : PassFrame s (hkUrgent s) := by
  unfold hkUrgent
  split
  · exact (PassFrame.refl s).set _ _ 0 0 (by decide)
  · exact { PassFrame.refl s with }

theorem passFrame_filEvent (s : State) (code detail location value : Nat) : PassFrame s (s.filEvent code detail location value) :=
  (PassFrame.refl s).emit ..

theorem passFrame_laneSwap (s : State) (k : Nat) : PassFrame s (laneSwap s k) :=
  ((((((PassFrame.refl s).setLane _ _ 0 k).setLane _ _ 0 _).setLane _ _ 0 _).setLane _ _ 0 _).trans (passFrame_filEvent ..)).raise _ _

theorem passFrame_lanePlanned (s : State) : PassFrame s (lanePlanned s) := by
  refine passFrame_each (fun t c => ?_) _ s
  split
  · split
    · exact passFrame_laneSwap t _
    · exact (PassFrame.refl t).setLane _ _ 0 c
  · exact .refl t

theorem passFrame_laneOut (s : State) (k : Nat) : PassFrame s (laneOut s k) :=
  (((PassFrame.refl s).setLane _ _ 0 k).trans (passFrame_filEvent ..)).raise _ _

theorem passFrame_laneSync (s : State) : PassFrame s (laneSync s) := by
  refine passFrame_each (fun t c => ?_) _ s
  extract_lets on
  split
  · exact (PassFrame.refl t).setLane _ _ 0 c
  split
  · exact ((PassFrame.refl t).setLane _ _ 0 c).setLane _ _ 0 c
  split
  · exact ((PassFrame.refl t).setLane _ _ 0 c).trans (passFrame_laneOut ..)
  · exact .refl t

theorem passFrame_domSwitch (s : State) (d : Nat) : PassFrame s (domSwitch s d) := by
  have counted {t : State} (h : PassFrame s t) : PassFrame s (t.inc R.PWR_DOM_SWITCH_CNT) := h.set _ _ 0 0 (by decide)
  have lists (w f : List Nat) : PassFrame s { s with domWait := w, domFailed := f } := { PassFrame.refl s with }
  have hrow : Row.code (domOnRow d) 0 0 ∉ hookCodes ++ passCodes := by
    rcases domOnRow_cases d with e | e | e <;> rw [e] <;> decide
  unfold domSwitch
  split
  · split
    · exact .refl s
    · exact counted (lists _ _)
  · extract_lets s1 s2
    have h2 : PassFrame s s2 := counted ((lists _ _).set _ _ 0 0 hrow)
    split
    · split
      · exact h2.trans { PassFrame.refl s2 with }
      · exact h2
    · exact lists _ _

theorem passFrame_limRefresh (s : State) : PassFrame s (limRefresh s) :=
  ((PassFrame.refl s).set _ _ 0 0 (by decide)).set _ _ 0 0 (by decide)

theorem passFrame_holdUpdate (s : State) : PassFrame s (holdUpdate s) := by
  unfold holdUpdate
  extract_lets src out s1
  have h1 : PassFrame s s1 := (PassFrame.refl s).set R.MOT_HOLD_OUT _ 0 0 (by decide)
  split
  · exact h1.raise _ _
  · exact h1

theorem passFrame_settle (s : State) : PassFrame s (settle s) :=
  ((((passFrame_limRefresh s).trans (passFrame_each passFrame_domSwitch _ _)).trans (passFrame_laneSync _)).trans
    (passFrame_holdUpdate _)).set R.INS_STAT_FOLD_ACTIVE _ 0 0 (by decide)

theorem passFrame_passAfter (before s : State) : PassFrame s (passAfter before s) := by
  have numbered (t : State) (n : Nat) : PassFrame t { t with secPasses := n } := { PassFrame.refl t with }
  have awaited (t : State) : PassFrame t { t with pageDue := true } := { PassFrame.refl t with }
  unfold passAfter
  split
  · exact .refl s
  · extract_lets s1 s2 n s3
    have h1 : PassFrame s s1 := by
      unfold s1
      split
      · exact passFrame_hkUrgent s
      · exact .refl s
    have h3 : PassFrame s s3 := (h1.trans (passFrame_lanePlanned s1)).trans (numbered s2 n)
    split
    · exact (h3.trans (awaited s3)).trans (passFrame_settle _)
    · exact h3.trans (passFrame_settle s3)

/-- Without a PASS boundary nothing follows. -/
theorem passAfter_same (before s : State) (h : s.get R.MOT_PASS_CNT = before.get R.MOT_PASS_CNT) : passAfter before s = s := if_pos h

/-! ## The boundary itself (R276) -/

theorem shadowsTakeEffect_none (s : State) (b : Boundary) (h : s.shadow = []) : s.shadowsTakeEffect b = s := by
  simp only [State.shadowsTakeEffect, h, List.foldl_nil, List.filter_nil]
  rw [← h]

theorem passFrame_trkPass (s : State) : PassFrame s (trkPass s) := by
  have own (g : Trk) : PassFrame s { s with trk := g } := { PassFrame.refl s with }
  unfold trkPass
  split
  · exact .refl s
  · extract_lets p f l s1
    split
    · exact (own _).emit ..
    · exact own _

theorem passFrame_insPass (s : State) : PassFrame s (insPass s) := by
  unfold insPass
  split
  · exact { PassFrame.refl s with }
  · exact .refl s

/-- The state in which a PASS boundary has been counted and the trim `z` latched (R270, R276). -/
def State.passCounted (s : State) (z : Int) : State :=
  (s.modRol (fun r => { r with trim := z })).set R.MOT_PASS_CNT (s.get R.MOT_PASS_CNT + 1)

theorem trimLatch_eq (s : State) : ∃ z, trimLatch s = s.modRol (fun r => { r with trim := z }) := ⟨_, rfl⟩

theorem passFrame_passBoundary (s : State) (h : s.shadow = []) : ∃ z, PassFrame (s.passCounted z) (passBoundary s) := by
  have units := (passFrame_trkPass (s.set R.MOT_PASS_CNT (s.get R.MOT_PASS_CNT + 1))).trans (passFrame_insPass _)
  obtain ⟨z, latched⟩ := trimLatch_eq (insPass (trkPass (s.set R.MOT_PASS_CNT (s.get R.MOT_PASS_CNT + 1))))
  unfold passBoundary
  rw [shadowsTakeEffect_none s .pass h]
  exact ⟨z, latched ▸ units.modRol (fun r => { r with trim := z })⟩

theorem cnt_passCounted (s : State) (z : Int) : (s.passCounted z).get R.MOT_PASS_CNT = (s.get R.MOT_PASS_CNT + 1) % 2 ^ 32 :=
  State.get_set_self ..

theorem frame_passCounted (s : State) (z : Int) : RollerFrame [R.MOT_PASS_CNT] s (s.passCounted z) :=
  ((RollerFrame.refl _ s).modRol _).set _ _ 0

/-! ## PASS_SYNC_IN (R276, R396) -/

theorem frame_holdUpdate (s : State) : RollerFrame [R.MOT_HOLD_OUT] s (holdUpdate s) := by
  unfold holdUpdate
  extract_lets src out s1
  have h1 : RollerFrame [R.MOT_HOLD_OUT] s s1 := (RollerFrame.refl _ s).set _ _ 0
  split
  · exact h1.raise _ _
  · exact h1

theorem passFrame_passProtocol (s : State) (detail : Nat) : PassFrame s (passProtocol s detail) :=
  (((PassFrame.refl s).set R.MOT_PASS_PROTO_ERR _ 0 0 (by decide)).raise _ _).emit ..

/-- The state in which a qualified edge has its stamp, in the fields `lo` and `hi` (R396). -/
def State.passStamped (s : State) (lo hi : Row) : State :=
  ((s.modRol (fun r => { r with psTs := none })).set64 lo hi (s.rol.psTs.getD s.ts)).raise pgPTP 3

def riseRows : List Row := [R.PTP_PASS_RISE_TS_LO, R.PTP_PASS_RISE_TS_HI]
def fallRows : List Row := [R.PTP_PASS_FALL_TS_LO, R.PTP_PASS_FALL_TS_HI]

theorem frame_passStamped_rise (s : State) : RollerFrame riseRows s (s.passStamped R.PTP_PASS_RISE_TS_LO R.PTP_PASS_RISE_TS_HI) :=
  (((RollerFrame.refl riseRows s).modRol _).set64 _ _ _ 0).raise _ _

theorem frame_passStamped_fall (s : State) : RollerFrame fallRows s (s.passStamped R.PTP_PASS_FALL_TS_LO R.PTP_PASS_FALL_TS_HI) :=
  (((RollerFrame.refl fallRows s).modRol _).set64 _ _ _ 0).raise _ _

theorem rol_passStamped (s : State) (lo hi : Row) : (s.passStamped lo hi).rol = { s.rol with psTs := none } := by
  rw [State.passStamped, raise_rol]
  rfl

theorem passSync_away (s : State) (rise : Bool) (h : passActive s ≠ rise) : passSync s rise = s := if_neg h

theorem passSync_rises (s : State) (hact : passActive s = true) (hqual : s.rol.psQual = false) :
    passSync s true = after (passAfter s (passRise (s.passStamped R.PTP_PASS_RISE_TS_LO R.PTP_PASS_RISE_TS_HI))) := by
  simp only [passSync, passQualified, hact, hqual, Bool.true_eq_false, if_true, if_false]
  rfl

theorem passSync_falls (s : State) (hact : passActive s = false) (hqual : s.rol.psQual = true) :
    passSync s false = after (passAfter s (passFall (s.passStamped R.PTP_PASS_FALL_TS_LO R.PTP_PASS_FALL_TS_HI))) := by
  simp only [passSync, passQualified, hact, hqual, Bool.false_eq_true, if_true, if_false]
  rfl

/-- An edge that qualifies later is kept as the pin's level, and the first one of a change is stamped (R396). -/
theorem passRaw_debounced (s : State) (level : Bool) (hne : s.rol.psRaw ≠ level) (hdeb : s.get R.MOT_PASS_SYNC_DEB ≠ 0) :
    passRaw s level = s.modRol (fun r => { r with
      psRaw := level
      psTs := if (level != s.bit R.MOT_PASS_SYNC_POL) != s.rol.psQual && s.rol.psTs.isNone then some s.ts else s.rol.psTs }) := by
  unfold passRaw
  rw [if_neg hne]
  extract_lets s1 s2
  have hnews : (passActive s1 != s1.rol.psQual && s1.rol.psTs.isNone) =
      ((level != s.bit R.MOT_PASS_SYNC_POL) != s.rol.psQual && s.rol.psTs.isNone) := rfl
  have hs2 : s2 = s.modRol (fun r => { r with
      psRaw := level
      psTs := if (level != s.bit R.MOT_PASS_SYNC_POL) != s.rol.psQual && s.rol.psTs.isNone then some s.ts else s.rol.psTs }) := by
    unfold s2
    rw [hnews]
    split <;> rfl
  rw [hs2]
  exact if_neg hdeb

/-- A rise that keeps the handshake: the swath begins and PASS_READY goes (R277). -/
theorem passRise_accepted (s : State) (hfo : feedOwner s = true) (hready : s.rol.ready = true) (hhold : s.bit R.MOT_HOLD_OUT = false) :
    passRise s = holdUpdate (s.modRol (fun r => { r with psQual := true, ready := false, badSwath := false })) := by
  simp only [passRise, hfo, hready, hhold, Bool.not_true, Bool.false_eq_true, if_true, if_false]
  rfl

/-- A rise in other INSPECT is a PASS boundary, whether or not the hold stands (R276, R279). -/
theorem passRise_counts (s : State) (hfo : feedOwner s = false) (hmode : s.mode = .inspect) :
    ∃ u, PassFrame (s.modRol (fun r => { r with psQual := true, badSwath := false })) u ∧ u.shadow = s.shadow ∧
      passRise s = holdUpdate (passBoundary u) := by
  have bad := passFrame_passProtocol (s.modRol (fun r => { r with psQual := true, badSwath := false })) 2
  simp only [passRise, hfo, hmode, Bool.false_eq_true, if_false, beq_self_eq_true, if_true]
  split
  · exact ⟨_, bad, raise_shadow .., rfl⟩
  · exact ⟨_, .refl _, rfl, rfl⟩

theorem RollerFrame.feedOwner {L : List Row} {s t : State} (h : RollerFrame L s t) (hm : Row.clear R.SYS_MODE_CUR L = true := by decide)
    (hf : Row.clear R.SYS_MODE_CUR_FO L = true := by decide) : Machine.feedOwner t = Machine.feedOwner s := by
  simp only [Machine.feedOwner, h.mode hm, h.bit _ _ hf]

/-- In a calm state nothing follows a command that has left its state calm. -/
theorem ran_after_calm {s t : State} (h : SameFrame s t) (hc : t.calm = true) : ran s (after t) = .next t := by
  rw [after_calm t hc, h.ran]

/-- A stamp reads as it was taken, on 64 bits. -/
theorem get64_passStamped {L : List Row} {s t : State} (lo hi : Row) (h : RollerFrame L (s.passStamped lo hi) t)
    (hlo : Row.clear lo L = true) (hhi : Row.clear hi L = true) (hlo' : Row.clear lo [] = true) (hhi' : Row.clear hi [] = true)
    (hne : Row.code lo 0 0 ≠ Row.code hi 0 0) (hw : lo.width = 32) (hw' : hi.width = 32) :
    t.get64 lo hi = s.rol.psTs.getD s.ts % 2 ^ 64 := by
  have raised : (s.passStamped lo hi).get64 lo hi = ((s.modRol (fun r => { r with psTs := none })).set64 lo hi (s.rol.psTs.getD s.ts)).get64 lo hi := by
    simp only [State.get64, State.passStamped, get_raise_clear _ _ _ _ _ hlo', get_raise_clear _ _ _ _ _ hhi']
  calc t.get64 lo hi = (s.passStamped lo hi).get64 lo hi := by simp only [State.get64, h.get _ _ hlo, h.get _ _ hhi]
    _ = s.rol.psTs.getD s.ts % 2 ^ (32 + hi.width) := by rw [raised, get64_set64 _ _ _ _ _ _ hne hw]
    _ = _ := by rw [hw']

section
variable {s : State} (hc : s.calm = true) (hact : passActive s = true) (hqual : s.rol.psQual = false)
include hc hact hqual

/-- A rise that keeps the handshake of feed-owner INSPECT (R277). -/
theorem exec_passSyncRise_accepted (hfo : feedOwner s = true) (hready : s.rol.ready = true) (hhold : s.bit R.MOT_HOLD_OUT = false) :
    ∃ t, exec .passSyncRise s = .next t ∧ t.rol.psQual = true ∧ t.rol.ready = false ∧
      t.get64 R.PTP_PASS_RISE_TS_LO R.PTP_PASS_RISE_TS_HI = s.rol.psTs.getD s.ts % 2 ^ 64 ∧
      t.get R.MOT_PASS_PROTO_ERR = s.get R.MOT_PASS_PROTO_ERR ∧ t.get R.MOT_PASS_CNT = s.get R.MOT_PASS_CNT := by
  have run : exec .passSyncRise s = ran s (passSync s true) := rfl
  have stamped := frame_passStamped_rise s
  rw [run, passSync_rises s hact hqual, passRise_accepted _ (stamped.feedOwner.trans hfo) (by rw [rol_passStamped]; exact hready)
    ((stamped.bit R.MOT_HOLD_OUT 0).trans hhold)]
  generalize hu : (s.passStamped R.PTP_PASS_RISE_TS_LO R.PTP_PASS_RISE_TS_HI).modRol
    (fun r => { r with psQual := true, ready := false, badSwath := false }) = u
  have begun : RollerFrame [R.MOT_HOLD_OUT] (s.passStamped R.PTP_PASS_RISE_TS_LO R.PTP_PASS_RISE_TS_HI) u := hu ▸ (RollerFrame.refl _ _).modRol _
  have shown := begun.trans (frame_holdUpdate u)
  have hrol : (holdUpdate u).rol = u.rol := (passFrame_holdUpdate u).rol
  have hcnt : (holdUpdate u).get R.MOT_PASS_CNT = s.get R.MOT_PASS_CNT := (shown.get _ 0).trans (stamped.get _ 0)
  rw [passAfter_same s _ hcnt]
  refine ⟨_, ran_after_calm (stamped.same.trans shown.same) (shown.calm.trans (stamped.calm.trans hc)), ?_, ?_,
    get64_passStamped _ _ shown (by decide) (by decide) (by decide) (by decide) (by decide) rfl rfl, (shown.get _ 0).trans (stamped.get _ 0), hcnt⟩
  · rw [hrol, ← hu]
    rfl
  · rw [hrol, ← hu]
    rfl

/-- A rise in other INSPECT counts a PASS boundary (R276). -/
theorem exec_passSyncRise_counted (hfo : feedOwner s = false) (hmode : s.mode = .inspect) (hshadow : s.shadow = []) :
    ∃ t, exec .passSyncRise s = .next t ∧ t.rol.psQual = true ∧ t.get R.MOT_PASS_CNT = (s.get R.MOT_PASS_CNT + 1) % 2 ^ 32 := by
  have run : exec .passSyncRise s = ran s (passSync s true) := rfl
  have stamped := frame_passStamped_rise s
  obtain ⟨u, begun, hu, hrise⟩ := passRise_counts _ (stamped.feedOwner.trans hfo) (stamped.mode.trans hmode)
  have hempty : u.shadow = [] := by rw [hu, State.passStamped, raise_shadow]; exact hshadow
  obtain ⟨z, counted⟩ := passFrame_passBoundary u hempty
  have passed := (counted.trans (passFrame_holdUpdate _)).trans (passFrame_passAfter s _)
  have own := frame_passCounted u z
  have swath := stamped.modRol (fun r => { r with psQual := true, badSwath := false })
  rw [run, passSync_rises s hact hqual, hrise]
  refine ⟨_, ran_after_calm ?_ ?_, ?_, ?_⟩
  · exact (swath.same.trans begun.same).trans (own.same.trans passed.same)
  · exact passed.calm.trans (own.calm.trans (begun.calm.trans (swath.calm.trans hc)))
  · rw [passed.rol]
    exact congrArg Roller.psQual begun.rol
  · rw [passed.get R.MOT_PASS_CNT, cnt_passCounted, begun.get R.MOT_PASS_CNT, swath.get R.MOT_PASS_CNT]

end

/-- A qualified fall is stamped and ends the swath (R269, R278). -/
theorem exec_passSyncFall_ended {s : State} (hc : s.calm = true) (hact : passActive s = false) (hqual : s.rol.psQual = true) :
    ∃ t, exec .passSyncFall s = .next t ∧ t.rol.psQual = false ∧ t.rol.swath = (s.rol.swath || (feedOwner s && !s.rol.badSwath)) ∧
      t.get64 R.PTP_PASS_FALL_TS_LO R.PTP_PASS_FALL_TS_HI = s.rol.psTs.getD s.ts % 2 ^ 64 := by
  have run : exec .passSyncFall s = ran s (passSync s false) := rfl
  have stamped := frame_passStamped_fall s
  generalize hu : (s.passStamped R.PTP_PASS_FALL_TS_LO R.PTP_PASS_FALL_TS_HI).modRol (fun r => { r with
    psQual := false, swath := r.swath || (feedOwner (s.passStamped R.PTP_PASS_FALL_TS_LO R.PTP_PASS_FALL_TS_HI) && !r.badSwath), badSwath := false }) = u
  have falls : passFall (s.passStamped R.PTP_PASS_FALL_TS_LO R.PTP_PASS_FALL_TS_HI) = holdUpdate u := hu ▸ rfl
  have ended : RollerFrame [R.MOT_HOLD_OUT] (s.passStamped R.PTP_PASS_FALL_TS_LO R.PTP_PASS_FALL_TS_HI) u := hu ▸ (RollerFrame.refl _ _).modRol _
  have shown := ended.trans (frame_holdUpdate u)
  have hrol : (holdUpdate u).rol = u.rol := (passFrame_holdUpdate u).rol
  rw [run, passSync_falls s hact hqual, falls, passAfter_same s _ ((shown.get _ 0).trans (stamped.get _ 0))]
  refine ⟨_, ran_after_calm (stamped.same.trans shown.same) (shown.calm.trans (stamped.calm.trans hc)), ?_, ?_,
    get64_passStamped _ _ shown (by decide) (by decide) (by decide) (by decide) (by decide) rfl rfl⟩
  · rw [hrol, ← hu]
    rfl
  · rw [hrol, ← hu, ← stamped.feedOwner]
    simp only [State.modRol, rol_passStamped]

/-- Settles O32: a level that stands and is news is stamped and then begins or ends a swath; a PASS boundary leaves the pass's own registers to it. -/
theorem passHandshake : Obligations.PassHandshake := by
  intro s hc
  refine ⟨fun level => ⟨fun hsame => ?same, fun hne hdeb => ?edge⟩, fun hact => ?noRise, fun hact => ?noFall,
    fun hact hqual => ⟨exec_passSyncRise_accepted hc hact hqual, exec_passSyncRise_counted hc hact hqual⟩, exec_passSyncFall_ended hc⟩
  case same =>
    have run : exec (.passSyncRawEdge level) s = ran s (passRaw s level) := rfl
    rw [run, passRaw, if_pos hsame, SameFrame.rfl.ran]
  case edge =>
    have run : exec (.passSyncRawEdge level) s = ran s (passRaw s level) := rfl
    rw [run, passRaw_debounced s level hne hdeb]
    exact ⟨_, ran_eq s _ rfl rfl rfl, rfl, rfl, rfl, rfl⟩
  case noRise =>
    have run : exec .passSyncRise s = ran s (passSync s true) := rfl
    rw [run, passSync_away s true (by simp [hact]), SameFrame.rfl.ran]
  case noFall =>
    have run : exec .passSyncFall s = ran s (passSync s false) := rfl
    rw [run, passSync_away s false (by simp [hact]), SameFrame.rfl.ran]

end Sys2Proof.Machine
end

section
/-! SUPPORT. Advances: their queue, what the trigger begins, and how they end (AdvanceQueueAndRecords). -/
namespace Sys2Proof.Machine
open Sys2Proof

/-! ## What a frame keeps of the checks of R249 -/

/-- An element of an indexed field, as a field of its own. -/
def Row.at_ (r : Row) (i : Nat) : Row := { r with off := r.off + r.stride * i }

theorem RollerFrame.getAt {L : List Row} {s t : State} (h : RollerFrame L s t) (r : Row) (p i : Nat) (hr : Row.clear (Row.at_ r i) L = true) :
    t.get r p i = s.get r p i := by
  have hcode : Row.code r p i = Row.code (Row.at_ r i) p 0 := by simp [Row.code, Row.at_, Nat.add_assoc]
  have hkept := h.regs _ (Row.code_ne_of_clear hr p)
  simp only [State.get, hcode, hkept, h.same.2.2]

/-- The fields that the checks of a start read of the limit inputs and of the axis are none of `L` (R249). -/
def startClear (L : List Row) : Bool :=
  [R.MOT_STAT_ESTOP, R.MOT_LIM_QUAL, R.MOT_AXa_STAT_PHASE_LOST, R.MOT_AXa_EN].all (fun r => Row.clear r L) &&
    (List.range 8).all (fun i => Row.clear (Row.at_ R.MOT_LIMi_AXIS i) L && Row.clear (Row.at_ R.MOT_LIMi_ROLE i) L)

section
variable {L : List Row} {s t : State} (h : RollerFrame L s t) (hL : startClear L = true)
include h hL

theorem RollerFrame.limits (i : Nat) (hi : i < 8) :
    t.get R.MOT_LIMi_AXIS 0 i = s.get R.MOT_LIMi_AXIS 0 i ∧ t.get R.MOT_LIMi_ROLE 0 i = s.get R.MOT_LIMi_ROLE 0 i ∧
      limActive t i = limActive s i := by
  simp only [startClear, Bool.and_eq_true, List.all_eq_true, List.mem_range] at hL
  obtain ⟨hrows, hlim⟩ := hL
  obtain ⟨haxis, hrole⟩ := hlim i hi
  exact ⟨h.getAt _ 0 i haxis, h.getAt _ 0 i hrole, by rw [limActive, h.get _ 0 (hrows R.MOT_LIM_QUAL (by decide)), limActive]⟩

theorem RollerFrame.limitAhead (a : Nat) (neg : Bool) (except : Option Nat) : Machine.limitAhead t a neg except = Machine.limitAhead s a neg except := by
  rw [Bool.eq_iff_iff]
  simp only [Machine.limitAhead, List.any_eq_true, List.mem_range]
  refine exists_congr fun i => and_congr_right fun hi => ?_
  obtain ⟨haxis, hrole, hact⟩ := h.limits hL i hi
  rw [haxis, hrole, hact]

theorem RollerFrame.estopActive : Machine.estopActive t = Machine.estopActive s := by
  have hinputs : (List.range 8).any (fun i => t.get R.MOT_LIMi_ROLE 0 i = 4 && limActive t i) =
      (List.range 8).any (fun i => s.get R.MOT_LIMi_ROLE 0 i = 4 && limActive s i) := by
    rw [Bool.eq_iff_iff]
    simp only [List.any_eq_true, List.mem_range]
    refine exists_congr fun i => and_congr_right fun hi => ?_
    obtain ⟨-, hrole, hact⟩ := h.limits hL i hi
    rw [hrole, hact]
  simp only [startClear, Bool.and_eq_true, List.all_eq_true] at hL
  simp only [Machine.estopActive, h.bit _ 0 (hL.1 R.MOT_STAT_ESTOP (by decide)), hinputs]

/-- The checks of R249 answer as before where axes and tables stand as before. -/
theorem RollerFrame.startRefused (a : Nat) (neg : Bool) (gs : List RSeg) (bad : Bool) (haxis : t.axis a = s.axis a)
    (hramps : t.rol.ramps = s.rol.ramps) : Machine.startRefused t a neg gs bad = Machine.startRefused s a neg gs bad := by
  have hlimit := h.limitAhead hL a neg none
  have hestop := h.estopActive hL
  simp only [startClear, Bool.and_eq_true, List.all_eq_true] at hL
  simp only [Machine.startRefused, axisBusy, haxis, hramps, hlimit, hestop, h.same.2.2,
    h.bit _ a (hL.1 R.MOT_AXa_STAT_PHASE_LOST (by decide)), h.bit _ a (hL.1 R.MOT_AXa_EN (by decide))]
  rfl

end

/-! ## The queue (R268, R281) -/

section
variable (s : State)

theorem advPush_elsewhere (hfo : feedOwner s = false) : advPush s = s.err pgMOT 0x510 := by
  simp [advPush, hfo]

variable (hfo : feedOwner s = true)
include hfo

theorem advPush_full (hfull : 4 ≤ s.rol.queue.length) : advPush s = s.err pgMOT 0x515 := by
  simp [advPush, hfo, hfull]

variable (hroom : s.rol.queue.length < 4)
include hroom

theorem advPush_range (hrange : s.get R.MOT_ADV_CREEP < 10000 ∨ s.get R.MOT_ADV_LEN = 0) : advPush s = s.err pgMOT 0x516 := by
  simp [advPush, hfo, Nat.not_le.mpr hroom, hrange]

variable (hcreep : 10000 ≤ s.get R.MOT_ADV_CREEP) (hlen : s.get R.MOT_ADV_LEN ≠ 0)
include hcreep hlen

theorem advPush_unloaded
    (htbl : loaded s.rol.ramps (s.get R.MOT_ADV_DEC_TBL) = false ∨ loaded s.rol.ramps (s.get R.MOT_ADV_ACC_TBL) = false) :
    advPush s = s.err pgMOT 0x517 := by
  have hrange : ¬(s.get R.MOT_ADV_CREEP < 10000 ∨ s.get R.MOT_ADV_LEN = 0) := by omega
  simp [advPush, hfo, Nat.not_le.mpr hroom, hrange, htbl]

/-- The advance that the registers name (R268). -/
def advReq (s : State) : AdvReq :=
  { id := s.get R.MOT_ADV_ID, len := s.get R.MOT_ADV_LEN, creep := s.get R.MOT_ADV_CREEP, deadline := s.get R.MOT_ADV_DEADLINE }

theorem advPush_queued (hdec : loaded s.rol.ramps (s.get R.MOT_ADV_DEC_TBL) = true) (hacc : loaded s.rol.ramps (s.get R.MOT_ADV_ACC_TBL) = true)
    (hfast : s.get R.MOT_AXa_SS_INT 0 ≤ (rampAt (rampEnts s.rol.ramps (s.get R.MOT_ADV_DEC_TBL)) 0).1) (hscale : s.get R.MOT_FEED_SCALE ≠ 0) :
    advPush s = (s.modRol (fun r => { r with queue := r.queue ++ [advReq s] })).set R.MOT_ADV_QUEUED (s.rol.queue.length + 1) := by
  have hrange : ¬(s.get R.MOT_ADV_CREEP < 10000 ∨ s.get R.MOT_ADV_LEN = 0) := by omega
  simp [advPush, hfo, Nat.not_le.mpr hroom, hrange, hdec, hacc, Nat.not_lt.mpr hfast, hscale, advReq]

end

/-! ## The trigger (R269 to R271) -/

/-- The position of the latest line, from which an advance that is not chained counts (R270). -/
def latestPos (s : State) : Int := match s.rol.last with | some x => x.1 | none => s.trk.p

/-- The oldest advance as the trigger takes it, not chained (R270). -/
def advTaken (s : State) (q : AdvReq) : Adv :=
  { advNew q (s.rol.advNum + 1) with
    t0 := s.now, base := latestPos s, trim := s.rol.trim, target := latestPos s + q.len + s.rol.trim, s16 := advScale s, unchained := true
    basePos := latestPos s, first := s.rol.prev.isNone }

/-- The state in which that advance runs and no longer waits. -/
def State.advStarted (s : State) (q : AdvReq) (l : List AdvReq) : State :=
  ((s.modRol (fun r => { r with
    queue := l, run := some (advTaken s q), advNum := s.rol.advNum + 1, swath := if s.bit R.MOT_CTRL_ADV_TRIG then false else r.swath })).set
      R.MOT_ADV_QUEUED l.length).set R.MOT_ADV_RUNNING 1

def advRows : List Row := [R.MOT_ADV_QUEUED, R.MOT_ADV_RUNNING]

theorem frame_advStarted (s : State) (q : AdvReq) (l : List AdvReq) : RollerFrame advRows s (s.advStarted q l) :=
  (((RollerFrame.refl advRows s).modRol _).set _ _ 0).set _ _ 0

/-- A move keeps Roller's own part but for the axes. -/
theorem rol_beginMove (s : State) (a : Nat) (m : Move) : ∃ axes, (beginMove s a m).rol = { s.rol with axes := axes } := by
  rw [beginMove_eq]
  refine List.foldlRecOn (motive := fun u : State => ∃ axes, u.rol = { s.rol with axes := axes }) _ _ ⟨_, rfl⟩ (fun u hu f _ => ?_)
  obtain ⟨axes, e⟩ := hu
  have joined : (busySet u f.1 true).rol = u.rol := rfl
  exact ⟨smMod Axis.init axes f.1 (fun x => { x with lead := some a, dir := f.2 }), by simp only [State.follow, State.modAxis, joined, e]⟩

/-- What Roller decides of a creep leaves the advance's request and target (R272, R273). -/
theorem creepCheck_keeps (s : State) (a : Adv) (made : Nat) (begin_ : Bool) :
    (creepCheck s a made begin_).1.req = a.req ∧ (creepCheck s a made begin_).1.target = a.target := by
  unfold creepCheck
  extract_lets
  split
  extract_lets a1 fallNow a2 lim
  have h2 : a2.req = a.req ∧ a2.target = a.target := by
    unfold a2
    split <;> exact ⟨rfl, rfl⟩
  split
  · exact h2
  · split <;> exact h2

/-- Where FEED is at rest the creep either begins a move or is over already; the advance runs on (R272). -/
theorem creepBegin_rest (s : State) (a : Adv) (h : (s.axis 0).move = none) :
    RollerFrame busyRows s (creepBegin s a) ∧
      ∃ a' axes, (creepBegin s a).rol = { s.rol with run := some a', axes := axes } ∧ a'.req = a.req ∧ a'.target = a.target := by
  obtain ⟨hreq, htarget⟩ := creepCheck_keeps s a 0 true
  have run (a' : Adv) : RollerFrame busyRows s (s.modRol (fun x => { x with run := some a' })) := (RollerFrame.refl _ s).modRol _
  unfold creepBegin
  extract_lets r new a1 s1 t m
  have hm : (s1.axis 0).move = none := h
  split
  · rw [creepEnd, clearMove_none s1 0 hm]
    exact ⟨(run a1).modRol _, _, _, rfl, hreq, htarget⟩
  · rw [hm]
    obtain ⟨axes, hrol⟩ := rol_beginMove s1 0 (withExit s1 { m with at_ := some (rampAt t 0).1, used := [s.get R.MOT_ADV_DEC_TBL] })
    exact ⟨(run a1).trans (frame_beginMove ..), a1, axes, hrol, hreq, htarget⟩

/-- What R269 and R249 ask for before an advance begins. -/
structure AdvReady (s : State) : Prop where
  fo : feedOwner s = true
  run : s.rol.run = none
  swath : s.bit R.MOT_CTRL_ADV_TRIG = true → s.rol.swath = true
  free : axisBusy s 0 = false
  phase : s.bit R.MOT_AXa_STAT_PHASE_LOST 0 = false
  limit : limitAhead s 0 false none = false
  acc : loaded s.rol.ramps (s.get R.MOT_ADV_ACC_TBL) = true
  dec : loaded s.rol.ramps (s.get R.MOT_ADV_DEC_TBL) = true
  en : s.bit R.MOT_AXa_EN 0 = true
  estop : estopActive s = false
  exit : advExit s = true → startRefused s 1 (s.bit R.MOT_AXa_MOVE_DIR 1) [] false = none
  unchained : s.bit R.MOT_CTRL_ADV_CHAIN = false

/-- Nothing refuses a move of FEED whose segments use loaded tables and no tracker (R249). -/
theorem AdvReady.start {s : State} (h : AdvReady s) (gs : List RSeg) (htbl : gs.any (fun g => g.needsTable && !(loaded s.rol.ramps g.tbl)) = false)
    (hterm : gs.any (fun g => g.term = 4 && (0 != 0 || !(Variant.hasTrk s.variant))) = false) : startRefused s 0 false gs false = none := by
  simp only [startRefused, h.free, h.phase, h.limit, htbl, hterm, h.en, h.estop, Bool.not_true, Bool.false_eq_true, if_false]

/-- Nor the stop from which a creep follows at once, nor the three segments of the fast phase (R271). -/
theorem AdvReady.segments {s : State} (h : AdvReady s) (steps : Int) (fast : List RSeg)
    (hfast : fast = [{ stopSeg (s.get R.MOT_ADV_ACC_TBL) with play := 0, ent := s.get R.MOT_ADV_CRUISE_ENT },
      { holdSeg none with term := 1, opd := 2 ^ 31 - 1 }, stopSeg (s.get R.MOT_ADV_DEC_TBL)]) :
    startRefused s 0 false (if steps ≤ 0 then [stopSeg (s.get R.MOT_ADV_DEC_TBL)] else fast) false = none := by
  split
  · exact h.start _ (by simp [stopSeg, h.dec]) (by simp [stopSeg])
  · exact h.start _ (by simp [hfast, stopSeg, holdSeg, RSeg.needsTable, h.acc, h.dec]) (by simp [hfast, stopSeg, holdSeg])

section
variable {s : State} {q : AdvReq} {l : List AdvReq} (hqueue : s.rol.queue = q :: l)
include hqueue

theorem advTrigger_elsewhere (hfo : feedOwner s = false) : advTrigger s = s := by
  simp [advTrigger, hqueue, hfo]

/-- The advance begins with its fast phase, or with its creep where that has no step to make (R271). -/
theorem advTrigger_begins (h : AdvReady s) :
    advTrigger s = creepBegin (s.advStarted q l) (advTaken s q) ∨ ∃ m, advTrigger s = beginMove (s.advStarted q l) 0 m := by
  have hf := frame_advStarted s q l
  unfold advTrigger
  rw [hqueue]
  dsimp -zeta only
  extract_lets trig n pl chain base s16 new a s1 steps acc dec cruise hold segs why m
  have hgo : ¬((!(feedOwner s) || s.rol.run.isSome || (trig && !s.rol.swath) || (!trig && axisBusy s 0)) = true) := by
    have hsw : (trig && !s.rol.swath) = false := by
      cases ht : trig with
      | false => rfl
      | true => simp [h.swath ht]
    simp [h.fo, h.run, hsw, h.free]
  have hchain : chain = false := by simp only [chain, h.unchained, Bool.false_and]
  have ha : a = advTaken s q := by
    simp only [a, base, hchain, Bool.false_eq_true, if_false]
    rfl
  have hs1 : s1 = s.advStarted q l := by
    simp only [s1, ha]
    rfl
  have hsegs : startRefused s1 0 false (if steps ≤ 0 then [stopSeg dec] else segs) false = none := by
    rw [hs1, hf.startRefused (by decide) 0 false _ false rfl rfl]
    exact h.segments steps segs rfl
  have hwhy : why = none := by
    simp only [why, hsegs]
    split
    case isTrue hexit => rw [hs1, hf.startRefused (by decide) 1 _ [] false rfl rfl, h.exit hexit]
    case isFalse => rfl
  rw [if_neg hgo, hwhy]
  dsimp -zeta only
  split
  · exact .inl (by rw [hs1, ha])
  · exact .inr ⟨_, by rw [hs1]⟩

/-- In either case the advance runs, with its request and its target. -/
theorem advTrigger_runs (h : AdvReady s) :
    RollerFrame (advRows ++ busyRows) s (advTrigger s) ∧ (advTrigger s).get R.MOT_ADV_RUNNING = 1 ∧
      ∃ a axes, (advTrigger s).rol = { (s.advStarted q l).rol with run := some a, axes := axes } ∧ a.req = q ∧
        a.target = latestPos s + q.len + s.rol.trim := by
  have started : RollerFrame (advRows ++ busyRows) s (s.advStarted q l) := (RollerFrame.refl _ s).trans (frame_advStarted s q l)
  have one : (s.advStarted q l).get R.MOT_ADV_RUNNING = 1 := State.get_set_self ..
  rcases advTrigger_begins hqueue h with e | ⟨m, e⟩
  · obtain ⟨hf, a, axes, hrol, hreq, htarget⟩ := creepBegin_rest (s.advStarted q l) (advTaken s q) (move_none_of_free h.free)
    rw [e]
    exact ⟨started.trans hf, (hf.get R.MOT_ADV_RUNNING 0).trans one, a, axes, hrol, hreq, htarget⟩
  · have hf := frame_beginMove (s.advStarted q l) 0 m
    obtain ⟨axes, hrol⟩ := rol_beginMove (s.advStarted q l) 0 m
    rw [e]
    exact ⟨started.trans hf, (hf.get R.MOT_ADV_RUNNING 0).trans one, advTaken s q, axes, hrol, rfl, rfl⟩

end

/-! ## The end of an advance (R274, R276, R277) -/

section
variable {s : State} {a : Adv} (hrun : s.rol.run = some a)
include hrun

theorem advSettle_early (h : a.phase ≠ 2) : advSettle s = s := by
  simp [advSettle, hrun, h]

theorem advSettle_elsewhere (h : a.phase = 2) (hfo : feedOwner s = false) :
    advSettle s = (s.modRol (fun r => { r with run := none })).set R.MOT_ADV_RUNNING 0 := by
  simp [advSettle, hrun, h, hfo]

/-- An advance that has settled: the line its record begins with, the lines it needs, and how long it took (R274). -/
def State.advSettled (s : State) (a : Adv) : Adv :=
  { a with
    fromLine := if s.timing.trk.isNone then s.get R.TIMING_LINE_CNT else (s.get R.TIMING_LINE_CNT + 1) % 2 ^ 32
    need := s.get R.MOT_ADV_SETTLE_LINES, us := (s.now - a.t0) / 1000 }

/-- The state in which that advance waits for its record alone and PASS_READY asserts. -/
def State.advPassed (s : State) (a : Adv) : State :=
  (s.modRol (fun r => { r with run := none, collect := r.collect ++ [s.advSettled a], prev := some (a.target, false), ready := true })).set
    R.MOT_ADV_RUNNING 0

/-- In feed-owner INSPECT a PASS boundary follows. -/
theorem advSettle_passes (h : a.phase = 2) (hfo : feedOwner s = true) :
    advSettle s = passBoundary (s.advPassed a) := by
  unfold advSettle
  rw [hrun]
  dsimp -zeta only
  rw [if_neg (not_not_intro h), if_neg (by simp [hfo])]
  rfl

theorem advDeadline_over (h : a.req.deadline = 0 ∨ a.late = true) : advDeadline s = s := by
  simp [advDeadline, hrun, h]

theorem advDeadline_missed (h : a.req.deadline ≠ 0) (hlate : a.late = false) :
    advDeadline s = ((s.modRol (fun r => { r with run := some { a with late := true } })).inc R.MOT_ADV_LATE_CNT).raise pgMOT 1 := by
  simp [advDeadline, hrun, h, hlate]

end

/-- A deadline missed is counted once, and the advance runs on (R274). -/
theorem advDeadline_counts {s : State} {a : Adv} (hrun : s.rol.run = some a) (h : a.req.deadline ≠ 0) (hlate : a.late = false) :
    RollerFrame [R.MOT_ADV_LATE_CNT] s (advDeadline s) ∧ (advDeadline s).rol.run = some { a with late := true } ∧
      (advDeadline s).get R.MOT_ADV_LATE_CNT = min (s.get R.MOT_ADV_LATE_CNT + 1) (Row.max R.MOT_ADV_LATE_CNT) := by
  rw [advDeadline_missed hrun h hlate]
  refine ⟨(((RollerFrame.refl _ s).modRol _).inc _ 0).raise _ _, congrArg Roller.run (raise_rol ..), ?_⟩
  rw [get_raise_clear _ _ _ R.MOT_ADV_LATE_CNT, get_inc_self, get_modRol]

/-- Settling ends in feed-owner INSPECT with PASS_READY and one PASS boundary (R276). -/
theorem exec_advSettleDone_passed {s : State} {a : Adv} (hrun : s.rol.run = some a) (hc : s.calm = true) (hphase : a.phase = 2)
    (hfo : feedOwner s = true) (hshadow : s.shadow = []) :
    ∃ t, exec .advSettleDone s = .next t ∧ t.rol.run = none ∧ t.rol.ready = true ∧ t.get R.MOT_ADV_RUNNING = 0 ∧
      t.get R.MOT_PASS_CNT = (s.get R.MOT_PASS_CNT + 1) % 2 ^ 32 := by
  have settled : exec .advSettleDone s = ran s (after (passAfter s (advSettle s))) := rfl
  have left : RollerFrame [R.MOT_ADV_RUNNING] s (s.advPassed a) := ((RollerFrame.refl _ s).modRol _).set _ _ 0
  obtain ⟨z, counted⟩ := passFrame_passBoundary (s.advPassed a) hshadow
  have own := frame_passCounted (s.advPassed a) z
  have passed := counted.trans (passFrame_passAfter s _)
  have hstopped : (s.advPassed a).get R.MOT_ADV_RUNNING = 0 := State.get_set_self ..
  rw [settled, advSettle_passes hrun hphase hfo]
  refine ⟨_, ran_after_calm (left.same.trans (own.same.trans passed.same)) (passed.calm.trans (own.calm.trans (left.calm.trans hc))),
    congrArg Roller.run passed.rol, congrArg Roller.ready passed.rol, ?_, ?_⟩
  · rw [passed.get R.MOT_ADV_RUNNING, own.get R.MOT_ADV_RUNNING, hstopped]
  · rw [passed.get R.MOT_PASS_CNT, cnt_passCounted, left.get R.MOT_PASS_CNT]

/-! ## The record (R274) -/

/-- The state in which the record of the oldest advance, whose bytes are `bs`, has left and no flag has been raised for it. -/
def State.advReported (s : State) (a : Adv) (l : List Adv) (bs : List (BitVec 8)) : State :=
  (s.emit 1 0x07 0x10 bs).modRol (fun r =>
    { r with collect := l, prevPos := some (roundDiv (sumI (a.lines.map (·.1))) a.lines.length) })

section
variable {s : State} {a : Adv} {l : List Adv} (h : s.rol.collect = a :: l)
include h

theorem advRecord_waits (hneed : a.lines.length < a.need) : advRecord s = s := by
  simp only [advRecord, h, hneed, if_true]

/-- What an advance's record does besides is to count, and to raise the flags of advances. -/
theorem advRecord_reports (hneed : a.need ≤ a.lines.length) :
    ∃ bs, FlagFrame (s.advReported a l bs) (advRecord s) ∧ (advRecord s).rol = (s.advReported a l bs).rol := by
  unfold advRecord
  rw [h]
  dsimp -zeta only
  rw [if_neg (Nat.not_lt.mpr hneed)]
  extract_lets got err dist fb src s1 s2
  have counted : FlagFrame s1 ((s1.setI R.MOT_ADV_LAST_ERR err).inc R.MOT_ADV_CNT) := ⟨.rfl, rfl, List.prefix_rfl⟩
  have flagged : FlagFrame s1 s2 := counted.raise pgMOT 0
  have hrol : s2.rol = s1.rol := raise_rol ..
  refine ⟨advBytes a a.target got err dist (min a.us (2 ^ 32 - 1)) (advFlags a false fb) src, ?_⟩
  split
  · have missed : FlagFrame s1 (s2.inc R.MOT_ADV_FB_CNT) := ⟨flagged.same, flagged.ins, flagged.outbox⟩
    exact ⟨missed.raise pgMOT 2, (raise_rol ..).trans hrol⟩
  · exact ⟨flagged, hrol⟩

/-- The record of an advance whose settle lines are in leaves first; the flags' IRQ events may follow it. -/
theorem advRecord_sent (hneed : a.need ≤ a.lines.length) :
    SameFrame s (advRecord s) ∧ (advRecord s).rol.collect = l ∧
      ∃ p rest, (advRecord s).outbox = s.outbox ++ p :: rest ∧ p.cls = 1 ∧ p.prod = 0x07 ∧ p.kind = 0x10 := by
  obtain ⟨bs, flagged, hrol⟩ := advRecord_reports h hneed
  obtain ⟨rest, hout⟩ := flagged.outbox
  exact ⟨flagged.same, congrArg Roller.collect hrol, _, rest, hout.symm.trans (List.append_assoc ..), rfl, rfl, rfl⟩

end

/-! ## What the statement asks -/

/-- Settles O31: a push and a trigger by the order of their checks, the end of settling by the frame of a PASS boundary, and the record by the
frame of the flags raised behind it. -/
theorem advanceQueueAndRecords : Obligations.AdvanceQueueAndRecords := by
  unfold Obligations.AdvanceQueueAndRecords
  refine ⟨fun s ag htakes => ?push, fun s q l hqueue hc => ?trigger, fun s a hrun hc => ?running, fun s a l hcollect => ?record⟩
  case push =>
    have pushed : exec (.motAdvPush ag) s = ran s (advPush s) := congrArg (ran s) (gate_takes s ag pgMOT 0x0D0 _ _ htakes)
    have flushed : exec (.motAdvFlush ag) s = ran s (advFlush s) := congrArg (ran s) (gate_takes s ag pgMOT 0x0D0 _ _ htakes)
    have refused (code : Nat) : ran s (s.err pgMOT code) = .next (s.err pgMOT code) := ((RollerFrame.refl [] s).err ..).same.ran
    refine ⟨fun hfo => ?_, fun hfo hfull => ?_, fun hfo hroom hrange => ?_, fun hfo hroom hcreep hlen htbl => ?_,
      fun hfo hroom hcreep hlen hdec hacc hfast hscale => ?_, flushed.trans (ran_eq s _ rfl rfl rfl)⟩
    · rw [pushed, advPush_elsewhere s hfo, refused]
    · rw [pushed, advPush_full s hfo hfull, refused]
    · rw [pushed, advPush_range s hfo hroom hrange, refused]
    · rw [pushed, advPush_unloaded s hfo hroom hcreep hlen htbl, refused]
    · rw [pushed, advPush_queued s hfo hroom hcreep hlen hdec hacc hfast hscale]
      exact ran_eq s _ rfl rfl rfl
  case trigger =>
    have triggered : exec .advTrigger s = ran s (after (advTrigger s)) := rfl
    refine ⟨fun hfo => ?_, fun hfo hidle hswath hfree hphase hlimit hacc hdec hen hestop hexit hchain => ?_⟩
    · rw [triggered, advTrigger_elsewhere hqueue hfo, ran_after_calm .rfl hc]
    · obtain ⟨frame, hrunning, a, axes, hrol, hreq, htarget⟩ :=
        advTrigger_runs hqueue ⟨hfo, hidle, hswath, hfree, hphase, hlimit, hacc, hdec, hen, hestop, hexit, hchain⟩
      refine ⟨advTrigger s, a, triggered.trans (frame.ran_after hc), ?_, ?_, hreq, htarget, ?_, hrunning⟩ <;> rw [hrol] <;> rfl
  case running =>
    have settled : exec .advSettleDone s = ran s (after (passAfter s (advSettle s))) := rfl
    have missed : exec .advDeadlineMiss s = ran s (after (advDeadline s)) := rfl
    refine ⟨fun hphase => ?_, fun hphase hfo => ?_, fun hphase hfo hshadow => exec_advSettleDone_passed hrun hc hphase hfo hshadow,
      fun hover => ?_, fun hdeadline hlate => ?_⟩
    · rw [settled, advSettle_early hrun hphase, passAfter_same s s rfl, ran_after_calm .rfl hc]
    · have frame : RollerFrame [R.MOT_ADV_RUNNING] s ((s.modRol (fun r => { r with run := none })).set R.MOT_ADV_RUNNING 0) :=
        ((RollerFrame.refl _ s).modRol _).set _ _ 0
      have hcnt := frame.get R.MOT_PASS_CNT 0
      rw [settled, advSettle_elsewhere hrun hphase hfo, passAfter_same s _ hcnt, frame.ran_after hc]
      exact ⟨_, rfl, rfl, rfl, State.get_set_self .., hcnt⟩
    · rw [missed, advDeadline_over hrun hover, ran_after_calm .rfl hc]
    · obtain ⟨frame, hlateRun, hcnt⟩ := advDeadline_counts hrun hdeadline hlate
      exact ⟨_, missed.trans (frame.ran_after hc), hlateRun, hcnt⟩
  case record =>
    have recorded : exec .advRecord s = ran s (advRecord s) := rfl
    refine ⟨fun hwait => ?_, fun hneed => ?_⟩
    · rw [recorded, advRecord_waits hcollect hwait, SameFrame.rfl.ran]
    · obtain ⟨frame, hleft, p, rest, hsent⟩ := advRecord_sent hcollect hneed
      exact ⟨_, p, rest, recorded.trans frame.ran, hleft, hsent⟩

end Sys2Proof.Machine
end

section
/-! SUPPORT. Steps of a move, edges of the encoders, and edges of the limit inputs (StepsEncodersAndLimits). -/
namespace Sys2Proof.Machine
open Sys2Proof

/-! ## Bits of a field -/

theorem bitOf_eq_testBit (n i : Nat) : bitOf n i = n.testBit i := by
  rw [Nat.testBit_eq_decide_div_mod_eq]
  rfl

/-- The bit set in a number reads as it was set. -/
theorem bitOf_setBit (n i : Nat) (b : Bool) : bitOf (setBit n i b) i = b := by
  unfold setBit
  split
  case isTrue h => exact eq_of_beq h
  case isFalse h =>
    rw [bitOf_eq_testBit] at h ⊢
    cases b with
    | true =>
      rw [if_pos rfl, Nat.add_comm, Nat.testBit_two_pow_add_eq]
      simpa using h
    | false =>
      have hset : n.testBit i = true := by simpa using h
      have hsum := Nat.testBit_two_pow_add_eq (n - 2 ^ i) i
      rw [Nat.add_sub_cancel' (Nat.ge_two_pow_of_testBit hset), hset] at hsum
      simpa using hsum.symm

/-- So does the bit of a field at least so wide. -/
theorem bitOf_get_set (s : State) (r : Row) (n p i : Nat) (b : Bool) (hi : i < r.width) :
    bitOf ((s.set r (setBit n i b) p).get r p) i = b := by
  rw [State.get_set_self, bitOf_eq_testBit, Nat.testBit_mod_two_pow, decide_eq_true hi, Bool.true_and, ← bitOf_eq_testBit, bitOf_setBit]

/-! ## An advance aborted (R274) -/

def abortRows : List Row := [R.MOT_ADV_RUNNING, R.MOT_ADV_QUEUED, R.MOT_HOLD_FAULT, R.MOT_HOLD_OUT]

/-- The state in which a queued advance has left its record of zero steps. -/
def State.advDropped (s : State) (q : AdvReq) : State :=
  advAborted (s.draw.2.modRol (fun r => { r with advNum := s.rol.advNum + 1 })) (advNew q (s.rol.advNum + 1)) (Config.unstated 17 s.draw.1)

theorem advDiscard_eq (s : State) :
    advDiscard s = ((s.each s.rol.queue State.advDropped).modRol (fun r => { r with queue := [] })).set R.MOT_ADV_QUEUED 0 := rfl

theorem frame_advDropped (s : State) (q : AdvReq) : RollerFrame abortRows s (s.advDropped q) :=
  ((RollerFrame.refl abortRows s).draw.modRol _).trans (frame_advAborted ..)

theorem frame_advDiscard (s : State) : RollerFrame abortRows s (advDiscard s) := by
  rw [advDiscard_eq]
  exact (((RollerFrame.refl abortRows s).each s.rol.queue frame_advDropped).modRol _).set _ _ 0

theorem axis_advDiscard (s : State) (a : Nat) : (advDiscard s).axis a = s.axis a :=
  List.foldlRecOn (motive := fun u : State => u.axis a = s.axis a) s.rol.queue State.advDropped rfl (fun _ hu _ _ => hu)

/-- The advance that runs is taken from its move, or leaves its record where there is none. -/
theorem frame_advAbort (s : State) (hold : Bool) : RollerFrame abortRows s (advAbort s hold) := by
  unfold advAbort
  split
  · split
    · exact .refl _ s
    · exact frame_advDiscard s
  · extract_lets a s1 s2 s3
    have h1 : RollerFrame abortRows s s1 := ((RollerFrame.refl abortRows s).modRol _).set _ _ 0
    have h2 : RollerFrame abortRows s s2 := by
      unfold s2
      split
      · exact (h1.trans (frame_setMove ..)).modRol _
      · exact h1.trans (frame_advAborted ..)
    have h3 : RollerFrame abortRows s s3 := h2.trans (frame_advDiscard s2)
    split
    · exact (h3.set _ _ 0).trans (frame_holdUpdate _)
    · exact h3

theorem axis_holdUpdate (s : State) (a : Nat) : (holdUpdate s).axis a = s.axis a := by
  unfold holdUpdate
  extract_lets src out s1
  split
  · exact axis_raise ..
  · rfl

theorem rephase_setMove (s : State) (a b : Nat) (m : Option Move) : ((setMove s a m).axis b).rephase = (s.axis b).rephase :=
  axis_modAxis_kept Axis.rephase s a b _ rfl

theorem rephase_advAbort (s : State) (hold : Bool) (b : Nat) : ((advAbort s hold).axis b).rephase = (s.axis b).rephase := by
  unfold advAbort
  split
  · split
    · rfl
    · rw [axis_advDiscard]
  · extract_lets a s1 s2 s3
    have h2 : (s2.axis b).rephase = (s.axis b).rephase := by
      unfold s2
      split
      · exact rephase_setMove s1 0 b _
      · rfl
    have h3 : (s3.axis b).rephase = (s.axis b).rephase := (congrArg Axis.rephase (axis_advDiscard s2 b)).trans h2
    split
    · rw [axis_holdUpdate]
      exact h3
    · exact h3

/-- Out of CAPTURE a fault of an axis does no more than abort the advance (R274, R303). -/
theorem frame_advFault (s : State) (a : Nat) (h : paced s a = false) : RollerFrame abortRows s (advFault s a) := by
  have left : RollerFrame abortRows s (s.modRol (fun r => { r with fault := r.fault || paced s a })) :=
    (RollerFrame.refl _ s).modRol _ rfl (by rw [h, Bool.or_false])
  unfold advFault
  split
  · extract_lets s1
    split
    · exact left.trans (frame_advAbort s1 true)
    · exact left
  · exact .refl _ s

theorem rephase_advFault (s : State) (a b : Nat) : ((advFault s a).axis b).rephase = (s.axis b).rephase := by
  unfold advFault
  split
  · extract_lets s1
    split
    · exact rephase_advAbort s1 true b
    · rfl
  · rfl

/-! ## Readback (R267) -/

theorem ballCheck_good (s : State) (a : Nat) : ballCheck s a true = s.modAxis a (fun x => { x with ballBad := 0 }) := rfl

def ballRows : List Row := R.MOT_AXa_STAT_BALL_FAULT :: haltRows ++ abortRows

/-- A second bad readback in a row sets BALL_FAULT, halts the axis and ends its re-phase. -/
theorem ballCheck_fails (s : State) (a : Nat) (h : 1 ≤ (s.axis a).ballBad) (hmode : s.mode = .idle) :
    RollerFrame ballRows s (ballCheck s a false) ∧ ((ballCheck s a false).axis a).rephase = none ∧
      (ballCheck s a false).get R.MOT_AXa_STAT_BALL_FAULT a = 1 := by
  unfold ballCheck
  extract_lets n s1 s2
  have hn : ¬n < 2 := by simp only [n, Bool.false_eq_true, if_false]; omega
  rw [if_neg hn]
  have set : RollerFrame ballRows s (s1.set R.MOT_AXa_STAT_BALL_FAULT 1 a) := ((RollerFrame.refl ballRows s).modAxis a _).set _ _ a
  have halted : RollerFrame haltRows (s1.set R.MOT_AXa_STAT_BALL_FAULT 1 a) (rollerEvent s2 a 1 5 0xFF) :=
    ((((RollerFrame.refl haltRows _).raise (pgAXIS a) 6).trans (frame_haltAxis _ a)).modAxis a _).event ..
  have hidle : (rollerEvent s2 a 1 5 0xFF).mode = .idle := ((set.trans halted).mode).trans hmode
  have aborted := frame_advFault (rollerEvent s2 a 1 5 0xFF) a (by simp [paced, hidle])
  refine ⟨(set.trans halted).trans aborted, ?_, ?_⟩
  · rw [rephase_advFault, axis_rollerEvent, axis_modAxis_self]
  · rw [aborted.get R.MOT_AXa_STAT_BALL_FAULT, halted.get R.MOT_AXa_STAT_BALL_FAULT, State.get_set_self]
    rfl

/-! ## Steps (R239, R240, R247) -/

section
variable {s : State} {a : Nat}

theorem axisStep_rest (h : (s.axis a).rephase = none) (hm : (s.axis a).move = none) (hlead : (s.axis a).lead = none) (ok : Bool) :
    axisStep s a ok = s := by
  simp [axisStep, h, hm, hlead]

theorem axisStep_follower (h : (s.axis a).rephase = none) (hm : (s.axis a).move = none) (hlead : (s.axis a).lead ≠ none) (ok : Bool) :
    axisStep s a ok = ballCheck s a ok := by
  simp [axisStep, h, hm, Option.isSome_iff_ne_none, hlead]

/-- The state in which a re-phase step has been made, and `n` are to go (R263). -/
def State.rephased (s : State) (a n : Nat) (d : Bool) : State := (stepPulse s a).modAxis a (fun x => { x with rephase := some (n, d) })

theorem axisStep_rephase {n : Nat} {d : Bool} (h : (s.axis a).rephase = some (n + 1, d)) (ok : Bool) :
    axisStep s a ok = ballCheck (s.rephased a n d) a ok := by
  simp only [axisStep, h, Nat.add_one_ne_zero, if_false, Nat.add_sub_cancel]
  rfl

theorem frame_rephased (s : State) (a n : Nat) (d : Bool) : RollerFrame [] s (s.rephased a n d) := (frame_stepPulse s a).modAxis a _

theorem rephase_rephased_good (s : State) (a n : Nat) (d : Bool) :
    (((s.rephased a n d).modAxis a (fun x => { x with ballBad := 0 })).axis a).rephase = some (n, d) := by
  rw [axis_modAxis_self, State.rephased, axis_modAxis_self]

theorem axisStep_move {m : Move} (h : (s.axis a).rephase = none) (hm : (s.axis a).move = some m) (hhost : m.what = .host) (ok : Bool) :
    axisStep s a ok = ballCheck (moveStep s a m) a ok := by
  simp [axisStep, h, hm, hhost]

/-- A step of a host move that leads no group and has no budget moves the position; the move goes on, enters its next segment, or is over. -/
theorem frame_moveStep {m : Move} {g : RSeg} (hhost : m.what = .host) (hbudget : m.budget = none) (hsel : m.sel = none)
    (hfollow : m.followers = []) (hseg : m.segs[m.idx]? = some g) :
    RollerFrame endRows (posStep (s.set R.MOT_AXa_STAT_SEG m.idx a) a m.neg) (moveStep s a m) := by
  unfold moveStep
  simp only [hhost, hbudget, hsel, hfollow, hseg, budgetRule, followStep, List.foldl_nil, Option.isSome_none, Bool.and_false, Bool.false_and,
    Bool.false_eq_true, if_false, Option.map_none, reduceCtorEq]
  generalize posStep (s.set R.MOT_AXa_STAT_SEG m.idx a) a m.neg = stepped
  generalize htop : (if (m.play.getD (playSeg m g)).emit.2.1 = true then stepped.raise (pgAXIS a) 7 else stepped) = shown
  have h : RollerFrame endRows stepped shown := by
    rw [← htop]
    split
    · exact (RollerFrame.refl _ _).raise _ _
    · exact .refl _ _
  split
  · split
    · exact h.trans (frame_setMove ..)
    · exact (h.trans (frame_setMove ..)).trans (frame_clearMove ..)
  · exact h.trans (frame_setMove ..)

/-- The position moves by one microstep in the move's direction (R240). -/
theorem moveStep_moves {m : Move} {g : RSeg} (hhost : m.what = .host) (hbudget : m.budget = none) (hsel : m.sel = none)
    (hfollow : m.followers = []) (hseg : m.segs[m.idx]? = some g) :
    RollerFrame (endRows ++ posRows) s (moveStep s a m) ∧
      axPos (moveStep s a m) a = ofTwos 48 (toTwos 48 (axPos s a + (if m.neg then -1 else 1))) := by
  have shown : RollerFrame endRows s (s.set R.MOT_AXa_STAT_SEG m.idx a) := (RollerFrame.refl _ s).set _ _ a
  have moved := frame_moveStep (s := s) (a := a) hhost hbudget hsel hfollow hseg
  have whole := (((RollerFrame.refl (endRows ++ posRows) s).trans shown).trans (frame_posStep _ a m.neg)).trans moved
  exact ⟨whole, by rw [moved.axPos, axPos_posStep, shown.axPos]⟩

end

/-! ## Encoders (R255) -/

/-- The state in which the levels of an encoder's inputs are kept. -/
def State.encLevels (s : State) (e : Nat) (a b : Bool) : State := s.modRol (fun r => { r with encLev := smPut r.encLev e (a, b) })

theorem levels_encLevels (s : State) (e : Nat) (a b : Bool) : smGet (false, false) (s.encLevels e a b).rol.encLev e = (a, b) :=
  smGet_smPut_self ..

/-- The steps of the quadrature cycle from the levels kept to these. -/
def encTurn (s : State) (e : Nat) (a b : Bool) : Nat :=
  (quadPhase a b + 4 - quadPhase (smGet (false, false) s.rol.encLev e).1 (smGet (false, false) s.rol.encLev e).2) % 4

def encErrRow (e : Nat) : Row := if e = 0 then R.MOT_ENC0_ERR else R.MOT_ENC1_ERR

section
variable (s : State) (e : Nat) (a b : Bool)

theorem encEdge_same (h : encTurn s e a b = 0) : encEdge s e a b = s.encLevels e a b := if_pos h

theorem encEdge_skips (h : encTurn s e a b = 2) : encEdge s e a b = (s.encLevels e a b).inc (encErrRow e) := by
  have h0 : encTurn s e a b ≠ 0 := by omega
  exact (if_neg h0).trans (if_pos h)

theorem encEdge_counts (h : encTurn s e a b = 1 ∨ encTurn s e a b = 3) :
    encEdge s e a b = (s.encLevels e a b).set64 R.MOT_ENCe_CNT_LO R.MOT_ENCe_CNT_HI
      (toTwos 48 (encCount s e + (if (encTurn s e a b == 1) != s.bit R.MOT_ENCe_INV 0 e then 1 else -1))) 0 e := by
  have h0 : encTurn s e a b ≠ 0 := by omega
  have h2 : encTurn s e a b ≠ 2 := by omega
  exact (if_neg h0).trans (if_neg h2)

theorem encTurn_lt : encTurn s e a b < 4 := Nat.mod_lt _ (by decide)

/-- The count of an encoder stands apart from its count of errors. -/
theorem encCount_inc (he : e < 2) (e' : Nat) : encCount (s.inc (encErrRow e')) e = encCount s e := by
  have apart (r : Row) (hr : r = R.MOT_ENCe_CNT_LO ∨ r = R.MOT_ENCe_CNT_HI) : (s.inc (encErrRow e')).get r 0 e = s.get r 0 e := by
    refine State.get_set_ne _ _ _ _ _ _ _ _ ?_
    unfold encErrRow
    rcases hr with rfl | rfl <;> split <;>
      simp only [Row.code, R.MOT_ENCe_CNT_LO, R.MOT_ENCe_CNT_HI, R.MOT_ENC0_ERR, R.MOT_ENC1_ERR] <;> omega
  simp only [encCount, State.get64, apart _ (.inl rfl), apart _ (.inr rfl)]

theorem encCount_set64 (v : Int) :
    encCount (s.set64 R.MOT_ENCe_CNT_LO R.MOT_ENCe_CNT_HI (toTwos 48 v) 0 e) e = ofTwos 48 (toTwos 48 v) := by
  rw [encCount, get64_set64 _ _ _ _ _ _ (by simp only [Row.code, R.MOT_ENCe_CNT_LO, R.MOT_ENCe_CNT_HI]; omega) rfl]
  exact ofTwos_mod 48 _

/-! ### An edge -/

theorem encEdge_keeps : SameFrame s (encEdge s e a b) ∧ smGet (false, false) (encEdge s e a b).rol.encLev e = (a, b) := by
  have hlev := levels_encLevels s e a b
  have hturn : encTurn s e a b = 0 ∨ encTurn s e a b = 2 ∨ encTurn s e a b = 1 ∨ encTurn s e a b = 3 := by
    have := encTurn_lt s e a b
    omega
  rcases hturn with h | h | h
  · rw [encEdge_same s e a b h]
    exact ⟨.rfl, hlev⟩
  · rw [encEdge_skips s e a b h]
    exact ⟨.rfl, hlev⟩
  · rw [encEdge_counts s e a b h]
    exact ⟨.rfl, hlev⟩

theorem encCount_encEdge (he : e < 2) :
    encCount (encEdge s e a b) e = (if encTurn s e a b = 1 ∨ encTurn s e a b = 3 then
      ofTwos 48 (toTwos 48 (encCount s e + (if (encTurn s e a b == 1) != s.bit R.MOT_ENCe_INV 0 e then 1 else -1))) else encCount s e) := by
  have hlt := encTurn_lt s e a b
  split
  case isTrue h => rw [encEdge_counts s e a b h, encCount_set64]
  case isFalse h =>
    have hturn : encTurn s e a b = 0 ∨ encTurn s e a b = 2 := by omega
    rcases hturn with h | h
    · rw [encEdge_same s e a b h]
      rfl
    · rw [encEdge_skips s e a b h, encCount_inc _ _ he]
      rfl

theorem err_encEdge (h : encTurn s e a b = 2) :
    (encEdge s e a b).get (encErrRow e) = min (s.get (encErrRow e) + 1) (Row.max (encErrRow e)) := by
  rw [encEdge_skips s e a b h, get_inc_self]
  rfl

end

/-! ## Limit inputs (R256, R257, R259) -/

section
variable (s : State) (i : Nat)

@[simp] theorem lim_modLim_self (f : LimIn → LimIn) : (s.modLim i f).lim i = f (s.lim i) := by
  simp [State.lim, State.modLim, State.modRol, smMod]

/-- The state in which LIM_RAW shows a raw level of an input. -/
def State.limShown (level : Bool) : State :=
  (s.modLim i (fun x => { x with raw := level })).set R.MOT_LIM_RAW (setBit (s.get R.MOT_LIM_RAW) i level)

theorem frame_limShown (level : Bool) : RollerFrame [R.MOT_LIM_RAW] s (s.limShown i level) := ((RollerFrame.refl _ s).modRol _).set _ _ 0

theorem lim_limShown (level : Bool) : (s.limShown i level).lim i = { s.lim i with raw := level } := lim_modLim_self ..

end

section
variable {s : State} {i : Nat} {level : Bool} (hraw : (s.lim i).raw = !level)
include hraw

theorem limRaw_disarmed {a : Nat} (h : disarmedBy s i = some a) (frac : Nat) :
    limRaw s i level frac = (s.limShown i level).inc R.MOT_AXa_CHATTER a := by
  simp [limRaw, hraw, h, State.limShown]

/-- A debounced edge is kept, and the first of a change latches the positions (R256). -/
theorem limRaw_debounced (h : disarmedBy s i = none) (hdeb : s.get R.MOT_LIMi_DEB 0 i ≠ 0) (frac : Nat) :
    RollerFrame [] (s.limShown i level) (limRaw s i level frac) ∧ ((limRaw s i level frac).lim i).raw = level ∧
      ((limRaw s i level frac).lim i).qual = (s.lim i).qual := by
  have hrawLevel : ((s.limShown i level).lim i).raw = level := by rw [lim_limShown]
  have hqual : ((s.limShown i level).lim i).qual = (s.lim i).qual := by rw [lim_limShown]
  unfold limRaw
  extract_lets l s1 s2
  rw [if_neg (by simp [l, hraw]), h]
  dsimp -zeta only
  rw [if_neg hdeb]
  unfold s2
  split
  · refine ⟨(RollerFrame.refl [] _).modRol _, ?_⟩
    rw [lim_modLim_self]
    exact ⟨hrawLevel, hqual⟩
  · exact ⟨.refl [] _, hrawLevel, hqual⟩

end

/-! ### A level that qualifies -/

def hitRows : List Row := [R.MOT_AXa_LATCH_LO, R.MOT_AXa_LATCH_HI, R.MOT_AXa_LATCH_FRAC]

/-- An input that ends segments writes the axes' latches, and of Roller's own part their moves (R247, R256). -/
theorem inputHits_keeps (s : State) (i : Nat) (act : Bool) (latch : Option (List Int × List Nat)) :
    RollerFrame hitRows s (inputHits s i act latch) ∧ (inputHits s i act latch).rol.lims = s.rol.lims := by
  refine List.foldlRecOn (motive := fun u : State => RollerFrame hitRows s u ∧ u.rol.lims = s.rol.lims) _ _ ⟨.refl _ s, rfl⟩ (fun t ht a _ => ?_)
  obtain ⟨frame, hlims⟩ := ht
  split
  · exact ⟨frame, hlims⟩
  next m _ =>
  split
  · exact ⟨frame, hlims⟩
  split
  · extract_lets t1 b
    have h1 : RollerFrame hitRows s t1 := frame.trans (frame_setMove t a (some { m with hit := true }))
    split
    · exact ⟨(h1.set64 _ _ _ a).set _ _ a, hlims⟩
    · exact ⟨h1, hlims⟩
  · exact ⟨frame, hlims⟩

/-- The state in which LIM_QUAL shows an input's new level, and LIM_TRIP an active one (R256, R257). -/
def State.limJudged (s : State) (i : Nat) (level : Bool) : State :=
  let act := level != s.bit R.MOT_LIMi_POL 0 i
  let s1 := (s.modLim i (fun x => { x with qual := level, latch := none })).set R.MOT_LIM_QUAL (setBit (s.get R.MOT_LIM_QUAL) i act)
  if act then s1.set R.MOT_LIM_TRIP (setBit (s1.get R.MOT_LIM_TRIP) i true) else s1

def judgeRows : List Row := R.MOT_LIM_QUAL :: R.MOT_LIM_TRIP :: hitRows

/-- The state in which the segments that wait for that input have seen it too. -/
def State.limMet (s : State) (i : Nat) (level : Bool) : State :=
  inputHits (s.limJudged i level) i (level != s.bit R.MOT_LIMi_POL 0 i) (s.lim i).latch

section
variable (s : State) (i : Nat) (level : Bool)

theorem frame_limJudged : RollerFrame judgeRows s (s.limJudged i level) := by
  unfold State.limJudged
  extract_lets act s1
  have h1 : RollerFrame judgeRows s s1 := ((RollerFrame.refl _ s).modRol _).set _ _ 0
  split
  · exact h1.set _ _ 0
  · exact h1

theorem frame_limMet : RollerFrame judgeRows s (s.limMet i level) := (frame_limJudged s i level).trans (inputHits_keeps ..).1

theorem lims_limJudged : (s.limJudged i level).rol.lims = smMod LimIn.init s.rol.lims i (fun x => { x with qual := level, latch := none }) := by
  unfold State.limJudged
  extract_lets act s1
  split <;> rfl

theorem qual_limMet : ((s.limMet i level).lim i).qual = level := by
  rw [State.limMet, State.lim, (inputHits_keeps ..).2, lims_limJudged, smMod, smGet_smPut_self]

theorem bit_qual_limMet (hi : i < 8) : bitOf ((s.limMet i level).get R.MOT_LIM_QUAL) i = (level != s.bit R.MOT_LIMi_POL 0 i) := by
  rw [State.limMet, (inputHits_keeps ..).1.get R.MOT_LIM_QUAL]
  unfold State.limJudged
  extract_lets act s1
  have hone : bitOf (s1.get R.MOT_LIM_QUAL) i = act := bitOf_get_set _ R.MOT_LIM_QUAL _ 0 i act hi
  split
  · have trip : RollerFrame [R.MOT_LIM_TRIP] s1 (s1.set R.MOT_LIM_TRIP (setBit (s1.get R.MOT_LIM_TRIP) i true)) := (RollerFrame.refl _ _).set _ _ 0
    rw [trip.get R.MOT_LIM_QUAL, hone]
  · exact hone

theorem bit_trip_limMet (hi : i < 8) (hact : level ≠ s.bit R.MOT_LIMi_POL 0 i) : bitOf ((s.limMet i level).get R.MOT_LIM_TRIP) i = true := by
  rw [State.limMet, (inputHits_keeps ..).1.get R.MOT_LIM_TRIP]
  unfold State.limJudged
  extract_lets act s1
  rw [if_pos (bne_iff_ne.mpr hact)]
  exact bitOf_get_set s1 R.MOT_LIM_TRIP _ 0 i true hi

end

section
variable {s : State} {i : Nat} {level : Bool}

theorem limQualify_moved (hraw : (s.lim i).raw = !level) : limQualify s i level = s := by
  simp [limQualify, hraw]

theorem limQualify_disarmed (h : disarmedBy s i ≠ none) : limQualify s i level = s := by
  simp [limQualify, Option.isSome_iff_ne_none, h]

variable (hraw : (s.lim i).raw = level) (harmed : disarmedBy s i = none) (hqual : (s.lim i).qual = !level)
include hraw harmed hqual

/-- A home input, or one of no role, does no more than end segments (R257). -/
theorem limQualify_home (hrole : s.get R.MOT_LIMi_ROLE 0 i < 2) : limQualify s i level = s.limMet i level := by
  unfold limQualify
  extract_lets l act s1 s2
  rw [if_neg (by simp [l, hraw, harmed]), if_neg (by simp [l, hqual])]
  split
  · rfl
  · have hrole' : s.get R.MOT_LIMi_ROLE 0 i = 0 ∨ s.get R.MOT_LIMi_ROLE 0 i = 1 := by omega
    rcases hrole' with e | e <;> rw [e] <;> rfl

theorem limQualify_estop (hrole : s.get R.MOT_LIMi_ROLE 0 i = 4) (hact : level ≠ s.bit R.MOT_LIMi_POL 0 i) :
    limQualify s i level = estop (s.limMet i level) i := by
  unfold limQualify
  extract_lets l act s1 s2
  rw [if_neg (by simp [l, hraw, harmed]), if_neg (by simp [l, hqual]), if_neg (by simp [act, hact]), hrole]
  rfl

end

/-! ### ESTOP (R257, R260) -/

def faultRows : List Row := R.MOT_AXa_STAT_HOME_FAULT :: R.MOT_AXa_STAT_HOMED :: haltRows

/-- A homing that ESTOP ends is halted at once (R260). -/
theorem frame_homeFault_estop (s : State) (a inp : Nat) : RollerFrame faultRows s (homeFault s a 4 inp) := by
  unfold homeFault
  split
  · exact .refl _ s
  next m _ =>
  extract_lets s1 s2 s3 s4
  have h1 : RollerFrame faultRows s s1 := (RollerFrame.refl faultRows s).trans (frame_setMove s a (some { m with what := .host }))
  have h3 : RollerFrame faultRows s s3 := (((h1.set _ _ a).set _ _ a).raise _ _).err ..
  have h4 : s4 = haltAxis s3 a := if_neg (fun h => absurd h.1 (by decide))
  rw [h4]
  exact (h3.trans (frame_haltAxis s3 a)).event ..

def estopRows : List Row := faultRows ++ abortRows

/-- Out of CAPTURE, an ESTOP input halts every axis, ends their re-phases and aborts the advance behind ESTOP. -/
theorem estop_shows (s : State) (i : Nat) (hmode : s.mode = .idle) :
    RollerFrame (R.MOT_STAT_ESTOP :: estopRows) s (estop s i) ∧ (estop s i).get R.MOT_STAT_ESTOP = 1 := by
  unfold estop
  extract_lets s1 s2 s3 s4
  have shown : RollerFrame (R.MOT_STAT_ESTOP :: estopRows) s (s.set R.MOT_STAT_ESTOP 1) := (RollerFrame.refl _ s).set _ _ 0
  have raised : RollerFrame estopRows (s.set R.MOT_STAT_ESTOP 1) s1 := (RollerFrame.refl _ _).raise ..
  have halted : RollerFrame estopRows (s.set R.MOT_STAT_ESTOP 1) s2 := by
    refine raised.each _ fun t a => ?_
    split
    · exact (RollerFrame.refl _ t).trans (frame_homeFault_estop t a i)
    · exact (RollerFrame.refl _ t).trans (frame_haltAxis t a)
  have rested : RollerFrame estopRows (s.set R.MOT_STAT_ESTOP 1) s3 := halted.each _ fun t a => (RollerFrame.refl _ t).modAxis a _
  have hidle : s4.mode = .idle := ((shown.trans (rested.event ..)).mode).trans hmode
  have behind := (rested.event 0xFF 1 3 i).trans (frame_advFault s4 0 (by simp [paced, hidle]))
  exact ⟨shown.trans behind, (behind.get R.MOT_STAT_ESTOP 0).trans (State.get_set_self ..)⟩

/-! ## What the statement asks -/

/-- Settles O29: each clause by what the operation's own equation leaves, its registers by the operation's frame. -/
theorem stepsEncodersAndLimits : Obligations.StepsEncodersAndLimits := by
  unfold Obligations.StepsEncodersAndLimits
  refine ⟨fun s a hc => ?steps, fun s e a b => ?encoders, fun s j level frac hc hraw => ?edges, fun s j level hc => ?levels⟩
  case steps =>
    have stepped (ok : Bool) : exec (.axisStep a ok) s = ran s (after (axisStep s a ok)) := rfl
    refine ⟨fun hrest hm hlead ok => ?_, fun hrest hm hlead => ?_, fun n d hmode _ hrephase hbad => ?_, fun n d hrephase => ?_,
      fun m g hrest hm hhost hbudget hsel hfollow hseg => ?_⟩
    · rw [stepped, axisStep_rest hrest hm hlead, ran_after_calm .rfl hc]
    · rw [stepped, axisStep_follower hrest hm hlead, ballCheck_good, ((RollerFrame.refl [] s).modAxis _ _).ran_after hc]
    · have made := frame_rephased s a n d
      have hbad' : 1 ≤ ((s.rephased a n d).axis a).ballBad := by
        rwa [State.rephased, axis_modAxis_self, stepPulse, axis_modAxis_self]
      obtain ⟨ended, hended, hfault⟩ := ballCheck_fails (s.rephased a n d) a hbad' (made.mode.trans hmode)
      have frame := ((RollerFrame.refl ballRows s).trans made).trans ended
      rw [stepped, axisStep_rephase hrephase, frame.ran_after hc]
      exact ⟨_, rfl, hended, hfault⟩
    · have frame := (frame_rephased s a n d).modAxis a (fun x => { x with ballBad := 0 })
      rw [stepped, axisStep_rephase hrephase, ballCheck_good, frame.ran_after hc]
      exact ⟨_, rfl, rephase_rephased_good s a n d, rfl⟩
    · obtain ⟨moved, hpos⟩ := moveStep_moves (s := s) (a := a) hhost hbudget hsel hfollow hseg
      have good := (RollerFrame.refl [] (moveStep s a m)).modAxis a (fun x => { x with ballBad := 0 })
      rw [stepped, axisStep_move hrest hm hhost, ballCheck_good, (moved.trans good).ran_after hc]
      exact ⟨_, rfl, (good.axPos a).trans hpos, moved.mem⟩
  case encoders =>
    have turned : exec (.encEdge e a b) s = ran s (encEdge s e a b) := rfl
    obtain ⟨same, hlevels⟩ := encEdge_keeps s e a b
    refine ⟨encEdge s e a b, turned.trans same.ran, hlevels, encCount_encEdge s e a b e.isLt, fun hskip => ?_⟩
    have herr := err_encEdge s e a b hskip
    exact ⟨fun h => by subst h; exact herr, fun h => by subst h; exact herr⟩
  case edges =>
    have edged : exec (.limRawEdge j level frac) s = ran s (after (limRaw s j level frac)) := rfl
    have shown := frame_limShown s j level
    have hbit : bitOf ((s.limShown j level).get R.MOT_LIM_RAW) j = level := bitOf_get_set _ R.MOT_LIM_RAW _ 0 j level j.isLt
    refine ⟨fun a hdis => ?_, fun hdis hdeb => ?_⟩
    · have counted : RollerFrame [R.MOT_AXa_CHATTER] (s.limShown j level) ((s.limShown j level).inc R.MOT_AXa_CHATTER a) :=
        (RollerFrame.refl _ _).inc _ a
      have whole := ((RollerFrame.refl [R.MOT_LIM_RAW, R.MOT_AXa_CHATTER] s).trans shown).trans counted
      rw [edged, limRaw_disarmed hraw hdis, whole.ran_after hc]
      refine ⟨_, rfl, ?_, ?_, whole.get R.MOT_LIM_QUAL 0⟩
      · rw [counted.get R.MOT_LIM_RAW, hbit]
      · rw [get_inc_self, shown.get R.MOT_AXa_CHATTER a]
    · obtain ⟨kept, hrawLevel, hqual⟩ := limRaw_debounced hraw hdis hdeb frac
      have whole := shown.trans kept
      rw [edged, whole.ran_after hc]
      exact ⟨_, rfl, hrawLevel, (kept.get R.MOT_LIM_RAW 0).symm ▸ hbit, hqual, whole.get R.MOT_LIM_QUAL 0⟩
  case levels =>
    have judged : exec (.limQualify j level) s = ran s (after (limQualify s j level)) := rfl
    have met := frame_limMet s j level
    refine ⟨fun hraw => ?_, fun hdis => ?_, fun hraw harmed hqual hrole => ?_, fun hraw harmed hqual hrole hact hmode => ?_⟩
    · rw [judged, limQualify_moved hraw, ran_after_calm .rfl hc]
    · rw [judged, limQualify_disarmed hdis, ran_after_calm .rfl hc]
    · rw [judged, limQualify_home hraw harmed hqual hrole, met.ran_after hc]
      exact ⟨_, rfl, qual_limMet s j level, bit_qual_limMet s j level j.isLt, bit_trip_limMet s j level j.isLt⟩
    · obtain ⟨frame, hestop⟩ := estop_shows (s.limMet j level) j (met.mode.trans hmode)
      have whole : RollerFrame (R.MOT_STAT_ESTOP :: estopRows ++ judgeRows) s _ := ((RollerFrame.refl _ s).trans met).trans frame
      rw [judged, limQualify_estop hraw harmed hqual hrole hact, whole.ran_after hc]
      exact ⟨_, rfl, hestop⟩

end Sys2Proof.Machine
end

section
/-! SUPPORT. What the pacing shows and which rung it selects (PacingChoosesTheRung). -/
namespace Sys2Proof.Machine
open Sys2Proof

/-! ## The capture's own part -/

@[simp] theorem get_modCap (s : State) (f : Cap → Cap) (r : Row) (p i : Nat) : (s.modCap f).get r p i = s.get r p i := rfl

theorem RollerFrame.modCap {L : List Row} {s t : State} (h : RollerFrame L s t) (f : Cap → Cap) : RollerFrame L s (t.modCap f) :=
  h.trans { RollerFrame.refl L t with } (List.Subset.refl L)

/-! ## A rung selected (R296) -/

theorem frame_capSelect (s : State) (r : Nat) : RollerFrame [R.CAP_RUNG] s (capSelect s r) :=
  (((RollerFrame.refl _ s).modCap _).set R.CAP_RUNG r 0).raise pgCAP 2

theorem rung_capSelect (s : State) (r : Nat) : (capSelect s r).get R.CAP_RUNG = r % 2 ^ R.CAP_RUNG.width := by
  rw [capSelect, get_raise_clear _ _ _ R.CAP_RUNG, State.get_set_self]

theorem cap_capSelect (s : State) (r : Nat) : (capSelect s r).cap = { s.cap with want := some r, since := some s.now } := raise_cap ..

/-! ## PACING_UPDATE (R298, R299) -/

/-- The state in which the estimate shows, a new tenth of its window has begun, and the samples that credit idled through are counted (log 90). -/
def State.paceSampled (s : State) : State :=
  (s.set R.CAP_DRAIN_EST (min (drainEst s / 1024) (Row.max R.CAP_DRAIN_EST))).modCap (fun c =>
    { c with grants := 0 :: c.grants.take 9, okTicks := if creditIdle s then c.okTicks + 1 else 0 })

theorem frame_paceSampled (s : State) : RollerFrame [R.CAP_DRAIN_EST] s s.paceSampled := ((RollerFrame.refl _ s).set _ _ 0).modCap _

/-- The field holds the saturated estimate as it is (log 113). -/
theorem est_paceSampled (s : State) : s.paceSampled.get R.CAP_DRAIN_EST = min (drainEst s / 1024) (Row.max R.CAP_DRAIN_EST) := by
  have hfits : min (drainEst s / 1024) (Row.max R.CAP_DRAIN_EST) < 2 ^ R.CAP_DRAIN_EST.width :=
    Nat.lt_of_le_of_lt (Nat.min_le_right ..) (Nat.sub_lt (Nat.two_pow_pos _) Nat.one_pos)
  rw [State.paceSampled, get_modCap, State.get_set_self, Nat.mod_eq_of_lt hfits]

/-- What lets PACING_UPDATE select the rung above the one in force (R299). -/
structure MayRise (s : State) : Prop where
  mode : s.mode = .capture
  moves : capMoves s = true
  held : ∀ c, s.cap.since = some c → c + 1000000 * s.get R.CAP_RUNG_HOLD ≤ s.now
  top : s.cap.rung < topRung s
  unselected : s.get R.CAP_RUNG ≠ s.cap.rung + 1
  fill : capFill s < s.get R.CAP_WM_HIGH
  room : drainCarries s (drainEst s) (s.cap.rung + 1) = true ∨ (creditIdle s = true ∧ 10 ≤ s.cap.okTicks)

theorem capPacing_elsewhere (s : State) (h : s.mode ≠ .capture) : capPacing s = s.paceSampled := by
  simp only [capPacing, h, decide_false, Bool.false_and, Bool.false_eq_true, if_false]
  rfl

theorem capPacing_rises {s : State} (h : MayRise s) : capPacing s = capSelect s.paceSampled (s.cap.rung + 1) := by
  have hsince : s.cap.since.all (fun t => decide (t + 1000000 * s.get R.CAP_RUNG_HOLD ≤ s.now)) = true := by
    rw [Option.all_eq_true]
    exact fun c hc => decide_eq_true (h.held c hc)
  have hroom : (drainCarries s (drainEst s) (s.cap.rung + 1) || decide (11 ≤ s.paceSampled.cap.okTicks)) = true := by
    rcases h.room with hdrain | ⟨hidle, hticks⟩
    · rw [hdrain, Bool.true_or]
    · have counted : s.paceSampled.cap.okTicks = s.cap.okTicks + 1 := if_pos hidle
      rw [counted, decide_eq_true (by omega), Bool.or_true]
  refine if_pos ?_
  simp only [Bool.and_eq_true, decide_eq_true_eq]
  exact ⟨⟨⟨⟨⟨⟨h.mode, h.moves⟩, h.unselected⟩, hsince⟩, h.top⟩, h.fill⟩, hroom⟩

/-! ## RUNG_HIGH_HOLD (R300) -/

theorem capHighHold_falls {s : State} (hmode : s.mode = .capture) (hmoves : capMoves s = true) (hfill : s.get R.CAP_WM_HIGH ≤ capFill s)
    (hrung : s.get R.CAP_RUNG ≠ 0) : capHighHold s = capSelect s (s.get R.CAP_RUNG - 1) := by
  simp [capHighHold, hmode, hmoves, hfill, hrung]

theorem capHighHold_stays {s : State} (h : s.mode ≠ .capture ∨ capFill s < s.get R.CAP_WM_HIGH ∨ s.get R.CAP_RUNG = 0) : capHighHold s = s := by
  refine if_neg fun hall => ?_
  simp only [Bool.and_eq_true, decide_eq_true_eq, bne_iff_ne] at hall
  obtain ⟨⟨⟨hmode, -⟩, hfill⟩, hrung⟩ := hall
  rcases h with h | h | h
  · exact h hmode
  · exact absurd hfill (Nat.not_le.mpr h)
  · exact hrung h

theorem capMoves_of {s : State} (h : s.get R.CAP_STATE = 0 ∨ s.get R.CAP_STATE = 6) : capMoves s = true := by
  simpa [capMoves] using h

/-- Settles O34: either timer selects one rung or none, and the frames of a selection and of the sample carry what else is asked. -/
theorem pacingChoosesTheRung : Obligations.PacingChoosesTheRung := by
  intro s
  have paced : exec .pacingUpdate s = ran s (capPacing s) := rfl
  have hold : exec .rungHighHold s = ran s (capHighHold s) := rfl
  have sampled := frame_paceSampled s
  refine ⟨fun hmode => ?_, fun hmode hmoves hheld htop hsel hfill hroom => ?_, fun hmode hmoves hfill hrung => ?_, fun hno => ?_⟩
  · rw [paced, capPacing_elsewhere s hmode, sampled.same.ran]
    exact ⟨_, rfl, sampled.get R.CAP_RUNG 0, est_paceSampled s, rfl⟩
  · have chosen := frame_capSelect s.paceSampled (s.cap.rung + 1)
    have hcap := cap_capSelect s.paceSampled (s.cap.rung + 1)
    rw [paced, capPacing_rises ⟨hmode, capMoves_of hmoves, hheld, htop, hsel, hfill, hroom⟩, (sampled.same.trans chosen.same).ran]
    exact ⟨_, rfl, rung_capSelect .., congrArg Cap.want hcap, congrArg Cap.grants hcap⟩
  · rw [hold, capHighHold_falls hmode (capMoves_of hmoves) hfill hrung, (frame_capSelect s _).same.ran]
    exact ⟨_, rfl, rung_capSelect .., congrArg Cap.want (cap_capSelect ..)⟩
  · rw [hold, capHighHold_stays hno, SameFrame.rfl.ran]

end Sys2Proof.Machine
end

section
/-! SUPPORT. Pages of the host and pauses of the feed by command (CapturePagesAndPauses). -/
namespace Sys2Proof.Machine
open Sys2Proof

/-! ## CAP_CMD -/

section
variable {s : State} {ag : Agent} (htakes : s.takes ag pgCAP 0x05C = true)
include htakes

theorem exec_capPageStart : exec (.capPageStart ag) s = ran s (capPageStart s) := congrArg (ran s) (gate_takes s ag pgCAP 0x05C _ _ htakes)

theorem exec_capPageEnd : exec (.capPageEnd ag) s = ran s (after (capPageEnd s)) := congrArg (ran s) (gate_takes s ag pgCAP 0x05C _ _ htakes)

theorem exec_capPauseCmd : exec (.capPauseCmd ag) s = ran s (after (capHostPause s)) :=
  congrArg (ran s) (gate_takes s ag pgCAP 0x05C _ _ htakes)

variable (hgap : s.bit R.CAL_STAT_GAP = false)
include hgap

/-- Outside a calibration gap no resumption is held (R431). -/
theorem exec_capResume : exec (.capResume ag) s = ran s (after (capDoResume s)) := by
  have taken : exec (.capResume ag) s = ran s (cmdResume s false) := congrArg (ran s) (gate_takes s ag pgCAP 0x05C _ _ htakes)
  simp only [taken, cmdResume, hgap, Bool.false_eq_true, if_false]

theorem exec_capResumeForce : exec (.capResumeForce ag) s = ran s (after (capDoForce s)) := by
  have taken : exec (.capResumeForce ag) s = ran s (cmdResume s true) := congrArg (ran s) (gate_takes s ag pgCAP 0x05C _ _ htakes)
  simp only [taken, cmdResume, hgap, Bool.false_eq_true, if_false, if_true]

end

theorem gap_of_calm {s : State} (hc : s.calm = true) : s.bit R.CAL_STAT_GAP = false := by
  simp only [State.calm, Bool.and_eq_true, Bool.not_eq_true'] at hc
  obtain ⟨⟨⟨⟨-, hgap⟩, -⟩, -⟩, -⟩ := hc
  exact hgap

/-! ## Pages (R286, R287) -/

def pageRows : List Row := [R.CAP_STAT_PAGE_OPEN, R.CAP_PAGE_CNT]

/-- The state in which the record of a page, whose bytes are `bs`, has left and the page is counted, and no flag has been raised for it. -/
def State.pageReported (s : State) (bs : List (BitVec 8)) (last : Nat) : State :=
  ((s.emit 1 0x08 0x10 bs (some last)).set R.CAP_STAT_PAGE_OPEN 0).inc R.CAP_PAGE_CNT

theorem frame_pageReported (s : State) (bs : List (BitVec 8)) (last : Nat) : RollerFrame pageRows s (s.pageReported bs last) := by
  have left : RollerFrame pageRows s (s.emit 1 0x08 0x10 bs (some last)) := { RollerFrame.refl pageRows s with }
  exact (left.set _ _ 0).inc _ 0

/-- The state in which the page is closed, with its flag raised and a PAGE boundary due. -/
def State.pageClosed (s : State) (bs : List (BitVec 8)) (last : Nat) (f : Cap → Cap) : State :=
  { ((s.pageReported bs last).raise pgCAP 1).modCap f with pageDue := true }

theorem frame_pageClosed (s : State) (bs : List (BitVec 8)) (last : Nat) (f : Cap → Cap) : RollerFrame pageRows s (s.pageClosed bs last f) :=
  { ((frame_pageReported s bs last).raise pgCAP 1).modCap f with }

theorem open_pageClosed (s : State) (bs : List (BitVec 8)) (last : Nat) (f : Cap → Cap) :
    (s.pageClosed bs last f).get R.CAP_STAT_PAGE_OPEN = 0 := by
  have flagged := get_raise_clear (s.pageReported bs last) pgCAP 1 R.CAP_STAT_PAGE_OPEN 0
  refine flagged.trans ?_
  rw [State.pageReported, State.inc, State.incBy, State.get_set_apart _ _ _ _ _ (by decide), State.get_set_self]
  rfl

theorem cnt_pageClosed (s : State) (bs : List (BitVec 8)) (last : Nat) (f : Cap → Cap) :
    (s.pageClosed bs last f).get R.CAP_PAGE_CNT = min (s.get R.CAP_PAGE_CNT + 1) (Row.max R.CAP_PAGE_CNT) := by
  have flagged := get_raise_clear (s.pageReported bs last) pgCAP 1 R.CAP_PAGE_CNT 0
  refine flagged.trans ?_
  rw [State.pageReported, get_inc_self, State.get_set_apart _ _ _ _ _ (by decide)]
  rfl

/-- The page's record leaves first; the flag's IRQ event may follow it. -/
theorem outbox_pageClosed (s : State) (bs : List (BitVec 8)) (last : Nat) (f : Cap → Cap) :
    ∃ p rest, (s.pageClosed bs last f).outbox = s.outbox ++ p :: rest ∧ p.cls = 1 ∧ p.prod = 0x08 ∧ p.kind = 0x10 := by
  obtain ⟨rest, hout⟩ := outbox_raise_prefix (s.pageReported bs last) pgCAP 1
  exact ⟨_, rest, hout.symm.trans (List.append_assoc ..), rfl, rfl, rfl⟩

section
variable {s : State} (hmode : s.mode = .capture) (hhost : s.bit R.CAP_CTRL_PAGE_MODE = false)
include hmode hhost

theorem capPageStart_arms (hpage : s.cap.page = none) : capPageStart s = s.modCap (fun c => { c with arm := true }) := by
  simp [capPageStart, hmode, hhost, hpage]

theorem capPageEnd_closes : capPageEnd s = capClosePage (s.modCap (fun c => { c with arm := false })) false true := by
  simp [capPageEnd, hmode, hhost]

theorem capPageEnd_disarms (hpage : s.cap.page = none) : capPageEnd s = s.modCap (fun c => { c with arm := false }) := by
  have hnone : (s.modCap (fun c => { c with arm := false })).cap.page = none := hpage
  rw [capPageEnd_closes hmode hhost, capClosePage, hnone]

end

/-- With no line held back, and no stop at its end, a page closes at once (R287). -/
theorem capClosePage_reports {s : State} {pg : CapPage} (hpage : s.cap.page = some pg) (hheld : s.cap.held = none)
    (hstop : s.bit R.CAP_CTRL_STOP_AT_END = false) :
    ∃ bs last f, capClosePage s false true = (s.modCap (fun c => { c with held := none })).pageClosed bs last f ∧
      ∀ c, (f c).page = none := by
  have flushed : capFlush s true false = s.modCap (fun c => { c with held := none }) := by simp only [capFlush, hheld]
  have kept : (s.modCap (fun c => { c with held := none })).cap.page = some pg := hpage
  simp only [capClosePage, hpage, flushed, kept, hstop, Bool.not_true, Bool.false_eq_true, if_false]
  exact ⟨_, _, _, rfl, fun _ => rfl⟩

/-! ## PAUSE (R303) -/

/-- HALT of a move or of a re-phase keeps to the frame (R252). -/
theorem frame_haltNow (s : State) (l : Nat) : RollerFrame haltRows s (haltNow s l) := by
  unfold haltNow
  split
  · split
    · exact (frame_haltAxis s l).trans (frame_advStopped _)
    · exact frame_haltAxis s l
  · split
    · exact ((RollerFrame.refl _ s).modAxis l _).set _ _ l
    · exact .refl _ s

def stopRows : List Row := R.MOT_AXa_STOP_TBL :: haltRows

/-- A stop changes the move alone, or names its table, or halts where the table was never loaded (R251; log 24). -/
theorem frame_stopMove (s : State) (a t : Nat) : RollerFrame stopRows s (stopMove s a t) := by
  have unchanged : RollerFrame stopRows s s := .refl _ s
  have moved (l : Nat) (m : Option Move) : RollerFrame stopRows s (setMove s l m) := unchanged.trans (frame_setMove s l m)
  unfold stopMove
  extract_lets l
  split
  · exact unchanged
  · extract_lets m c p
    split
    · exact unchanged
    · split
      · split <;> exact moved ..
      · split
        · exact unchanged.trans (frame_haltNow s l)
        · split
          · split
            · split
              · exact moved ..
              · exact unchanged.set _ _ l
            · exact unchanged
          · exact moved ..

theorem frame_capCauseSet (s : State) (b : Nat) (v : Bool) : RollerFrame [R.CAP_PAUSE_CAUSE] s (capCauseSet s b v) :=
  (RollerFrame.refl _ s).set _ _ 0

/-- The state in which a pause for the cause has been counted and shows as STOPPING, and the feed has not been told (R303). -/
def State.pauseCounted (s : State) (b : Nat) : State :=
  capState ((capCountPause (capCauseSet s b true)).modCap (fun c => { c with want := none, pend := none })) 1

def pauseRows : List Row := [R.CAP_PAUSE_CAUSE, R.CAP_PAUSE_CNT, R.CAP_STATE]

theorem frame_pauseCounted (s : State) (b : Nat) : RollerFrame pauseRows s (s.pauseCounted b) :=
  (((((RollerFrame.refl _ s).trans (frame_capCauseSet s b true)).inc R.CAP_PAUSE_CNT 0).modCap _).modCap _).set R.CAP_STATE 1 0

theorem cause_pauseCounted (s : State) (b : Nat) (hb : b < 4) : bitOf ((s.pauseCounted b).get R.CAP_PAUSE_CAUSE) b = true := by
  have rest : RollerFrame [R.CAP_PAUSE_CNT, R.CAP_STATE] (capCauseSet s b true) (s.pauseCounted b) :=
    ((((RollerFrame.refl _ _).inc R.CAP_PAUSE_CNT 0).modCap _).modCap _).set R.CAP_STATE 1 0
  rw [rest.get R.CAP_PAUSE_CAUSE 0]
  exact bitOf_get_set s R.CAP_PAUSE_CAUSE (capCauses s) 0 b true hb

theorem cnt_pauseCounted (s : State) (b : Nat) :
    (s.pauseCounted b).get R.CAP_PAUSE_CNT = min (s.get R.CAP_PAUSE_CNT + 1) (Row.max R.CAP_PAUSE_CNT) := by
  have shown := State.get_set_apart (capCountPause (capCauseSet s b true)) R.CAP_STATE R.CAP_PAUSE_CNT 1 0 (by decide)
  have before := (frame_capCauseSet s b true).get R.CAP_PAUSE_CNT 0
  refine shown.trans ?_
  rw [capCountPause, get_modCap, get_inc_self, before]

theorem capMoves_capCauseSet (s : State) (b : Nat) (v : Bool) : capMoves (capCauseSet s b v) = capMoves s := by
  simp only [capMoves, (frame_capCauseSet s b v).get R.CAP_STATE 0]

theorem capPause_stops {s : State} (h : capMoves s = true) (b : Nat) : capPause s b = stopOwn (s.pauseCounted b) 0 := by
  simp only [capPause, capMoves_capCauseSet, h, Bool.not_true, Bool.false_eq_true, if_false]
  rfl

theorem capPause_joins {s : State} (h : capMoves s = false) (b : Nat) : capPause s b = capCauseSet s b true := by
  simp only [capPause, capMoves_capCauseSet, h, Bool.not_false, if_true]

/-! ## The feed starts again (R304) -/

/-- FEED is as free to start as it was where axes and the fields of R249 stand as before. -/
theorem RollerFrame.feedFree {L : List Row} {s t : State} (h : RollerFrame L s t) (back : Bool) (haxis : t.axis 0 = s.axis 0)
    (hL : startClear L = true := by decide) (hexit : Row.clear R.CAP_CTRL_EXIT L = true := by decide) : t.feedFree back = s.feedFree back := by
  have hlimit := h.limitAhead hL 0 back none
  have hestop := h.estopActive hL
  simp only [startClear, Bool.and_eq_true, List.all_eq_true] at hL
  simp only [State.feedFree, axisBusy, capExit, haxis, hlimit, hestop, h.same.2.2, h.bit _ 0 hexit,
    h.bit _ 0 (hL.1 R.MOT_AXa_STAT_PHASE_LOST (by decide)), h.bit _ 0 (hL.1 R.MOT_AXa_EN (by decide))]

/-- Nothing refuses a free FEED a move over loaded tables, and no other axis follows it (R249, R285). -/
theorem capMove_begins {s : State} {back : Bool} (hfree : s.feedFree back = true) (velocity : Bool) (budget : Option Nat) (segs : List RSeg)
    (htbl : segs.any (fun g => g.needsTable && !(loaded s.rol.ramps g.tbl)) = false) (hterm : segs.any (fun g => g.term = 4) = false) :
    ∃ m, capMove s back velocity budget segs = (beginMove s 0 m, true) ∧ m.neg = back ∧ m.velocity = velocity := by
  simp only [State.feedFree, Bool.and_eq_true, Bool.not_eq_true'] at hfree
  obtain ⟨⟨⟨⟨⟨hbusy, hphase⟩, hlimit⟩, hen⟩, hestop⟩, hexit⟩ := hfree
  have hterms : segs.any (fun g => g.term = 4 && (0 != 0 || !(Variant.hasTrk s.variant))) = false := by
    rw [List.any_eq_false] at hterm ⊢
    exact fun g hg => by simp [hterm g hg]
  have hstart : startRefused s 0 back segs false = none := by
    simp only [startRefused, hbusy, hphase, hlimit, htbl, hterms, hen, hestop, Bool.not_true, Bool.false_eq_true, if_false]
  simp only [capMove, hexit, hstart, Bool.false_eq_true, if_false]
  exact ⟨_, rfl, rfl, rfl⟩

/-- The rung that the feed starts with, and whether even rung 0 lacks lead-in (R304, R312). -/
def firstRung (s : State) : Nat × Bool := if s.cap.first then (s.get R.CAP_RUNG, false) else restartRung s

def rungRows : List Row := [R.CAP_RUNG, R.CAP_STAT_SHORT_LEADIN, R.CAP_STAT_LED_UNSTABLE]

/-- The state in which the rung of the start shows and the feed has not been told. -/
def State.rungShown (s : State) : State :=
  let s1 := s.modCap (fun c => { c with first := false, want := none, pend := none, ledTimer := false })
  let s2 := if s1.get R.CAP_RUNG = (firstRung s).1 then s1
    else ((s1.modCap (fun c => { c with since := some s.now })).set R.CAP_RUNG (firstRung s).1).raise pgCAP 2
  (if (firstRung s).2 then s2.set R.CAP_STAT_SHORT_LEADIN 1 else s2).set R.CAP_STAT_LED_UNSTABLE 0

/-- What showing the rung leaves alone: Roller's own part and the ladder. -/
theorem rungShown_keeps (s : State) : RollerFrame rungRows s s.rungShown ∧ s.rungShown.rol = s.rol ∧ s.rungShown.cap.ladder = s.cap.ladder := by
  unfold State.rungShown
  extract_lets s1 s2
  have cleared : RollerFrame rungRows s s1 := (RollerFrame.refl _ s).modCap _
  have chosen : RollerFrame rungRows s s2 ∧ s2.rol = s.rol ∧ s2.cap.ladder = s.cap.ladder := by
    unfold s2
    split
    · exact ⟨cleared, rfl, rfl⟩
    · exact ⟨((cleared.modCap _).set R.CAP_RUNG _ 0).raise pgCAP 2, raise_rol .., (congrArg Cap.ladder (raise_cap ..)).trans rfl⟩
  obtain ⟨frame, hrol, hladder⟩ := chosen
  split
  · exact ⟨(frame.set _ _ 0).set _ _ 0, hrol, hladder⟩
  · exact ⟨frame.set _ _ 0, hrol, hladder⟩

def restartRows : List Row := R.CAP_STATE :: rungRows ++ busyRows

/-- A free FEED whose tables are loaded starts forward, without an end of its own (R304, R305). -/
theorem capRestart_starts {s : State} (hfree : s.feedFree false = true) (hload : ∀ r, loaded s.rol.ramps (rungAt s r).tbl = true) :
    RollerFrame restartRows s (capRestart s) ∧ (capRestart s).get R.CAP_STATE = (if s.cap.first then 0 else 6) ∧
      (capRestart s).cap.start = true ∧ ∃ m, ((capRestart s).axis 0).move = some m ∧ m.neg = false ∧ m.velocity = true := by
  obtain ⟨shown, hrol, hladder⟩ := rungShown_keeps s
  have hrung (r : Nat) : rungAt s.rungShown r = rungAt s r := by simp only [rungAt, rungs, hladder]
  let g := rungAt s.rungShown (firstRung s).1
  let segs : List RSeg := [{ stopSeg g.tbl with play := 0, ent := g.ent }, holdSeg none]
  have hg : loaded s.rungShown.rol.ramps g.tbl = true := by simp only [g, hrol, hrung, hload]
  have hfree' : s.rungShown.feedFree false = true :=
    (shown.feedFree false (by simp only [State.axis, hrol])).trans hfree
  obtain ⟨m, hmove, hneg, hvel⟩ := capMove_begins hfree' true none segs (by simp [segs, stopSeg, holdSeg, RSeg.needsTable, hg])
    (by simp [segs, stopSeg, holdSeg])
  have started : capRestart s =
      (capState (beginMove s.rungShown 0 m) (if s.cap.first then 0 else 6)).modCap (fun c => { c with start := true }) := by
    have told : capRestart s = if (capMove s.rungShown false true none segs).2 then
        (capState (capMove s.rungShown false true none segs).1 (if s.cap.first then 0 else 6)).modCap (fun c => { c with start := true })
      else capFault (capMove s.rungShown false true none segs).1 := rfl
    rw [told, hmove]
    rfl
  have begun : RollerFrame restartRows s (beginMove s.rungShown 0 m) :=
    ((RollerFrame.refl _ s).trans shown).trans (frame_beginMove _ 0 m)
  rw [started]
  refine ⟨(begun.set R.CAP_STATE _ 0).modCap _, ?_, rfl, m.aimed s.rungShown, move_beginMove s.rungShown 0 m, hneg, hvel⟩
  rw [get_modCap, capState, State.get_set_self]
  split <;> rfl

/-! ## The setpoints of the illumination (R75, R307) -/

/-- A transaction that is due waits in its slice or leaves for the link, and nothing else changes. -/
theorem linkDue_eq (s : State) (k : Nat) (c : LinkCur) : ∃ slices tx, linkDue s k c = { s with slices := slices, tx := tx } := by
  unfold linkDue
  split
  · exact ⟨_, _, rfl⟩
  · split <;> exact ⟨_, _, rfl⟩

/-- A setpoint written to a segment waits in its slice or leaves for the link, and nothing else changes. -/
theorem illumWrite_eq (s : State) (k : Nat) (vals : List Nat) :
    ∃ slices tx, illumWrite s k .illum vals = { s with slices := slices, tx := tx } := by
  unfold illumWrite linkStart
  split
  · exact ⟨_, _, rfl⟩
  · split
    · obtain ⟨slices, tx, due⟩ := linkDue_eq ((s.modSlice k _).modSlice k _) k _
      exact ⟨slices, tx, due⟩
    · exact ⟨_, _, rfl⟩

theorem capIllum_eq (s : State) (num : Nat) : ∃ slices tx, capIllum s num = { s with slices := slices, tx := tx } := by
  refine List.foldlRecOn (motive := fun u : State => ∃ slices tx, u = { s with slices := slices, tx := tx }) _ _ ⟨_, _, rfl⟩
    (fun u hu k _ => ?_)
  obtain ⟨slices, tx, rfl⟩ := hu
  split
  · exact ⟨_, _, rfl⟩
  · obtain ⟨slices', tx', written⟩ := illumWrite_eq { s with slices := slices, tx := tx } k _
    exact ⟨slices', tx', written⟩

/-! ## RESUME and RESUME_FORCE (R304) -/

/-- The state in which the causes HOST and LAP have gone. -/
def State.hostCleared (s : State) : State := capCauseSet (capCauseSet s causeHOST false) causeLAP false

theorem frame_hostCleared (s : State) : RollerFrame [R.CAP_PAUSE_CAUSE] s s.hostCleared :=
  ((RollerFrame.refl _ s).trans (frame_capCauseSet s causeHOST false)).trans (frame_capCauseSet _ causeLAP false)

/-- Where HOST was the only cause, none is left. -/
theorem cause_hostCleared {s : State} (h : s.get R.CAP_PAUSE_CAUSE = 2) : s.hostCleared.get R.CAP_PAUSE_CAUSE = 0 := by
  have host : (capCauseSet s causeHOST false).get R.CAP_PAUSE_CAUSE = 0 := by
    rw [capCauseSet, State.get_set_self, capCauses, h]
    rfl
  rw [State.hostCleared, capCauseSet, State.get_set_self, capCauses, host]
  rfl

section
variable {s : State} (hmode : s.mode = .capture)
include hmode

theorem capDoResume_tries (h : s.get R.CAP_STATE ≠ 7) : capDoResume s = capTryRestart s.hostCleared := by
  simp only [capDoResume, hmode, h, ne_eq, not_true_eq_false, if_false]
  rfl

variable (hcause : s.get R.CAP_PAUSE_CAUSE = 0)
include hcause

theorem capTryRestart_paused (h : s.get R.CAP_STATE = 3) : capTryRestart s = capRestart s := by
  simp [capTryRestart, capCauses, hmode, hcause, h]

theorem capTryRestart_standby (h : s.get R.CAP_STATE = 4) : capTryRestart s = capState (capIllum s 256) 5 := by
  simp [capTryRestart, capCauses, hmode, hcause, h]

theorem capTryRestart_stabilise (h : s.get R.CAP_STATE = 5) : capTryRestart s = s := by
  simp [capTryRestart, capCauses, hmode, hcause, h]

end

section
variable {s : State} (hmode : s.mode = .capture) (hcause : s.get R.CAP_PAUSE_CAUSE = 2)
include hmode hcause

theorem capDoResume_paused (h : s.get R.CAP_STATE = 3) : capDoResume s = capRestart s.hostCleared := by
  have frame := frame_hostCleared s
  rw [capDoResume_tries hmode (by omega), capTryRestart_paused (frame.mode.trans hmode) (cause_hostCleared hcause)
    ((frame.get R.CAP_STATE 0).trans h)]

theorem capDoResume_standby (h : s.get R.CAP_STATE = 4) : capDoResume s = capState (capIllum s.hostCleared 256) 5 := by
  have frame := frame_hostCleared s
  rw [capDoResume_tries hmode (by omega), capTryRestart_standby (frame.mode.trans hmode) (cause_hostCleared hcause)
    ((frame.get R.CAP_STATE 0).trans h)]

/-- RESUME_FORCE does not wait for STABILISE to end. -/
theorem capDoForce_stabilise (h : s.get R.CAP_STATE = 5) : capDoForce s = capRestart s.hostCleared := by
  have frame := frame_hostCleared s
  have hstate : s.hostCleared.get R.CAP_STATE = 5 := (frame.get R.CAP_STATE 0).trans h
  have hmode' : s.hostCleared.mode = .capture := frame.mode.trans hmode
  have resumed : capDoResume s = s.hostCleared := by
    rw [capDoResume_tries hmode (by omega), capTryRestart_stabilise hmode' (cause_hostCleared hcause) hstate]
  simp [capDoForce, resumed, hmode', hstate, capCauses, cause_hostCleared hcause]

end

/-- What starting the feed from the state without causes does, in terms of the state before the command. -/
theorem capRestart_hostCleared {s : State} (hcause : s.get R.CAP_PAUSE_CAUSE = 2) (hfree : s.feedFree false = true)
    (hload : ∀ r, loaded s.rol.ramps (rungAt s r).tbl = true) :
    ∃ m, RollerFrame (R.CAP_PAUSE_CAUSE :: restartRows) s (capRestart s.hostCleared) ∧
      (capRestart s.hostCleared).get R.CAP_STATE = (if s.cap.first then 0 else 6) ∧ (capRestart s.hostCleared).cap.start = true ∧
      ((capRestart s.hostCleared).axis 0).move = some m ∧ m.neg = false ∧ m.velocity = true ∧
      (capRestart s.hostCleared).get R.CAP_PAUSE_CAUSE = 0 := by
  have frame := frame_hostCleared s
  obtain ⟨started, hstate, hstart, m, hmove, hneg, hvel⟩ := capRestart_starts ((frame.feedFree false rfl).trans hfree) hload
  exact ⟨m, ((RollerFrame.refl _ s).trans frame).trans started, hstate, hstart, hmove, hneg, hvel,
    (started.get R.CAP_PAUSE_CAUSE 0).trans (cause_hostCleared hcause)⟩

/-! ## What the statement asks -/

/-- Settles O33: each command of CAP_CMD by the operation above that it comes to; all keep to the frame of Roller but for the setpoints, so that in
a calm state nothing follows them. -/
theorem capturePagesAndPauses : Obligations.CapturePagesAndPauses := by
  intro s ag htakes hmode hc
  have hgap := gap_of_calm hc
  rw [exec_capPageStart htakes, exec_capPageEnd htakes, exec_capPauseCmd htakes, exec_capResume htakes hgap, exec_capResumeForce htakes hgap]
  have hpause : capHostPause s = capPause s causeHOST := if_pos hmode
  rw [hpause]
  refine ⟨fun hhost => ⟨fun hpage => ⟨?_, ?_⟩, fun pg hpage hheld hstop => ?ends⟩, fun hmoves => ?pause, fun hrun hreturn => ?joins,
    fun hcause hstate => ?standby, fun hcause hfree hload => ⟨fun hstate => ?paused, fun hstate => ?stabilise⟩⟩
  · rw [capPageStart_arms hmode hhost hpage, ((RollerFrame.refl [] s).modCap _).same.ran]
  · rw [capPageEnd_disarms hmode hhost hpage, ((RollerFrame.refl [] s).modCap _).ran_after hc]
  case ends =>
    have disarmed : RollerFrame pageRows s (s.modCap (fun c => { c with arm := false, held := none })) := (RollerFrame.refl _ s).modCap _
    obtain ⟨bs, last, f, hclosed, hgone⟩ :=
      capClosePage_reports (s := s.modCap (fun c => { c with arm := false })) (pg := pg) hpage hheld hstop
    obtain ⟨p, rest, hsent, hrecord⟩ := outbox_pageClosed (s.modCap (fun c => { c with arm := false, held := none })) bs last f
    have closed := disarmed.trans (frame_pageClosed (s.modCap (fun c => { c with arm := false, held := none })) bs last f)
    rw [capPageEnd_closes hmode hhost, hclosed]
    exact ⟨_, p, rest, closed.ran_after hc, hgone _, open_pageClosed .., cnt_pageClosed .., rfl, hsent, hrecord⟩
  case pause =>
    have counted := frame_pauseCounted s causeHOST
    have stopped : RollerFrame stopRows (s.pauseCounted causeHOST) (stopOwn (s.pauseCounted causeHOST) 0) := frame_stopMove ..
    have whole : RollerFrame (pauseRows ++ stopRows) s (stopOwn (s.pauseCounted causeHOST) 0) := ((RollerFrame.refl _ s).trans counted).trans stopped
    rw [capPause_stops (capMoves_of hmoves)]
    refine ⟨_, whole.ran_after hc, ?_, ?_, ?_⟩
    · rw [stopped.get R.CAP_STATE 0]
      exact State.get_set_self ..
    · rw [stopped.get R.CAP_PAUSE_CAUSE 0]
      exact cause_pauseCounted s causeHOST (by decide)
    · rw [stopped.get R.CAP_PAUSE_CNT 0, cnt_pauseCounted]
  case joins =>
    have hrest : capMoves s = false := by simp [capMoves, hrun, hreturn]
    rw [capPause_joins hrest, (frame_capCauseSet s causeHOST true).ran_after hc]
    rfl
  case standby =>
    obtain ⟨slices, tx, lit⟩ := capIllum_eq s.hostCleared 256
    have written : RollerFrame [R.CAP_STATE, R.CAP_PAUSE_CAUSE] s { s.hostCleared with slices := slices, tx := tx } :=
      { (RollerFrame.refl _ s).trans (frame_hostCleared s) with }
    rw [capDoResume_standby hmode hcause hstate, lit]
    refine ⟨_, (written.set R.CAP_STATE 5 0).ran_after hc, State.get_set_self .., ?_⟩
    exact (State.get_set_apart _ _ _ _ _ (by decide)).trans (cause_hostCleared hcause)
  case paused =>
    obtain ⟨m, frame, hresumed, hstart, hmove, hneg, hvel, hnone⟩ := capRestart_hostCleared hcause hfree hload
    rw [capDoResume_paused hmode hcause hstate]
    exact ⟨_, m, frame.ran_after hc, hresumed, hstart, hmove, hneg, hvel, hnone⟩
  case stabilise =>
    obtain ⟨m, frame, hresumed, hstart, hmove, hneg, -, -⟩ := capRestart_hostCleared hcause hfree hload
    rw [capDoForce_stabilise hmode hcause hstate]
    exact ⟨_, m, frame.ran_after hc, hresumed, hstart, hmove, hneg⟩

end Sys2Proof.Machine
end
